-- ==== Sys2Proof/Word.lean ====
section
/-!
DEFINITION. Word.lean: the machine's word types (R8, R33, R34) and the sizes of R8.
-/
namespace Sys2Proof

/-- The 64-bit entry of the operand stack and of every control register (R34, R51). -/
abbrev Word := BitVec 64
/-- A memory byte (R33). -/
abbrev Byte := BitVec 8
/-- A 16-bit immediate or displacement (R67). -/
abbrev Half := BitVec 16
/-- A block register (R9) or a 32-bit immediate. -/
abbrev W32 := BitVec 32
/-- A till (R45). -/
abbrev Till := BitVec 80
/-- An F-stack entry, held at the wider WZ_VLEN of 512 bits (R46). -/
abbrev FEntry := BitVec 512

/-- The core number of R15. -/
abbrev CoreId := Fin 64
/-- The cluster number, region × 4 + cluster (R13, R15). -/
abbrev ClusterId := Fin 16
/-- The region number (R13). -/
abbrev RegionId := Fin 4
/-- The scratchpad bank number of R17. -/
abbrev BankId := Fin 256
/-- The timer channel number of R17. -/
abbrev ChanId := Fin 64
/-- The coupling port number (R6). -/
abbrev PortId := Fin 6
/-- The slice number (R58). -/
abbrev SliceId := Fin 64
/-- The DRAM channel number (R6). -/
abbrev McId := Fin 4

/-- The cluster that owns a core (R15). -/
def clusterOf (c : CoreId) : ClusterId := ⟨c.val / 4, by omega⟩
/-- The region that owns a core (R15). -/
def regionOf (c : CoreId) : RegionId := ⟨c.val / 16, by omega⟩
/-- The region that owns a cluster (R13). -/
def clusterRegion (k : ClusterId) : RegionId := ⟨k.val / 4, by omega⟩
/-- The region that owns a bank (R17). -/
def bankRegion (b : BankId) : RegionId := ⟨b.val / 64, by omega⟩
/-- The region that owns a timer channel (R17). -/
def chanRegion (n : ChanId) : RegionId := ⟨n.val / 16, by omega⟩

/-- The core's number within its cluster (R15). -/
def coreSlot (c : CoreId) : Fin 4 := ⟨c.val % 4, by omega⟩

end Sys2Proof
end

