-- ==== Sys2Proof/Command.lean ====
section
/-!
DEFINITION. Command.lean: the operands of the commands of the block that are not plain numbers.
-/
namespace Sys2Proof

/-- Who makes an access to the block registers or to memory (R346, R364, R389, R399). -/
inductive Master
  /-- A core, with the CSTAT.PL that its access carries (R399). -/
  | core (c : CoreId) (pl : BitVec 2)
  /-- A host master on wz_ss_*. -/
  | host
  /-- The Gardener. -/
  | gardener
  /-- The debug port. -/
  | debug
  /-- An access that arrives on coupling port `p`. -/
  | port (p : PortId)
  /-- The train message engine. -/
  | tme
  deriving DecidableEq, Repr

/-- A register that REGISTER_WRITE names. -/
inductive RegRef
  /-- A block register, by its offset from WZ_REG_BASE (R26). -/
  | block (off : BitVec 24)
  /-- A control register of a core (R51). -/
  | ctrl (c : CoreId) (n : BitVec 12)
  deriving DecidableEq, Repr

/-- A timer register with a holding word (R419). -/
inductive HoldReg | cnt | period | cmpa | cmpb | ratio
  deriving DecidableEq, Repr

/-- A timer register with a pending value (R420). -/
inductive PendReg | period | cmpa | cmpb
  deriving DecidableEq, Repr

/-- The DRAM configuration of the firmware image (R525). -/
structure DramConfig where
  dens : Fin 3
  x8 : Bool
  /-- Ranks less 1. -/
  ranks : Fin 4
  speed : Fin 4
  ilv : Bool
  deriving DecidableEq, Repr

end Sys2Proof
end

