-- ==== Sys2Proof/CoreOp.lean ====
section
/-!
DEFINITION. CoreOp.lean: the instructions of a Ualux core as syntax, one constructor per encoding shape of 03_encoding.md,
and the small operand types that the commands of Syntax.lean carry. An operand byte is kept whole, so that a value that R69
makes illegal can be written down.
-/
namespace Sys2Proof

/-- Stack manipulations without an operand (R98). -/
inductive StkOp | dup | drop | swap | over | rot | nrot | nip | tuck | dup2 | drop2 | swap2 | over2
  deriving DecidableEq, Repr

/-- Integer operations without an operand byte: row 0x2_, row 0x3_ and EXT1 0x00 to 0x0A (R70, R87). -/
inductive AluOp
  | add | sub | neg | inc | dec | mul | mulhs | mulhu | divs | divu | rems | remu | min | max | abs
  | and | or | xor | not | shl | shr | sar | rol | clz | popc
  | sx8 | sx16 | sx32 | zx8 | zx16 | zx32 | bswap | ctz | ror | bitrev | sel
  deriving DecidableEq, Repr

/-- Integer operations with one operand byte (R71, R87). -/
inductive AluBOp | addi8 | shli | shri | sari | bset | bclr | btst | rori
  deriving DecidableEq, Repr

/-- Integer operations with a 32-bit immediate (R87). -/
inductive AluWOp | addi32 | andi32
  deriving DecidableEq, Repr

/-- Bit-field operations (R71, R105). -/
inductive FieldOp | extu | exts | ins
  deriving DecidableEq, Repr

/-- Branch conditions in opcode order (R115). -/
inductive Cond | eq | ne | lt | ge | ltu | geu | z | nz | ltz | gez | gtz | lez | always
  deriving DecidableEq, Repr

/-- Atomic operations (R121). -/
inductive AtomOp | cas | xchg | xadd
  deriving DecidableEq, Repr

/-- Fractional and till instructions of row 0x9_ in opcode order (R70). -/
inductive FracOp
  | tclr | tmac | tmsu | trd | tshl | tshr | tmov | tld | qmul | qadd | qsub | qneg | qabs | qrnd | fmacxy | fmsuxy
  deriving DecidableEq, Repr

/-- Floating-point instructions of row 0xA_ in opcode order (R70). -/
inductive FpOp
  | fadd | fsub | fmul | fdiv | fsqrt | fma | fmin | fmax | fneg | fabs | fcmp | fcvt | fld | fst | fstk | fmov
  deriving DecidableEq, Repr

/-- Window and context instructions of row 0xB_ without an operand (R70). -/
inductive WinOp | savel | saveu | restl | restu | flushw | flushr
  deriving DecidableEq, Repr

/-- Vector-page instructions in opcode order (R85). -/
inductive VecOp
  | vadd | vsub | vmul | vmulh | vfma | vfms | vdiv | vsqrt | vmin | vmax | vabs | vneg
  | vand | vor | vxor | vnot | vshl | vshr | vsar | vshls | vshrs | vsars
  | vcmpEq | vcmpNe | vcmpLt | vcmpLe | vcmpGt | vcmpGe | vcmpUn
  | mtail | mand | mor | mxor | mandn | mpop | mmov | mrd | mwr
  | vcvt | vbcast | vperm | vslideup | vslidedn | vziplo | vziphi | vcompress | vextr | vins
  | vredadd | vredmin | vredmax | vredand | vredor | vredxor | vdot
  | vld | vst | vlds | vsts | vldx | vstx | vldy | vsty | vgather | vscatter
  deriving DecidableEq, Repr

/-- One core instruction without its repeat prefix. -/
inductive CoreOp
  | nop | ill | depth
  | stk (o : StkOp)
  | pick (k : Byte)
  | litM1 | lit (k : Fin 11) | lit8 (i : Byte) | lit16 (i : Half) | lit32 (i : W32) | lit64 (i : Word) | litpc (d : W32)
  | alu (o : AluOp) | aluB (o : AluBOp) (i : Byte) | aluW (o : AluWOp) (i : W32) | fld (o : FieldOp) (p l : Byte)
  /-- Popped-address load: width code of R72 and sign extension. -/
  | ld (w : Fin 4) (sx : Bool)
  | ldS16 (y : Bool) | ldS (y : Bool) (m : Byte)
  | ldd8 (m d : Byte) | ldd16 (m : Byte) (d : Half) | ldpc (m : Byte) (d : W32) | lda64 (a : Word)
  | ldl (k : Byte) | stl (k : Byte)
  | st (w : Fin 4) | stS16 (y : Bool) | stS (y : Bool) (m : Byte)
  | std8 (m d : Byte) | std16 (m : Byte) (d : Half) | stpc (m : Byte) (d : W32)
  | br (k : Cond) (d : Byte) | brW (k : Cond) (d : Half)
  | doLoop (d : Byte) | doW (d : Half) | loop | leave
  | call (n : Fin 8) (d : Half) | callL (n : Byte) (d : W32) | calli (n : Byte)
  | ret012 (m : Fin 3) | ret (m : Byte) | jmpL (d : W32) | jmpi | jmpa (a : Word)
  | atom (o : AtomOp) (wide : Bool)
  | crd (n : Half) | cwr (n : Half) | syscall (code : Byte) | hypcall (code : Byte)
  | retx | wait | fenceO | fenceS | fenceI | tlbi (sel : Byte) | cache (sel : Byte) | brk
  | move | fill | crc32 | cmps | xlat (m : Byte)
  | frac (o : FracOp) (x : Byte)
  | fp (o : FpOp) (x : Byte)
  | win (o : WinOp) | alloc (k : Byte) | free (k : Byte)
  | vec (o : VecOp) (t : Byte) (m : Option Byte)
  /-- An encoding that R88, R76 or R77 makes reserved, by its bytes. -/
  | reserved (bytes : List Byte)
  deriving DecidableEq, Repr

/-- What answers a core's read that left the complex, or what the array read behind it met (R111, R339, R529). -/
inductive LoadReturn
  /-- The oldest outstanding request is answered with these bytes (lowest address first). -/
  | bytes (d : List Byte)
  /-- The oldest outstanding request is answered with an error (R111, R562). -/
  | error
  /-- A read of the core found a single-bit error in L1D (false) or L2 (true) at this physical address (R339). -/
  | cacheSingle (l2 : Bool) (pa : Nat)
  /-- A read of the core found a multi-bit error in L1D (false) or L2 (true) at this physical address (R339). -/
  | cacheMulti (l2 : Bool) (pa : Nat)
  /-- A read of the core found a correctable DRAM error (R528). -/
  | dramSingle (pa : Nat)
  /-- A read of the core found an uncorrectable DRAM error (R529). -/
  | dramMulti (pa : Nat)
  /-- A read of the core found a single-bit scratchpad error (R361). -/
  | spmSingle (pa : Nat)
  /-- A read of the core found a multi-bit scratchpad error (R362). -/
  | spmMulti (pa : Nat)
  deriving DecidableEq, Repr

/-- The access for which a table walk is made (R330, R331). -/
inductive WalkFor | fetch | load | store
  deriving DecidableEq, Repr

end Sys2Proof
end

