-- ==== Sys2Proof/Syntax.lean ====
section
/-!
DEFINITION. Syntax.lean: the commands of the block: one constructor for each row of the opcode table, in its order. Each comment gives
the row's mnemonic and rule. `c` is the core that executes an instruction, `m` the master that makes an access.
-/
namespace Sys2Proof

/-- A command. -/
inductive Instr
  -- The stack, ILL and reserved encodings (02_stack_model.md, 03_encoding.md)
  /-- NOP (R98) -/
  | nop (c : CoreId)
  /-- DUP (R98) -/
  | dup (c : CoreId)
  /-- DROP (R98) -/
  | drop (c : CoreId)
  /-- SWAP (R98) -/
  | swap (c : CoreId)
  /-- OVER (R98) -/
  | over (c : CoreId)
  /-- ROT (R98) -/
  | rot (c : CoreId)
  /-- NROT (R98) -/
  | nrot (c : CoreId)
  /-- NIP (R98) -/
  | nip (c : CoreId)
  /-- TUCK (R98) -/
  | tuck (c : CoreId)
  /-- DUP2 (R98) -/
  | dup2 (c : CoreId)
  /-- DROP2 (R98) -/
  | drop2 (c : CoreId)
  /-- SWAP2 (R98) -/
  | swap2 (c : CoreId)
  /-- OVER2 (R98) -/
  | over2 (c : CoreId)
  /-- PICK (R99) -/
  | pick (c : CoreId) (k : Byte)
  /-- DEPTH (R99) -/
  | depth (c : CoreId)
  /-- ILL (R99) -/
  | ill (c : CoreId)
  /-- RESERVED_ENCODING (R88) -/
  | reservedEncoding (c : CoreId) (bytes : List (Byte))
  -- Literals
  /-- LIT_M1 (R100) -/
  | litM1 (c : CoreId)
  /-- LIT_0_TO_LIT_10 (R100) -/
  | lit0ToLit10 (c : CoreId) (k : Fin 11)
  /-- LIT8 (R100) -/
  | lit8 (c : CoreId) (imm : Byte)
  /-- LIT16 (R100) -/
  | lit16 (c : CoreId) (imm : Half)
  /-- LIT32 (R100) -/
  | lit32 (c : CoreId) (imm : W32)
  /-- LIT64 (R100) -/
  | lit64 (c : CoreId) (imm : Word)
  /-- LITPC (R100) -/
  | litpc (c : CoreId) (d : W32)
  -- Integer operations
  /-- ADD (R101) -/
  | add (c : CoreId)
  /-- SUB (R101) -/
  | sub (c : CoreId)
  /-- NEG (R101) -/
  | neg (c : CoreId)
  /-- INC (R101) -/
  | inc (c : CoreId)
  /-- DEC (R101) -/
  | dec (c : CoreId)
  /-- ADDI8 (R101) -/
  | addi8 (c : CoreId) (imm : Byte)
  /-- ADDI32 (R101) -/
  | addi32 (c : CoreId) (imm : W32)
  /-- MUL (R101) -/
  | mul (c : CoreId)
  /-- MULHS (R101) -/
  | mulhs (c : CoreId)
  /-- MULHU (R101) -/
  | mulhu (c : CoreId)
  /-- DIVS (R103) -/
  | divs (c : CoreId)
  /-- DIVU (R103) -/
  | divu (c : CoreId)
  /-- REMS (R103) -/
  | rems (c : CoreId)
  /-- REMU (R103) -/
  | remu (c : CoreId)
  /-- MIN (R101) -/
  | min (c : CoreId)
  /-- MAX (R101) -/
  | max (c : CoreId)
  /-- ABS (R101) -/
  | abs (c : CoreId)
  /-- AND (R104) -/
  | and (c : CoreId)
  /-- OR (R104) -/
  | or (c : CoreId)
  /-- XOR (R104) -/
  | xor (c : CoreId)
  /-- NOT (R104) -/
  | not (c : CoreId)
  /-- SHL (R105) -/
  | shl (c : CoreId)
  /-- SHR (R105) -/
  | shr (c : CoreId)
  /-- SAR (R105) -/
  | sar (c : CoreId)
  /-- ROL (R104) -/
  | rol (c : CoreId)
  /-- SHLI (R104) -/
  | shli (c : CoreId) (b : Byte)
  /-- SHRI (R104) -/
  | shri (c : CoreId) (b : Byte)
  /-- SARI (R104) -/
  | sari (c : CoreId) (b : Byte)
  /-- EXTU (R105) -/
  | extu (c : CoreId) (p : Byte) (l : Byte)
  /-- EXTS (R105) -/
  | exts (c : CoreId) (p : Byte) (l : Byte)
  /-- INS (R105) -/
  | ins (c : CoreId) (p : Byte) (l : Byte)
  /-- CLZ (R104) -/
  | clz (c : CoreId)
  /-- POPC (R104) -/
  | popc (c : CoreId)
  /-- SX8 (R104) -/
  | sx8 (c : CoreId)
  /-- SX16 (R104) -/
  | sx16 (c : CoreId)
  /-- SX32 (R104) -/
  | sx32 (c : CoreId)
  /-- ZX8 (R104) -/
  | zx8 (c : CoreId)
  /-- ZX16 (R104) -/
  | zx16 (c : CoreId)
  /-- ZX32 (R104) -/
  | zx32 (c : CoreId)
  /-- BSWAP (R104) -/
  | bswap (c : CoreId)
  /-- CTZ (R104) -/
  | ctz (c : CoreId)
  /-- ROR (R104) -/
  | ror (c : CoreId)
  /-- BITREV (R104) -/
  | bitrev (c : CoreId)
  /-- SEL (R104) -/
  | sel (c : CoreId)
  /-- BSET (R104) -/
  | bset (c : CoreId) (b : Byte)
  /-- BCLR (R104) -/
  | bclr (c : CoreId) (b : Byte)
  /-- BTST (R104) -/
  | btst (c : CoreId) (b : Byte)
  /-- RORI (R104) -/
  | rori (c : CoreId) (b : Byte)
  /-- ANDI32 (R104) -/
  | andi32 (c : CoreId) (imm : W32)
  -- Loads, stores and the store buffer
  /-- LD8U (R107) -/
  | ld8u (c : CoreId)
  /-- LD8S (R107) -/
  | ld8s (c : CoreId)
  /-- LD16U (R107) -/
  | ld16u (c : CoreId)
  /-- LD16S (R107) -/
  | ld16s (c : CoreId)
  /-- LD32U (R107) -/
  | ld32u (c : CoreId)
  /-- LD32S (R107) -/
  | ld32s (c : CoreId)
  /-- LD64 (R107) -/
  | ld64 (c : CoreId)
  /-- LDX16S (R107) -/
  | ldx16s (c : CoreId)
  /-- LDY16S (R107) -/
  | ldy16s (c : CoreId)
  /-- LDX (R43) -/
  | ldx (c : CoreId) (m : Byte)
  /-- LDY (R43) -/
  | ldy (c : CoreId) (m : Byte)
  /-- LDD8 (R107) -/
  | ldd8 (c : CoreId) (m : Byte) (d : Byte)
  /-- LDD16 (R107) -/
  | ldd16 (c : CoreId) (m : Byte) (d : Half)
  /-- LDPC (R107) -/
  | ldpc (c : CoreId) (m : Byte) (d : W32)
  /-- LDA64 (R107) -/
  | lda64 (c : CoreId) (a : Word)
  /-- LOAD_DATA_RETURN (R111) -/
  | loadDataReturn (c : CoreId) (r : LoadReturn)
  /-- LDL (R39) -/
  | ldl (c : CoreId) (k : Byte)
  /-- STL (R39) -/
  | stl (c : CoreId) (k : Byte)
  /-- ST8 (R108) -/
  | st8 (c : CoreId)
  /-- ST16 (R108) -/
  | st16 (c : CoreId)
  /-- ST32 (R108) -/
  | st32 (c : CoreId)
  /-- ST64 (R108) -/
  | st64 (c : CoreId)
  /-- STX16 (R108) -/
  | stx16 (c : CoreId)
  /-- STY16 (R108) -/
  | sty16 (c : CoreId)
  /-- STX (R108) -/
  | stx (c : CoreId) (m : Byte)
  /-- STY (R108) -/
  | sty (c : CoreId) (m : Byte)
  /-- STD8 (R108) -/
  | std8 (c : CoreId) (m : Byte) (d : Byte)
  /-- STD16 (R108) -/
  | std16 (c : CoreId) (m : Byte) (d : Half)
  /-- STPC (R108) -/
  | stpc (c : CoreId) (m : Byte) (d : W32)
  /-- STORE_BUFFER_DRAIN (R230) -/
  | storeBufferDrain (c : CoreId)
  -- Branches, loops, calls and atomics
  /-- B_EQ (R115) -/
  | bEq (c : CoreId) (d : Byte)
  /-- B_NE (R115) -/
  | bNe (c : CoreId) (d : Byte)
  /-- B_LT (R115) -/
  | bLt (c : CoreId) (d : Byte)
  /-- B_GE (R115) -/
  | bGe (c : CoreId) (d : Byte)
  /-- B_LTU (R115) -/
  | bLtu (c : CoreId) (d : Byte)
  /-- B_GEU (R115) -/
  | bGeu (c : CoreId) (d : Byte)
  /-- BZ (R115) -/
  | bz (c : CoreId) (d : Byte)
  /-- BNZ (R115) -/
  | bnz (c : CoreId) (d : Byte)
  /-- BLTZ (R115) -/
  | bltz (c : CoreId) (d : Byte)
  /-- BGEZ (R115) -/
  | bgez (c : CoreId) (d : Byte)
  /-- BGTZ (R115) -/
  | bgtz (c : CoreId) (d : Byte)
  /-- BLEZ (R115) -/
  | blez (c : CoreId) (d : Byte)
  /-- BR (R115) -/
  | br (c : CoreId) (d : Byte)
  /-- B_EQ_W (R115) -/
  | bEqW (c : CoreId) (d : Half)
  /-- B_NE_W (R115) -/
  | bNeW (c : CoreId) (d : Half)
  /-- B_LT_W (R115) -/
  | bLtW (c : CoreId) (d : Half)
  /-- B_GE_W (R115) -/
  | bGeW (c : CoreId) (d : Half)
  /-- B_LTU_W (R115) -/
  | bLtuW (c : CoreId) (d : Half)
  /-- B_GEU_W (R115) -/
  | bGeuW (c : CoreId) (d : Half)
  /-- BZ_W (R115) -/
  | bzW (c : CoreId) (d : Half)
  /-- BNZ_W (R115) -/
  | bnzW (c : CoreId) (d : Half)
  /-- BLTZ_W (R115) -/
  | bltzW (c : CoreId) (d : Half)
  /-- BGEZ_W (R115) -/
  | bgezW (c : CoreId) (d : Half)
  /-- BGTZ_W (R115) -/
  | bgtzW (c : CoreId) (d : Half)
  /-- BLEZ_W (R115) -/
  | blezW (c : CoreId) (d : Half)
  /-- BR_W (R115) -/
  | brW (c : CoreId) (d : Half)
  /-- DO (R116) -/
  | doLoop (c : CoreId) (d : Byte)
  /-- DO_W (R116) -/
  | doW (c : CoreId) (d : Half)
  /-- LOOP (R116) -/
  | loop (c : CoreId)
  /-- LEAVE (R116) -/
  | leave (c : CoreId)
  /-- CALL (R38) -/
  | call (c : CoreId) (n : Fin 8) (d : Half)
  /-- CALL_L (R118) -/
  | callL (c : CoreId) (n : Byte) (d : W32)
  /-- CALLI (R119) -/
  | calli (c : CoreId) (n : Byte)
  /-- RET_0 (R40) -/
  | ret0 (c : CoreId)
  /-- RET_1 (R40) -/
  | ret1 (c : CoreId)
  /-- RET_2 (R40) -/
  | ret2 (c : CoreId)
  /-- RET (R40) -/
  | ret (c : CoreId) (m : Byte)
  /-- JMP_L (R118) -/
  | jmpL (c : CoreId) (d : W32)
  /-- JMPI (R119) -/
  | jmpi (c : CoreId)
  /-- JMPA (R119) -/
  | jmpa (c : CoreId) (a : Word)
  /-- CAS32 (R121) -/
  | cas32 (c : CoreId)
  /-- CAS64 (R121) -/
  | cas64 (c : CoreId)
  /-- XCHG32 (R121) -/
  | xchg32 (c : CoreId)
  /-- XCHG64 (R121) -/
  | xchg64 (c : CoreId)
  /-- XADD32 (R121) -/
  | xadd32 (c : CoreId)
  /-- XADD64 (R121) -/
  | xadd64 (c : CoreId)
  -- System instructions, fences, TLB and cache operations
  /-- CRD (R51) -/
  | crd (c : CoreId) (n : Half)
  /-- CWR (R54) -/
  | cwr (c : CoreId) (n : Half)
  /-- SYSCALL (R127) -/
  | syscall (c : CoreId) (code : Byte)
  /-- HYPCALL (R127) -/
  | hypcall (c : CoreId) (code : Byte)
  /-- RETX (R305) -/
  | retx (c : CoreId)
  /-- WAIT (R128) -/
  | wait (c : CoreId)
  /-- WAIT_END (R128) -/
  | waitEnd (c : CoreId)
  /-- FENCE_O (R125) -/
  | fenceO (c : CoreId)
  /-- FENCE_S (R125) -/
  | fenceS (c : CoreId)
  /-- FENCE_I (R126) -/
  | fenceI (c : CoreId)
  /-- TLBI_ALL (R336) -/
  | tlbiAll (c : CoreId)
  /-- TLBI_BY_ADDRESS (R336) -/
  | tlbiByAddress (c : CoreId)
  /-- TLBI_BY_PID (R336) -/
  | tlbiByPid (c : CoreId)
  /-- TLBI_BY_ADDRESS_AND_PID (R336) -/
  | tlbiByAddressAndPid (c : CoreId)
  /-- TLBI_STAGE2 (R336) -/
  | tlbiStage2 (c : CoreId)
  /-- DC_CLEAN (R341) -/
  | dcClean (c : CoreId)
  /-- DC_INV (R341) -/
  | dcInv (c : CoreId)
  /-- DC_CLINV (R341) -/
  | dcClinv (c : CoreId)
  /-- IC_INV (R341) -/
  | icInv (c : CoreId)
  /-- IC_INVALL (R341) -/
  | icInvall (c : CoreId)
  /-- L1_LOCK (R340) -/
  | l1Lock (c : CoreId)
  /-- L2_LOCK (R340) -/
  | l2Lock (c : CoreId)
  /-- UNLOCK (R340) -/
  | unlock (c : CoreId)
  /-- BRK (R127) -/
  | brk (c : CoreId)
  -- Block operations and repeats
  /-- MOVE (R131) -/
  | move (c : CoreId) (units : Nat)
  /-- FILL (R131) -/
  | fill (c : CoreId) (units : Nat)
  /-- CRC32 (R132) -/
  | crc32 (c : CoreId) (units : Nat)
  /-- CMPS (R131) -/
  | cmps (c : CoreId) (units : Nat)
  /-- XLAT (R133) -/
  | xlat (c : CoreId) (m : Byte)
  /-- RPT (R79) -/
  | rpt (c : CoreId) (body : CoreOp) (iters : Nat)
  /-- RPTN (R81) -/
  | rptn (c : CoreId) (count : Byte) (body : CoreOp)
  -- Fractional arithmetic and tills
  /-- TCLR (R143) -/
  | tclr (c : CoreId) (x : Byte)
  /-- TMAC (R143) -/
  | tmac (c : CoreId) (x : Byte)
  /-- TMSU (R143) -/
  | tmsu (c : CoreId) (x : Byte)
  /-- TRD (R143) -/
  | trd (c : CoreId) (x : Byte)
  /-- TSHL (R143) -/
  | tshl (c : CoreId) (x : Byte)
  /-- TSHR (R143) -/
  | tshr (c : CoreId) (x : Byte)
  /-- TMOV (R143) -/
  | tmov (c : CoreId) (x : Byte)
  /-- TLD (R143) -/
  | tld (c : CoreId) (x : Byte)
  /-- QMUL (R143) -/
  | qmul (c : CoreId) (x : Byte)
  /-- QADD (R143) -/
  | qadd (c : CoreId) (x : Byte)
  /-- QSUB (R143) -/
  | qsub (c : CoreId) (x : Byte)
  /-- QNEG (R143) -/
  | qneg (c : CoreId) (x : Byte)
  /-- QABS (R143) -/
  | qabs (c : CoreId) (x : Byte)
  /-- QRND (R144) -/
  | qrnd (c : CoreId) (x : Byte)
  /-- FMACXY (R148) -/
  | fmacxy (c : CoreId) (x : Byte)
  /-- FMSUXY (R148) -/
  | fmsuxy (c : CoreId) (x : Byte)
  -- Floating point
  /-- FADD (R197) -/
  | fadd (c : CoreId) (x : Byte)
  /-- FSUB (R197) -/
  | fsub (c : CoreId) (x : Byte)
  /-- FMUL (R197) -/
  | fmul (c : CoreId) (x : Byte)
  /-- FDIV (R197) -/
  | fdiv (c : CoreId) (x : Byte)
  /-- FSQRT (R197) -/
  | fsqrt (c : CoreId) (x : Byte)
  /-- FMA (R197) -/
  | fma (c : CoreId) (x : Byte)
  /-- FMIN (R195) -/
  | fmin (c : CoreId) (x : Byte)
  /-- FMAX (R195) -/
  | fmax (c : CoreId) (x : Byte)
  /-- FNEG (R195) -/
  | fneg (c : CoreId) (x : Byte)
  /-- FABS (R195) -/
  | fabs (c : CoreId) (x : Byte)
  /-- FCMP (R198) -/
  | fcmp (c : CoreId) (x : Byte)
  /-- FCVT_FLOAT_TO_FLOAT (R199) -/
  | fcvtFloatToFloat (c : CoreId) (x : Byte)
  /-- FCVT_INTEGER_TO_FLOAT (R199) -/
  | fcvtIntegerToFloat (c : CoreId) (x : Byte)
  /-- FCVT_FLOAT_TO_INTEGER (R199) -/
  | fcvtFloatToInteger (c : CoreId) (x : Byte)
  /-- FCVT_FLOAT_TO_INTEGER_TOWARD_ZERO (R199) -/
  | fcvtFloatToIntegerTowardZero (c : CoreId) (x : Byte)
  /-- FLD (R197) -/
  | fld (c : CoreId) (x : Byte)
  /-- FST (R197) -/
  | fst (c : CoreId) (x : Byte)
  /-- FDUP (R200) -/
  | fdup (c : CoreId) (x : Byte)
  /-- FDROP (R200) -/
  | fdrop (c : CoreId) (x : Byte)
  /-- FSWAP (R200) -/
  | fswap (c : CoreId) (x : Byte)
  /-- FOVER (R200) -/
  | fover (c : CoreId) (x : Byte)
  /-- FROT (R200) -/
  | frot (c : CoreId) (x : Byte)
  /-- FPUSH (R200) -/
  | fpush (c : CoreId) (x : Byte)
  /-- FPOP (R200) -/
  | fpop (c : CoreId) (x : Byte)
  -- Windows and contexts
  /-- SAVEL (R178) -/
  | savel (c : CoreId)
  /-- SAVEU (R178) -/
  | saveu (c : CoreId)
  /-- RESTL (R179) -/
  | restl (c : CoreId)
  /-- RESTU (R179) -/
  | restu (c : CoreId)
  /-- FLUSHW (R176) -/
  | flushw (c : CoreId)
  /-- ALLOC (R176) -/
  | alloc (c : CoreId) (k : Byte)
  /-- FREE (R176) -/
  | free (c : CoreId) (k : Byte)
  /-- FLUSHR (R176) -/
  | flushr (c : CoreId)
  -- Vector
  /-- VADD (R202) -/
  | vadd (c : CoreId) (t : Byte) (m : Option (Byte))
  /-- VSUB (R202) -/
  | vsub (c : CoreId) (t : Byte) (m : Option (Byte))
  /-- VMUL (R202) -/
  | vmul (c : CoreId) (t : Byte) (m : Option (Byte))
  /-- VMULH (R202) -/
  | vmulh (c : CoreId) (t : Byte) (m : Option (Byte))
  /-- VFMA (R202) -/
  | vfma (c : CoreId) (t : Byte) (m : Option (Byte))
  /-- VFMS (R202) -/
  | vfms (c : CoreId) (t : Byte) (m : Option (Byte))
  /-- VDIV (R202) -/
  | vdiv (c : CoreId) (t : Byte) (m : Option (Byte))
  /-- VSQRT (R202) -/
  | vsqrt (c : CoreId) (t : Byte) (m : Option (Byte))
  /-- VMIN (R202) -/
  | vmin (c : CoreId) (t : Byte) (m : Option (Byte))
  /-- VMAX (R202) -/
  | vmax (c : CoreId) (t : Byte) (m : Option (Byte))
  /-- VABS (R202) -/
  | vabs (c : CoreId) (t : Byte) (m : Option (Byte))
  /-- VNEG (R202) -/
  | vneg (c : CoreId) (t : Byte) (m : Option (Byte))
  /-- VAND (R203) -/
  | vand (c : CoreId) (t : Byte) (m : Option (Byte))
  /-- VOR (R203) -/
  | vor (c : CoreId) (t : Byte) (m : Option (Byte))
  /-- VXOR (R203) -/
  | vxor (c : CoreId) (t : Byte) (m : Option (Byte))
  /-- VNOT (R203) -/
  | vnot (c : CoreId) (t : Byte) (m : Option (Byte))
  /-- VSHL (R203) -/
  | vshl (c : CoreId) (t : Byte) (m : Option (Byte))
  /-- VSHR (R203) -/
  | vshr (c : CoreId) (t : Byte) (m : Option (Byte))
  /-- VSAR (R203) -/
  | vsar (c : CoreId) (t : Byte) (m : Option (Byte))
  /-- VSHLS (R203) -/
  | vshls (c : CoreId) (t : Byte) (m : Option (Byte))
  /-- VSHRS (R203) -/
  | vshrs (c : CoreId) (t : Byte) (m : Option (Byte))
  /-- VSARS (R203) -/
  | vsars (c : CoreId) (t : Byte) (m : Option (Byte))
  /-- VCMP_EQ (R194) -/
  | vcmpEq (c : CoreId) (t : Byte) (m : Option (Byte))
  /-- VCMP_NE (R194) -/
  | vcmpNe (c : CoreId) (t : Byte) (m : Option (Byte))
  /-- VCMP_LT (R194) -/
  | vcmpLt (c : CoreId) (t : Byte) (m : Option (Byte))
  /-- VCMP_LE (R194) -/
  | vcmpLe (c : CoreId) (t : Byte) (m : Option (Byte))
  /-- VCMP_GT (R194) -/
  | vcmpGt (c : CoreId) (t : Byte) (m : Option (Byte))
  /-- VCMP_GE (R194) -/
  | vcmpGe (c : CoreId) (t : Byte) (m : Option (Byte))
  /-- VCMP_UN (R194) -/
  | vcmpUn (c : CoreId) (t : Byte) (m : Option (Byte))
  /-- MTAIL (R194) -/
  | mtail (c : CoreId) (t : Byte) (m : Option (Byte))
  /-- MAND (R194) -/
  | mand (c : CoreId) (t : Byte) (m : Option (Byte))
  /-- MOR (R194) -/
  | mor (c : CoreId) (t : Byte) (m : Option (Byte))
  /-- MXOR (R194) -/
  | mxor (c : CoreId) (t : Byte) (m : Option (Byte))
  /-- MANDN (R194) -/
  | mandn (c : CoreId) (t : Byte) (m : Option (Byte))
  /-- MPOP (R194) -/
  | mpop (c : CoreId) (t : Byte) (m : Option (Byte))
  /-- MMOV (R194) -/
  | mmov (c : CoreId) (t : Byte) (m : Option (Byte))
  /-- MRD (R194) -/
  | mrd (c : CoreId) (t : Byte) (m : Option (Byte))
  /-- MWR (R194) -/
  | mwr (c : CoreId) (t : Byte) (m : Option (Byte))
  /-- VCVT (R205) -/
  | vcvt (c : CoreId) (t : Byte) (m : Option (Byte))
  /-- VBCAST (R204) -/
  | vbcast (c : CoreId) (t : Byte) (m : Option (Byte))
  /-- VPERM (R204) -/
  | vperm (c : CoreId) (t : Byte) (m : Option (Byte))
  /-- VSLIDEUP (R204) -/
  | vslideup (c : CoreId) (t : Byte) (m : Option (Byte))
  /-- VSLIDEDN (R204) -/
  | vslidedn (c : CoreId) (t : Byte) (m : Option (Byte))
  /-- VZIPLO (R204) -/
  | vziplo (c : CoreId) (t : Byte) (m : Option (Byte))
  /-- VZIPHI (R204) -/
  | vziphi (c : CoreId) (t : Byte) (m : Option (Byte))
  /-- VCOMPRESS (R204) -/
  | vcompress (c : CoreId) (t : Byte) (m : Option (Byte))
  /-- VEXTR (R204) -/
  | vextr (c : CoreId) (t : Byte) (m : Option (Byte))
  /-- VINS (R204) -/
  | vins (c : CoreId) (t : Byte) (m : Option (Byte))
  /-- VREDADD (R206) -/
  | vredadd (c : CoreId) (t : Byte) (m : Option (Byte))
  /-- VREDMIN (R206) -/
  | vredmin (c : CoreId) (t : Byte) (m : Option (Byte))
  /-- VREDMAX (R206) -/
  | vredmax (c : CoreId) (t : Byte) (m : Option (Byte))
  /-- VREDAND (R206) -/
  | vredand (c : CoreId) (t : Byte) (m : Option (Byte))
  /-- VREDOR (R206) -/
  | vredor (c : CoreId) (t : Byte) (m : Option (Byte))
  /-- VREDXOR (R206) -/
  | vredxor (c : CoreId) (t : Byte) (m : Option (Byte))
  /-- VDOT (R206) -/
  | vdot (c : CoreId) (t : Byte) (m : Option (Byte))
  /-- VLD (R207) -/
  | vld (c : CoreId) (t : Byte) (m : Option (Byte))
  /-- VST (R207) -/
  | vst (c : CoreId) (t : Byte) (m : Option (Byte))
  /-- VLDS (R207) -/
  | vlds (c : CoreId) (t : Byte) (m : Option (Byte))
  /-- VSTS (R207) -/
  | vsts (c : CoreId) (t : Byte) (m : Option (Byte))
  /-- VLDX (R208) -/
  | vldx (c : CoreId) (t : Byte) (m : Option (Byte))
  /-- VSTX (R208) -/
  | vstx (c : CoreId) (t : Byte) (m : Option (Byte))
  /-- VLDY (R208) -/
  | vldy (c : CoreId) (t : Byte) (m : Option (Byte))
  /-- VSTY (R208) -/
  | vsty (c : CoreId) (t : Byte) (m : Option (Byte))
  /-- VGATHER (R207) -/
  | vgather (c : CoreId) (t : Byte) (m : Option (Byte))
  /-- VSCATTER (R207) -/
  | vscatter (c : CoreId) (t : Byte) (m : Option (Byte))
  -- What a core does apart from its instructions
  /-- TABLE_WALK (R331) -/
  | tableWalk (c : CoreId) (u : WalkFor) (va : Word) (bytes : List (Byte))
  /-- OPERAND_SPILL (R155) -/
  | operandSpill (c : CoreId)
  /-- OPERAND_REFILL (R155) -/
  | operandRefill (c : CoreId)
  /-- RETURN_SPILL (R155) -/
  | returnSpill (c : CoreId)
  /-- RETURN_REFILL (R155) -/
  | returnRefill (c : CoreId)
  /-- EVENT_ENTRY (R300) -/
  | eventEntry (c : CoreId)
  /-- TRIPLE_FAULT (R308) -/
  | tripleFault (c : CoreId)
  /-- MICROCODE_TIMEOUT (R267) -/
  | microcodeTimeout (c : CoreId)
  /-- WORD_REPAIR (R270) -/
  | wordRepair (k : ClusterId) (table : Bool) (idx : Nat)
  /-- CHECK_PORT_SCAN (R272) -/
  | checkPortScan (k : ClusterId) (bad : List (Bool × Nat))
  /-- DEBUG_HALT (R317) -/
  | debugHalt (c : CoreId)
  /-- HALTREQ (R317) -/
  | haltreq (m : Master) (c : CoreId) (v : W32)
  /-- RESUME (R317) -/
  | resume (m : Master) (c : CoreId) (v : W32)
  /-- STEP (R317) -/
  | step (m : Master) (c : CoreId) (v : W32)
  /-- REGISTER_WRITE (R10) -/
  | registerWrite (m : Master) (r : RegRef) (v : Word)
  -- Scratchpad, weeder and bank movers
  /-- SPM_BANK_OWNER_WRITE (R365) -/
  | spmBankOwnerWrite (m : Master) (b : BankId) (v : W32)
  /-- HANDOVER_DONE (R366) -/
  | handoverDone (b : BankId)
  /-- SPM_BANK_PWR_WRITE (R376) -/
  | spmBankPwrWrite (m : Master) (b : BankId) (v : W32)
  /-- BANK_POWER_CHANGE_DONE (R376) -/
  | bankPowerChangeDone (b : BankId)
  /-- CORRECTION_WRITE_BACK (R361) -/
  | correctionWriteBack (b : BankId) (w : Fin 16384)
  /-- WEEDER_STEAL (R373) -/
  | weederSteal (found : List (BankId × Bool))
  /-- SPM_MV_START (R382) -/
  | spmMvStart (m : Master) (n : Fin 16)
  /-- SPM_MV_ABORT (R387) -/
  | spmMvAbort (m : Master) (n : Fin 16)
  /-- MOVER_BLOCK (R386) -/
  | moverBlock (n : Fin 16)
  -- Interrupt controller
  /-- IRQ_EDGE (R393) -/
  | irqEdge (n : Fin 1024)
  /-- IRQ_LEVEL_CHANGE (R394) -/
  | irqLevelChange (n : Fin 1024) (high : Bool)
  /-- INTC_PEND_SET (R395) -/
  | intcPendSet (m : Master) (g : Fin 40) (v : W32)
  /-- INTC_PEND_CLR (R395) -/
  | intcPendClr (m : Master) (g : Fin 40) (v : W32)
  /-- INTC_MASK_SET (R401) -/
  | intcMaskSet (m : Master) (g : Fin 40) (v : W32)
  /-- INTC_MASK_CLR (R400) -/
  | intcMaskClr (m : Master) (g : Fin 40) (v : W32)
  /-- INTC_SENSE_WRITE (R396) -/
  | intcSenseWrite (m : Master) (g : Fin 40) (v : W32)
  /-- INTC_ROUTE_WRITE (R402) -/
  | intcRouteWrite (m : Master) (n : Fin 1280) (v : W32)
  /-- INTC_ACTIVE_WRITE (R411) -/
  | intcActiveWrite (m : Master) (g : Fin 40) (v : W32)
  /-- INTC_CLAIM (R403) -/
  | intcClaim (c : CoreId) (v : W32)
  /-- INTC_COMPLETE (R405) -/
  | intcComplete (c : CoreId) (v : W32)
  /-- HOLDOFF_END (R408) -/
  | holdoffEnd (g : Fin 40)
  -- Timers
  /-- CHANNEL_TICK (R417) -/
  | channelTick (n : ChanId)
  /-- TMR_IN_RISE (R424) -/
  | tmrInRise (n : ChanId)
  /-- TMR_IN_FALL (R425) -/
  | tmrInFall (n : ChanId)
  /-- HOLDING_WORD_WRITE (R419) -/
  | holdingWordWrite (m : Master) (n : Option ChanId) (r : HoldReg) (v : W32)
  /-- PENDING_COMMIT (R420) -/
  | pendingCommit (m : Master) (n : ChanId) (r : PendReg) (v : W32)
  /-- LOAD_NOW (R421) -/
  | loadNow (m : Master) (n : ChanId) (r : PendReg) (v : W32)
  /-- TMR_CNT_HI_WRITE (R422) -/
  | tmrCntHiWrite (m : Master) (n : ChanId) (v : W32)
  /-- OUTSET (R428) -/
  | outset (m : Master) (n : ChanId)
  /-- OUTCLR (R428) -/
  | outclr (m : Master) (n : ChanId)
  /-- CLRACC (R416) -/
  | clracc (m : Master) (n : ChanId)
  /-- TMR_MKUP_RATIO_WRITE (R432) -/
  | tmrMkupRatioWrite (m : Master) (n : Option ChanId) (v : W32)
  -- Slices and migration
  /-- SLC_PIDINV (R442) -/
  | slcPidinv (m : Master) (v : W32)
  /-- SLICE_CREATE (R448) -/
  | sliceCreate (q : Fin 4)
  /-- SLICE_RESIZE (R447) -/
  | sliceResize (q : Fin 4)
  /-- SLICE_DESTROY (R449) -/
  | sliceDestroy (q : Fin 4)
  /-- MIGRATE_START (R454) -/
  | migrateStart (q : Fin 4)
  /-- MIGRATE_ROUND (R453) -/
  | migrateRound (q : Fin 4)
  /-- MIGRATE_FINAL (R455) -/
  | migrateFinal (q : Fin 4)
  /-- MIGRATE_FINAL_TIMEOUT (R455) -/
  | migrateFinalTimeout (q : Fin 4)
  /-- MIGRATE_ADOPT (R458) -/
  | migrateAdopt (q : Fin 4)
  -- Gardener
  /-- GDN_POST (R462) -/
  | gdnPost (m : Master) (q : Fin 4)
  /-- GDN_REPLY_ACK (R466) -/
  | gdnReplyAck (m : Master) (q : Fin 4) (seq : Half)
  /-- LEAF_CLEAR (R484) -/
  | leafClear (m : Master) (i : Fin 192)
  /-- INFO (R472) -/
  | info (q : Fin 4)
  /-- PING (R472) -/
  | ping (q : Fin 4)
  /-- POWER_SET (R545) -/
  | powerSet (q : Fin 4)
  /-- POWER_SET_OFF (R547) -/
  | powerSetOff (q : Fin 4)
  /-- POWER_SET_COMPLEX (R548) -/
  | powerSetComplex (q : Fin 4)
  /-- CLOCK_SET (R543) -/
  | clockSet (q : Fin 4)
  /-- QUIESCE_CLUSTER (R474) -/
  | quiesceCluster (q : Fin 4)
  /-- RESUME_CLUSTER (R474) -/
  | resumeCluster (q : Fin 4)
  /-- QUIESCE_REACHED (R281) -/
  | quiesceReached (k : ClusterId) (q : Fin 4)
  /-- QUIESCE_TIMEOUT (R284) -/
  | quiesceTimeout (k : ClusterId) (q : Fin 4)
  /-- GRAFT_STAGE (R290) -/
  | graftStage (ok : Bool) (q : Fin 4)
  /-- GRAFT_APPLY (R281) -/
  | graftApply (q : Fin 4)
  /-- GRAFT_VERIFY (R285) -/
  | graftVerify (k : ClusterId) (ok : Bool) (q : Fin 4)
  /-- GRAFT_RESUME (R283) -/
  | graftResume (k : ClusterId) (q : Fin 4)
  /-- GRAFT_LIST (R289) -/
  | graftList (q : Fin 4)
  /-- RETIRE_CORE (R481) -/
  | retireCore (ok : Bool) (q : Fin 4)
  /-- RETIRE_BANK (R481) -/
  | retireBank (ok : Bool) (q : Fin 4)
  /-- RETIRE_LANE (R481) -/
  | retireLane (ok : Bool) (q : Fin 4)
  /-- RETIRE_RANK (R536) -/
  | retireRank (ok : Bool) (q : Fin 4)
  /-- RESTORE_UNIT (R483) -/
  | restoreUnit (ok : Bool) (q : Fin 4)
  /-- PENDING_RETIREMENT (R478) -/
  | pendingRetirement (kind : Bool) (unit : Fin 256)
  /-- TALLY_CONFIG (R479) -/
  | tallyConfig (q : Fin 4)
  /-- TALLY_READ (R479) -/
  | tallyRead (q : Fin 4)
  /-- POLICY_SET (R480) -/
  | policySet (q : Fin 4)
  /-- RECORD_WRITE (R489) -/
  | recordWrite (ok : Bool) (q : Fin 4)
  /-- RECORD_READ (R489) -/
  | recordRead (q : Fin 4)
  /-- WEEDER_CONFIG (R475) -/
  | weederConfig (q : Fin 4)
  /-- CALIBRATE (R492) -/
  | calibrate (count : W32) (failed : List McId) (q : Fin 4)
  /-- AUTOMATIC_CALIBRATE (R492) -/
  | automaticCalibrate (count : W32)
  /-- NODE_SET (R475) -/
  | nodeSet (ok : Bool) (q : Fin 4)
  /-- ABORT (R473) -/
  | abort (q : Fin 4)
  /-- FIRMWARE_UPDATE (R491) -/
  | firmwareUpdate (ok : Bool) (q : Fin 4)
  /-- RING_OSCILLATOR_MEASUREMENT (R493) -/
  | ringOscillatorMeasurement (counts : List (Half)) (ok : Bool)
  /-- TALLY_HISTORY_WRITE (R489) -/
  | tallyHistoryWrite (ok : Bool)
  /-- AGEING_DATA_WRITE (R489) -/
  | ageingDataWrite (ok : Bool)
  -- Coupling ports
  /-- LANE_LOCK (R495) -/
  | laneLock (p : PortId) (l : Fin 8)
  /-- LANE_UNLOCK (R495) -/
  | laneUnlock (p : PortId) (l : Fin 8)
  /-- SLIP_REQUEST (R570) -/
  | slipRequest (p : PortId) (l : Fin 8)
  /-- TRAINING_ATTEMPT (R506) -/
  | trainingAttempt (p : PortId)
  /-- TRAINING_END (R507) -/
  | trainingEnd (p : PortId) (lanes : Byte) (width : BitVec 2)
  /-- RETRAIN_TIMEOUT (R506) -/
  | retrainTimeout (p : PortId)
  /-- CPL_CTL_ADMIT (R508) -/
  | cplCtlAdmit (m : Master) (p : PortId) (v : W32)
  /-- CPL_CTL_DEPART (R510) -/
  | cplCtlDepart (m : Master) (p : PortId) (v : W32)
  /-- CPL_CTL_RETRAIN (R506) -/
  | cplCtlRetrain (m : Master) (p : PortId) (v : W32)
  /-- ADMIT_TIMEOUT (R508) -/
  | admitTimeout (p : PortId)
  /-- ADMISSION_COMPLETE (R508) -/
  | admissionComplete (p : PortId)
  /-- DATA_BLOCK (R500) -/
  | dataBlock (p : PortId) (raw : List (Byte)) (bad : Byte)
  /-- NAK (R501) -/
  | nak (p : PortId) (raw : List (Byte)) (bad : Byte)
  /-- LINK_BLOCK (R503) -/
  | linkBlock (p : PortId) (raw : List (Byte)) (bad : Byte) (sizes : List Nat) (node : BitVec 12) (ver : Half)
  /-- IDLE_BLOCK (R499) -/
  | idleBlock (p : PortId) (raw : List (Byte)) (bad : Byte)
  /-- RESEND_TIMEOUT (R501) -/
  | resendTimeout (p : PortId)
  /-- RD_SHARED (R503) -/
  | rdShared (p : PortId)
  /-- RD_EXCL (R503) -/
  | rdExcl (p : PortId)
  /-- RD_UNCACHED (R503) -/
  | rdUncached (p : PortId)
  /-- WR_LINE (R504) -/
  | wrLine (p : PortId)
  /-- WR_PART (R503) -/
  | wrPart (p : PortId)
  /-- ATOMIC (R503) -/
  | atomic (p : PortId)
  /-- UPGRADE (R503) -/
  | upgrade (p : PortId)
  /-- DATA (R503) -/
  | data (p : PortId)
  /-- COMP (R503) -/
  | comp (p : PortId)
  /-- ERR (R504) -/
  | err (p : PortId)
  /-- SNP_INV (R503) -/
  | snpInv (p : PortId)
  /-- SNP_SHARE (R503) -/
  | snpShare (p : PortId)
  /-- SNP_RECALL (R345) -/
  | snpRecall (p : PortId)
  /-- MV_WR (R503) -/
  | mvWr (p : PortId)
  /-- MV_RD (R503) -/
  | mvRd (p : PortId)
  /-- MV_DATA (R503) -/
  | mvData (p : PortId)
  /-- GDN_PKT (R461) -/
  | gdnPkt (p : PortId)
  /-- ADMIT (R508) -/
  | admitMsg (p : PortId)
  /-- DOMAIN_UPDATE (R508) -/
  | domainUpdate (p : PortId)
  /-- DEPART (R510) -/
  | depart (p : PortId)
  -- Train message engine
  /-- ACK (R515) -/
  | ack (raw : List (Byte)) (rxErr : Bool)
  /-- WRITE (R516) -/
  | write (raw : List (Byte)) (rxErr : Bool)
  /-- WRITE_REC (R516) -/
  | writeRec (raw : List (Byte)) (rxErr : Bool)
  /-- MSG (R519) -/
  | msg (raw : List (Byte)) (rxErr : Bool)
  /-- READ_REQ (R520) -/
  | readReq (raw : List (Byte)) (rxErr : Bool)
  /-- READ_DATA (R520) -/
  | readData (raw : List (Byte)) (rxErr : Bool)
  /-- TBX_REQ (R522) -/
  | tbxReq (raw : List (Byte)) (rxErr : Bool)
  /-- TBX_RSP (R522) -/
  | tbxRsp (raw : List (Byte)) (rxErr : Bool)
  /-- TME_RETRANSMIT (R515) -/
  | tmeRetransmit (node : BitVec 12)
  /-- FRAME_CLOSE (R517) -/
  | frameClose
  /-- TME_TXTAIL_WRITE (R518) -/
  | tmeTxtailWrite (m : Master) (v : W32)
  /-- QUIESCE (R521) -/
  | quiesce (m : Master) (on : Bool)
  /-- TME_FAIL_CLR (R515) -/
  | tmeFailClr (m : Master) (node : BitVec 12)
  /-- TBX_START (R522) -/
  | tbxStart (m : Master) (node : BitVec 12)
  /-- TBX_TIMEOUT (R522) -/
  | tbxTimeout
  -- DRAM controller
  /-- PATROL_SCRUB (R530) -/
  | patrolScrub (line : Nat) (found : Option Bool)
  /-- DFI_PHYMSTR (R527) -/
  | dfiPhymstr (c : McId) (req : Bool)
  /-- DFI_UPDATE (R527) -/
  | dfiUpdate (c : McId)
  /-- DFI_ERROR (R527) -/
  | dfiError (c : McId)
  -- Power, reset and start-up
  /-- REGION_SLEEP_ENTRY (R545) -/
  | regionSleepEntry (r : RegionId)
  /-- REGION_WAKE (R546) -/
  | regionWake (r : RegionId) (access : Bool)
  /-- COMPLEX_SLEEP_ENTRY (R548) -/
  | complexSleepEntry
  /-- COMPLEX_WAKE (R549) -/
  | complexWake
  /-- CLKACK_RISE (R541) -/
  | clkackRise (i : Fin 17)
  /-- CLKACK_FALL (R540) -/
  | clkackFall (i : Fin 17)
  /-- POR_ASSERT (R552) -/
  | porAssert
  /-- SYSRST_ASSERT (R552) -/
  | sysrstAssert
  /-- RESET_RELEASE (R553) -/
  | resetRelease (por : Bool) (strap : BitVec 12)
  /-- GARDENER_ROM_BOOT (R553) -/
  | gardenerRomBoot
  /-- FIRMWARE_LOAD (R490) -/
  | firmwareLoad
  /-- RECORD_RECOVERY (R482) -/
  | recordRecovery (bad : List Nat)
  /-- GRAFT_START_APPLICATION (R280) -/
  | graftStartApplication
  /-- DRAM_TRAINING (R553) -/
  | dramTraining (cfg : DramConfig) (failed : List McId)
  /-- CORE_RELEASE (R555) -/
  | coreRelease (boot : BitVec 53)
  /-- NO_FLASH_NO_PEER (R30) -/
  | noFlashNoPeer
  /-- OVERLAY_PAGE_READ (R490) -/
  | overlayPageRead (first : Bool) (second : Bool)
  /-- DOORBELL_CORE_START (R556) -/
  | doorbellCoreStart (c : CoreId)
  /-- KEY_VALID_RISE (R565) -/
  | keyValidRise (vhash : BitVec 384) (dec : BitVec 256)
  /-- KEY_VALID_FALL (R565) -/
  | keyValidFall
  -- Host ports, TAP and debug port
  /-- SS_READ (R563) -/
  | ssRead (id : BitVec 10) (addr : BitVec 53) (len : BitVec 2) (strb : Half) (badOp : Bool)
  /-- SS_WRITE (R563) -/
  | ssWrite (id : BitVec 10) (addr : BitVec 53) (beats : List (BitVec 128 × Half)) (badOp : Bool)
  /-- SM_RESPONSE (R562) -/
  | smResponse (id : BitVec 10) (ok : Bool) (data : List (BitVec 128))
  /-- DBGACC (R576) -/
  | dbgacc (addr : BitVec 53) (write : Bool) (data : W32)
  /-- IDCODE (R575) -/
  | idcode (pins : W32)
  /-- BYPASS (R575) -/
  | bypass (ir : BitVec 5)
  /-- TAP_RESET (R575) -/
  | tapReset
  -- Ticks
  /-- SYSTEM_COUNTER_TICK (R430) -/
  | systemCounterTick
  /-- SLEEP_COUNTER_TICK (R431) -/
  | sleepCounterTick
  -- Ends of the waits of other rows, and what no other row names
  /-- DEPARTURE_COMPLETE (R510) -/
  | departureComplete (p : PortId)
  /-- OFF_ENTRY_TIMEOUT (R547) -/
  | offEntryTimeout (q : Fin 4)
  /-- BAD_TYPE_BLOCK (R499) -/
  | badTypeBlock (p : PortId) (raw : List (Byte)) (bad : Byte)
  /-- UNLISTED_OP (R503) -/
  | unlistedOp (p : PortId)
  /-- RESERVED_KIND_FRAME (R514) -/
  | reservedKindFrame (raw : List (Byte)) (rxErr : Bool)
  /-- UNLISTED_OPCODE (R471) -/
  | unlistedOpcode (q : Fin 4)
  /-- DBGACC_COMPLETION (R576) -/
  | dbgaccCompletion
  deriving DecidableEq, Repr

end Sys2Proof
end

