-- ==== Sys2Proof/Decode.lean ====
section
/-!
DEFINITION. Decode.lean: the command that a word of the opcode table spells. The table gives none of its rows any bits: the commands come
from outside as commands, not as words. The bytes of a core's instructions, which a command of a core stands for, are those of
Machine/Encode.lean.
-/
namespace Sys2Proof

/-- The command that the word `w` of `nbits` bits spells: none, since no row of the table has bits. -/
def decodeTableWord (_nbits _w : Nat) : Option Instr := none

end Sys2Proof
end

