-- ==== Sys2Proof/Config.lean ====
section
/-!
DEFINITION. Config.lean: the build parameters that the integrator fixes (R5, R6) and the values that the spec leaves open.
An opaque constant has no body, so no proof can rest on a value of it: a claim holds for every value.
-/
namespace Sys2Proof

/-- The build parameters of R6. -/
structure Build where
  /-- WZ_REGIONS: 1, 2 or 4. -/
  regions : Nat := 4
  /-- WZ_VLEN = 512. -/
  wide : Bool := true
  /-- WZ_SPM_MB_PER_REGION: 2, 4 or 8. -/
  spmMb : Nat := 8
  /-- WZ_MC_CHANNELS: 1 to 4. -/
  mcChannels : Nat := 4
  /-- WZ_CP_PORTS: 0 to 6. -/
  cpPorts : Nat := 6
  /-- WZ_IRQ_IN: 256, 512 or 1,024. -/
  irqIn : Nat := 1024
  deriving DecidableEq, Repr

/-- The reference build of R5. -/
def referenceBuild : Build := {}

/-- WZ_VLEN in bits. -/
def Build.vlen (b : Build) : Nat := if b.wide then 512 else 256
/-- Banks per region (R6). -/
def Build.banksPerRegion (b : Build) : Nat := b.spmMb * 8

namespace Config

/-- FREE VALUE: the n-th value that the spec leaves open, narrowed by its user. The step reads it at the counter State.free. -/
opaque freeValue : Nat → BitVec 64
/-- FREE VALUE: n-th open byte string of a given length. -/
opaque freeBytes : Nat → Nat → List (BitVec 8)
/-- FREE VALUE: n-th open yes or no. -/
opaque freeBool : Nat → Bool

/-- FREE VALUE: whether a fused multiply-add of ∞ × 0 with a quiet NaN as addend sets NV; R195 does not say. -/
opaque fmaNanInvalid : Bool

/-- FREE VALUE: a microword of the base image of version 2.4.0, by address (R256, R273): the image's contents are not given. -/
opaque baseMicro : Nat → BitVec 32
/-- FREE VALUE: ADDR of a base image dispatch entry with MC = 1, by table × 256 + opcode (R257): not given. -/
opaque baseDispatch : Nat → BitVec 14

/-- SHA-384 (R278, R490), which the spec names and does not give: an uninterpreted function. -/
opaque sha384 : List (BitVec 8) → BitVec 384
/-- ECDSA on P-384 (R275): whether a 96-byte signature verifies under a 97-byte public key for a digest; uninterpreted. -/
opaque ecdsaOk : List (BitVec 8) → List (BitVec 8) → BitVec 384 → Bool
/-- AES-256-GCM (R275): key, initialisation vector, additional data, ciphertext and tag; the plaintext if the tag verifies;
uninterpreted. -/
opaque gcmOpen : BitVec 256 → List (BitVec 8) → List (BitVec 8) → List (BitVec 8) → List (BitVec 8) → Option (List (BitVec 8))

end Config
end Sys2Proof
end

