-- ==== Sys2Proof/Machine/CoreState.lean ====
section
/-!
DEFINITION. Machine/CoreState.lean: the state of one Ualux core (02_stack_model.md, 06_windows.md, 08_pipeline_timing.md,
10_exceptions.md, 11_memory.md). Every field's comment gives: width | rule and file | reset value | what it holds.
A field's default is its reset value (R57).
-/
namespace Sys2Proof.Machine

/-- A return-stack entry (R41, R153, R154). -/
inductive RetEntry
  /-- Return address and the caller's frame base as an operand-stack position. -/
  | call (addr : Word) (base : Word)
  /-- Loop start address and loop count. -/
  | loop (start : Word) (count : Word)
  /-- An entry of any other KIND (R154). -/
  | invalid
  deriving DecidableEq, Repr

/-- The operand stack: its ring part and the counts of R151, R152. -/
structure OpStk where
  /-- list of 64 | R36, R151 02_stack_model.md, 06_windows.md | empty (R57) | entries held in the ring, top first -/
  ring : List Word := []
  /-- natural | R152 06_windows.md | 0 (R154 text) | operand spilled count, blocks of 16 -/
  spilled : Nat := 0
  /-- natural | R162 06_windows.md | 0 | entries missing from the highest spilled block when it holds the top -/
  cut : Nat := 0
  /-- natural | R37 02_stack_model.md | 0 (R57) | frame base position -/
  fbase : Nat := 0
  deriving DecidableEq, Repr

/-- The return stack: its ring part and the counts of R153. -/
structure RetStk where
  /-- list of 128 | R41, R153 02_stack_model.md, 06_windows.md | empty (R57) | entries held in the ring, top first -/
  ring : List RetEntry := []
  /-- natural | R153 06_windows.md | 0 | return spilled count, segments of 8 -/
  spilled : Nat := 0
  /-- natural | R162 06_windows.md | 0 | entries missing from the highest spilled segment when it holds the top -/
  cut : Nat := 0
  /-- natural | R304 10_exceptions.md | 0 | return floor position -/
  floor : Nat := 0
  deriving DecidableEq, Repr

/-- A reserved window: the trap window or the double-fault window (R170, R171). -/
structure Win where
  /-- list of at most 16 × 64 | R170 06_windows.md | empty | operand entries, top first -/
  ops : List Word := []
  /-- list of at most 4 | R170 06_windows.md | empty | return entries, top first -/
  rets : List RetEntry := []
  /-- natural | R170 06_windows.md | 0 | frame base on this window -/
  fbase : Nat := 0
  /-- natural | R304 10_exceptions.md | 0 | return floor on this window -/
  floor : Nat := 0
  deriving DecidableEq, Repr

/-- A stuck barrow transfer (R166, R167). -/
structure Stuck where
  /-- 2 | R167 06_windows.md | none | WHY code -/
  why : BitVec 2
  /-- 1 | R167 06_windows.md | none | DIR: refill -/
  refill : Bool
  /-- 64 | R167 06_windows.md | none | virtual address of the transfer -/
  va : Word
  deriving DecidableEq, Repr

/-- The types of R326. -/
inductive MemType | cacheable | uncached | direct | device | posted
  deriving DecidableEq, Repr

/-- A cache operation that occupies a store-buffer entry (R341). -/
inductive CacheMop | dcClean | dcInv | dcClinv | icInv
  deriving DecidableEq, Repr

/-- A store-buffer entry (R229) or a cache operation waiting in the buffer (R341). -/
structure SbEntry where
  /-- 53 | R229 08_pipeline_timing.md | none | physical address of the aligned 16-byte block -/
  addr : Nat
  /-- 16 × 8 with mask | R229 08_pipeline_timing.md | none | bytes written, by offset in the block -/
  bytes : List (Option Byte)
  /-- type | R326 11_memory.md | none | memory type of the stores held -/
  mtype : MemType
  /-- 53 | R450 15_slices.md | none | guest-physical address of the block -/
  gpa : Nat
  /-- 2 | R313 10_exceptions.md | none | privilege level of the stores held -/
  pl : BitVec 2
  /-- 6 | R450 15_slices.md | none | slice under which the stores were made -/
  slice : BitVec 6
  /-- operation | R341 11_memory.md | none | a cache operation instead of a store -/
  mop : Option CacheMop := none
  /-- 1 | R111, R125 04_instructions.md | none | sent to host space or another complex and not yet acknowledged -/
  sent : Bool := false
  deriving DecidableEq, Repr

/-- What a TLB entry maps (R334). -/
inductive TlbKind
  /-- Virtual to physical. -/
  | combined
  /-- Names the stage-1 table that the walk reads at this level (1 to 3). -/
  | table (level : Nat)
  /-- A stage-2 leaf. -/
  | stage2
  deriving DecidableEq, Repr

/-- A TLB entry (R324, R330, R334, R335). -/
structure TlbEntry where
  /-- kind | R334 11_memory.md | none | what the entry maps -/
  kind : TlbKind
  /-- 6 | R334 11_memory.md | none | slice tag -/
  slice : BitVec 6
  /-- 16 | R334 11_memory.md | none | PID tag -/
  pid : BitVec 16
  /-- 1 | R334 11_memory.md | none | global -/
  glob : Bool
  /-- natural | R334 11_memory.md | none | log2 of the size of the range -/
  bits : Nat
  /-- 64 | R334 11_memory.md | none | base of the input range -/
  inp : Nat
  /-- 53 | R331 11_memory.md | none | guest-physical base of the range, or of the named table -/
  gpa : Nat
  /-- 53 | R334 11_memory.md | none | physical base of the range -/
  pa : Nat
  /-- 1 | R330 11_memory.md | none | stage-1 W -/
  w1 : Bool
  /-- 1 | R330 11_memory.md | none | stage-1 X -/
  x1 : Bool
  /-- 1 | R330 11_memory.md | none | stage-1 U -/
  u1 : Bool
  /-- 1 | R330 11_memory.md | none | stage-2 W -/
  w2 : Bool
  /-- 1 | R330 11_memory.md | none | stage-2 X -/
  x2 : Bool
  /-- 1 | R326 11_memory.md | none | NC at either stage -/
  nc : Bool
  /-- 1 | R213 07_vector.md | none | reserved for the gather or scatter in progress -/
  rsv : Bool := false
  deriving DecidableEq, Repr

/-- A line of an L1 cache (R338, R340). -/
structure L1Line where
  /-- natural | R338 11_memory.md | none | physical address divided by 64 -/
  line : Nat
  /-- 1 | R340 11_memory.md | none | locked by L1.LOCK -/
  locked : Bool := false
  /-- 1 | R340 11_memory.md | none | contents held; 0: a lock kept as a reservation -/
  held : Bool := true
  deriving DecidableEq, Repr

/-- An answer to a read that left the complex. -/
inductive ExtAnswer
  | bytes (d : List Byte)
  /-- A bus error. -/
  | error
  /-- Uncorrectable data (STATUS 3 of R504). -/
  | poison
  deriving DecidableEq, Repr

/-- A read or atomic of the core that left the complex (R24, R25, R111). -/
structure ExtReq where
  /-- 53 | R24, R25 01_hierarchy.md | none | physical address -/
  addr : Nat
  /-- natural | R110 04_instructions.md | none | bytes asked for -/
  len : Nat
  /-- operation | R503 17_coupling.md | none | atomic code and operands for a remote atomic -/
  atom : Option (Nat × Word × Word) := none
  /-- answer | R111 04_instructions.md | none | what came back, if anything has -/
  answer : Option ExtAnswer := none
  deriving DecidableEq, Repr

/-- The instruction whose request has left the complex (R111): with its data it completes. -/
structure WaitOp where
  /-- instruction | R111 04_instructions.md | none | the instruction, without its repeat prefix -/
  op : CoreOp
  /-- prefix | R79, R81 03_encoding.md | none | none: no repeat; RPT; or RPTN with its count byte -/
  rep : Option (Option Byte)
  /-- natural | R134 04_instructions.md | none | event points that its command allows it to pass -/
  units : Nat
  deriving DecidableEq, Repr

/-- A pending machine check (R298, R299). -/
structure MCheck where
  /-- 64 | R299 10_exceptions.md | none | MCCAUSE -/
  cause : Word
  /-- 53 | R293 10_exceptions.md | none | physical address where known -/
  pa : Nat
  /-- 1 | R298 10_exceptions.md | none | MCLOST -/
  lost : Bool := false
  /-- 1 | R267, R293 10_exceptions.md | none | raised under R267: the TSB records the instruction at this address -/
  at? : Option Word := none
  deriving DecidableEq, Repr

/-- A CWR whose effect is still to come (R54). -/
structure PendCwr where
  /-- 12 | R54 02_stack_model.md | none | control register number -/
  reg : BitVec 12
  /-- 64 | R54 02_stack_model.md | none | value -/
  val : Word
  /-- natural | R54 02_stack_model.md | none | instructions that still run under the old value -/
  left : Nat
  /-- 1 | R441 15_slices.md | none | written at PL0 -/
  pl0 : Bool
  deriving DecidableEq, Repr

/-- A repeat in progress at the PC (R80, R81, R306, R311). -/
structure Rep where
  /-- 64 | R80 03_encoding.md | none | iterations not yet completed -/
  left : Word
  /-- 1 | R81 03_encoding.md | none | an RPTN -/
  fixed : Bool
  deriving DecidableEq, Repr

/-- Fold classes (R91). -/
inductive FoldClass | producer | binAlu | alu1 | cmp2 | cmp1 | stl | other
  deriving DecidableEq, Repr

/-- The instruction issued last, as far as folding needs it (R91, R92). -/
structure LastIssue where
  /-- class | R91 03_encoding.md | none | fold class -/
  cls : FoldClass
  /-- 64 | R91 03_encoding.md | none | address of its first byte -/
  pc : Word
  /-- 1 | R92 03_encoding.md | none | it was the second of a pair -/
  second : Bool
  deriving DecidableEq, Repr

/-- A microcoded sequence between two of its event points (R261 to R267). -/
structure Micro where
  /-- 14 | R264 09_microcode.md | none | address of the next microword -/
  addr : BitVec 14
  /-- 16 × 64 | R262 09_microcode.md | 0 | UT0 to UT15 -/
  ut : Vector Word 16 := Vector.replicate 16 0
  /-- list of at most 4 × 14 | R264 09_microcode.md | empty | the micro return stack, top first -/
  rets : List (BitVec 14) := []
  /-- natural | R267 09_microcode.md | 0 | cc charged since the last COMMIT with EVT = 1 -/
  cc : Nat := 0
  deriving DecidableEq, Repr

/-- What the core is doing. -/
inductive RunState
  /-- Held by reset, region state or CORE_RELEASE (R555, R556). -/
  | held
  /-- Executing instructions. -/
  | run
  /-- In a WAIT (R128). -/
  | wait
  /-- In a triple fault whose store buffer has still to drain (R308). -/
  | tripling
  /-- Stopped after a triple fault (R308). -/
  | tripled
  deriving DecidableEq, Repr

/-- One core. -/
structure Core where
  /-- 64 | R66 03_encoding.md | 0 (wz_boot_addr at start, R555) | program counter -/
  pc : Word := 0
  /-- 10 of 64 | R58 02_stack_model.md | 0x1C | CSTAT 0x000 -/
  cstat : Word := 0x1C
  /-- 64 | R58 02_stack_model.md | 0 | TSBP 0x001 -/
  tsbp : Word := 0
  /-- 64 | R58 02_stack_model.md | 0 | TSBCEIL 0x002 -/
  tsbceil : Word := 0
  /-- 64 | R58 02_stack_model.md | 0 | DFTSBP 0x003 -/
  dftsbp : Word := 0
  /-- 64 | R58 02_stack_model.md | 0 | VECBASE 0x004 -/
  vecbase : Word := 0
  /-- 64 | R58 02_stack_model.md | 0 | SAVEHEAD 0x005 -/
  savehead : Word := 0
  /-- 64 | R58, R61 02_stack_model.md | 0 | SPILLBASE 0x011 -/
  spillbase : Word := 0
  /-- 64 | R58, R61 02_stack_model.md | 0 | SPILLLIM 0x012 -/
  spilllim : Word := 0
  /-- 64 | R58, R61 02_stack_model.md | 0 | RSSPILL 0x013 -/
  rsspill : Word := 0
  /-- 64 | R58, R61 02_stack_model.md | 0 | RSLIM 0x014 -/
  rslim : Word := 0
  /-- 64 | R43, R58 02_stack_model.md | 0 | XP 0x020 -/
  xp : Word := 0
  /-- 64 | R43, R58 02_stack_model.md | 0 | YP 0x021 -/
  yp : Word := 0
  /-- 64 | R43, R58 02_stack_model.md | 0 | XSTEP 0x022 -/
  xstep : Word := 0
  /-- 64 | R43, R58 02_stack_model.md | 0 | YSTEP 0x023 -/
  ystep : Word := 0
  /-- 64 | R58 02_stack_model.md | 0x4 | FXCTL 0x030 -/
  fxctl : Word := 0x4
  /-- 64 | R58, R62 02_stack_model.md | 0 | FPCTL 0x031 -/
  fpctl : Word := 0
  /-- 64 | R58 02_stack_model.md | 0x4 | VCTL 0x032: VRM, VSAT and VSOV; WIDE and FDEPTH are computed on a read -/
  vctl : Word := 0x4
  /-- 64 | R58 02_stack_model.md | 0 | PTROOT 0x040 -/
  ptroot : Word := 0
  /-- 64 | R58 02_stack_model.md | 0 | PID 0x041 -/
  pid : Word := 0
  /-- 6 | R56, R58 02_stack_model.md | 0 | SLICE 0x042 -/
  slice : BitVec 6 := 0
  /-- 7 | R312 10_exceptions.md | 0 | DBGCTL 0x070 fields IBE, DBE and ACTHALT -/
  dbgctl : BitVec 7 := 0
  /-- 4 × 64 | R312 10_exceptions.md | 0 | IBP0 to IBP3 0x071 to 0x074 -/
  ibp : Vector Word 4 := Vector.replicate 4 0
  /-- 2 × 64 | R312 10_exceptions.md | 0 | DBP0 and DBP1 0x075 and 0x076 -/
  dbp : Vector Word 2 := Vector.replicate 2 0
  /-- 64 | R312 10_exceptions.md | 0 | DBPCFG 0x077 -/
  dbpcfg : Word := 0
  /-- 64 | R312 10_exceptions.md | 0 | DBGSTAT 0x078 -/
  dbgstat : Word := 0
  /-- 1 | R312 10_exceptions.md | 0 | DBGCTL.HALTREQ -/
  haltReq : Bool := false
  /-- 1 | R312 10_exceptions.md | 0 | DBGCTL.HALTED -/
  halted : Bool := false
  /-- 1 | R317 10_exceptions.md | 0 | a STEP is under way: halt after one instruction or entry -/
  stepOne : Bool := false
  /-- operand stack | R36, R151 06_windows.md | empty (R57) | the operand stack -/
  stk : OpStk := {}
  /-- return stack | R41, R153 06_windows.md | empty (R57) | the return stack -/
  rstk : RetStk := {}
  /-- window | R170 06_windows.md | none | the trap window while WINSTAT.TRAPW = 1 -/
  trapWin : Option Win := none
  /-- window | R171 06_windows.md | none | the double-fault window while WINSTAT.DFW = 1 -/
  dfWin : Option Win := none
  /-- transfer | R166 06_windows.md | none | stuck operand transfer -/
  opStuck : Option Stuck := none
  /-- transfer | R166 06_windows.md | none | stuck return-stack transfer -/
  rsStuck : Option Stuck := none
  /-- 4 × 80 | R45 02_stack_model.md | 0 (R57) | tills T0 to T3 -/
  tills : Vector Till 4 := Vector.replicate 4 0
  /-- list of at most 32 × WZ_VLEN | R46 02_stack_model.md | empty (R57) | the F-stack, top first -/
  fstk : List FEntry := []
  /-- 7 × 64 | R48 02_stack_model.md | 0 (R57) | masks M1 to M7 -/
  masks : Vector Word 7 := Vector.replicate 7 0
  /-- list of at most 8 | R229 08_pipeline_timing.md | empty | the store buffer, oldest entry first -/
  sb : List SbEntry := []
  /-- 1 | R229 08_pipeline_timing.md | 0 | the last instruction or iteration was a store into the youngest entry -/
  sbOpen : Bool := false
  /-- list of at most 32 | R334 11_memory.md | empty | ITLB, most recently used first -/
  itlb : List TlbEntry := []
  /-- list of at most 48 | R334 11_memory.md | empty | DTLB, most recently used first -/
  dtlb : List TlbEntry := []
  /-- list of at most 1,024 | R334 11_memory.md | empty | L2 TLB, most recently used first -/
  l2tlb : List TlbEntry := []
  /-- list of at most 512 lines | R338 11_memory.md | empty | L1I, most recently used first -/
  l1i : List L1Line := []
  /-- list of at most 512 lines | R338 11_memory.md | empty | L1D, most recently used first -/
  l1d : List L1Line := []
  /-- list of at most 8 × 53 | R298 10_exceptions.md | empty | physical addresses of pending late store errors, oldest first -/
  late : List Nat := []
  /-- machine check | R298 10_exceptions.md | none | the pending machine check -/
  mcheck : Option MCheck := none
  /-- entry | R269 09_microcode.md | none | control-store word (false, address) or dispatch entry (true, index) whose repair the core awaits -/
  repairWait : Option (Bool × Nat) := none
  /-- list | R54 02_stack_model.md | empty | CWRs whose effect is still to come, oldest first -/
  pend : List PendCwr := []
  /-- repeat | R80, R306 03_encoding.md, 10_exceptions.md | none | repeat in progress at the PC -/
  rep : Option Rep := none
  /-- 1 | R82, R134, R135 03_encoding.md, 04_instructions.md | 0 | the instruction at the PC has completed units or iterations -/
  mid : Bool := false
  /-- sequence | R264 09_microcode.md | none | the microcoded sequence under way at the PC -/
  micro : Option Micro := none
  /-- 1 | R315 10_exceptions.md | 0 | breakpoints are suppressed for the first issue group -/
  bpSkip : Bool := false
  /-- 1 | R316 10_exceptions.md | 0 | a single-step event is due -/
  stepDue : Bool := false
  /-- list | R24, R25 01_hierarchy.md | empty | reads of the current instruction that left the complex, oldest first -/
  ext : List ExtReq := []
  /-- instruction | R111 04_instructions.md | none | the instruction that waits for an answer from outside the complex -/
  waitOp : Option WaitOp := none
  /-- 1 | R232, R237, R296 10_exceptions.md | 0 | the instruction at the PC has begun and waits, so that no event comes before its end -/
  begun : Bool := false
  /-- issue record | R91, R92 03_encoding.md | none | the instruction issued last -/
  lastIssue : Option LastIssue := none
  /-- state | R128, R308, R555 04_instructions.md, 10_exceptions.md, 19_power_start.md | held | what the core is doing -/
  run : RunState := .held
  /-- 64 | R213 07_vector.md | none | address of the VLDS, VSTS, VGATHER or VSCATTER for which DTLB entries are reserved -/
  vgs : Option Word := none
  /-- 1 | R213 07_vector.md | 0 | that instruction is the one that translates now -/
  vgsOn : Bool := false
  /-- 1 | R282, R474 09_microcode.md, 16_gardener.md | 0 | asked to stop for a quiesce, a freeze or a region change; it stops at its next boundary -/
  quiesced : Bool := false
  /-- 1 | R481 16_gardener.md | 0 | retired -/
  retired : Bool := false
  deriving DecidableEq, Repr

end Sys2Proof.Machine
end

