-- ==== Sys2Proof/Machine/BlockState.lean ====
section
/-!
DEFINITION. Machine/BlockState.lean: the state of the scratchpad banks, the weeder, the bank movers (12_scratchpad.md), the
slice manager (15_slices.md) and the caches shared by a cluster (11_memory.md).
Every field's comment gives: width | rule and file | reset value | what it holds.
-/
namespace Sys2Proof.Machine

/-- A scratchpad bank's registers (R363 to R378, R388). -/
structure Bank where
  /-- 8 | R363, R388 12_scratchpad.md | 0xFF | SPM_BANK_OWNER.OWNER -/
  owner : Byte := 0xFF
  /-- 8 | R366 12_scratchpad.md | 0xFF | the owner whose in-flight accesses a handover awaits -/
  oldOwner : Byte := 0xFF
  /-- 1 | R366, R388 12_scratchpad.md | 1 | SPM_BANK_STAT.HANDOVER_DONE -/
  handoverDone : Bool := true
  /-- 1 | R365, R388 12_scratchpad.md | 0 | SPM_BANK_STAT.REJ -/
  rej : Bool := false
  /-- 1 | R362, R388 12_scratchpad.md | 0 | SPM_BANK_STAT.UE -/
  ue : Bool := false
  /-- 1 | R375, R388 12_scratchpad.md | 0 | SPM_BANK_STAT.WEEDFAULT -/
  weedFault : Bool := false
  /-- 2 | R376, R388 12_scratchpad.md | 0b00 | SPM_BANK_STAT.PSTATE: 0 ON, 1 RET, 2 OFF, 3 changing -/
  pstate : BitVec 2 := 0
  /-- 2 | R376, R388 12_scratchpad.md | 0b00 | SPM_BANK_PWR.REQ -/
  req : BitVec 2 := 0
  /-- 1 | R376 12_scratchpad.md | 0 | the change in progress started from OFF, so ON comes with zero fill -/
  fromOff : Bool := false
  /-- 16 | R361, R388 12_scratchpad.md | 0 | SPM_BANK_ECC.CECNT -/
  cecnt : BitVec 16 := 0
  deriving DecidableEq, Repr

/-- A region register set (R369, R371). -/
structure RgnSet where
  /-- 32 | R369, R388 12_scratchpad.md | 0 | SPM_RGN_BASE -/
  base : W32 := 0
  /-- 32 | R369, R388 12_scratchpad.md | 0 | SPM_RGN_LIMIT -/
  limit : W32 := 0
  /-- 32 | R369, R388 12_scratchpad.md | 0 | SPM_RGN_PERM, with LOCK in bit 31 -/
  perm : W32 := 0
  deriving DecidableEq, Repr

/-- A mover descriptor (R381). -/
structure MvDesc where
  /-- 53 | R381 12_scratchpad.md | none | SRC -/
  src : Nat
  /-- 53 | R381 12_scratchpad.md | none | DST -/
  dst : Nat
  /-- 32 | R381 12_scratchpad.md | none | LEN -/
  len : Nat
  /-- 1 | R381 12_scratchpad.md | none | CTL.IRQ -/
  irq : Bool
  /-- 1 | R381 12_scratchpad.md | none | CTL.LAST -/
  last : Bool
  /-- 53 | R381 12_scratchpad.md | none | NEXT -/
  next : Nat
  deriving DecidableEq, Repr

/-- A bank-mover channel (R381 to R388). -/
structure Mover where
  /-- 53 | R388 12_scratchpad.md | 0 | SPM_MV_DESC_LO and _HI -/
  desc : BitVec 53 := 0
  /-- 2 | R388 12_scratchpad.md | 0b00 | SPM_MV_STAT.STATE: 0 IDLE, 1 BUSY, 2 DONE, 3 ERROR -/
  state : BitVec 2 := 0
  /-- 3 | R385, R388 12_scratchpad.md | 0 | SPM_MV_STAT.ERR -/
  err : BitVec 3 := 0
  /-- 2 | R387, R388 12_scratchpad.md | 0 | SPM_MV_STAT.ABTRES -/
  abtres : BitVec 2 := 0
  /-- 8 | R382, R388 12_scratchpad.md | 0 | SPM_MV_STAT.AGENT -/
  agent : Byte := 0
  /-- 6 | R382, R388 12_scratchpad.md | 0 | SPM_MV_STAT.SLICE -/
  slice : BitVec 6 := 0
  /-- 1 | R382, R388 12_scratchpad.md | 0 | SPM_MV_STAT.S2 -/
  s2 : Bool := false
  /-- 32 | R386, R388 12_scratchpad.md | 0 | SPM_MV_REM -/
  rem : BitVec 32 := 0
  /-- 53 | R388 12_scratchpad.md | 0 | SPM_MV_CUR_LO and _HI -/
  cur : BitVec 53 := 0
  /-- descriptor | R381 12_scratchpad.md | none | the current descriptor, once read -/
  d : Option MvDesc := none
  /-- 1 | R387 12_scratchpad.md | 0 | an ABORT awaits the end of the current block -/
  abortReq : Bool := false
  /-- bytes | R386, R503, R520 12_scratchpad.md, 17_coupling.md | none | bytes of the current block read so far -/
  data : Option (List Byte) := none
  /-- 1 | R386, R503 12_scratchpad.md, 17_coupling.md | 0 | a remote read or write of the current block is outstanding -/
  waiting : Bool := false
  /-- 1 | R386, R503, R520 17_coupling.md | 0 | the outstanding request is the block's write -/
  writing : Bool := false
  /-- 1 | R386, R503 17_coupling.md | 0 | the outstanding remote write of the block has completed -/
  wrote : Bool := false
  deriving DecidableEq, Repr

/-- The weeder (R372, R388). -/
structure Weeder where
  /-- 1 | R388 12_scratchpad.md | 1 | SPM_WEED_CTL.EN -/
  en : Bool := true
  /-- 16 | R388 12_scratchpad.md | 0x00C8 | SPM_WEED_CTL.PERIOD -/
  period : BitVec 16 := 0xC8
  /-- 9 | R372, R388 12_scratchpad.md | 0 | SPM_WEED_POS.POS -/
  pos : BitVec 9 := 0
  /-- 32 | R375, R388 12_scratchpad.md | 0 | SPM_WEED_FAULT -/
  fault : W32 := 0
  deriving DecidableEq, Repr

/-- A slice descriptor (R444). -/
structure Slice where
  /-- 3 | R444 15_slices.md | 0b000 (slice 0: 0b001) | SLC_CTL.STATE: 0 FREE, 1 ACTIVE, 2 LOGGING, 3 FROZEN, 4 RESERVED -/
  state : BitVec 3 := 0
  /-- 1 | R444 15_slices.md | 0 | SLC_CTL.S2EN -/
  s2en : Bool := false
  /-- 2 | R444, R446 15_slices.md | 0 | SLC_CTL.QPOL -/
  qpol : BitVec 2 := 0
  /-- 1 | R444, R451 15_slices.md | 0 | SLC_CTL.LOGOVF -/
  logovf : Bool := false
  /-- 9 | R444 15_slices.md | 0 | SLC_CTL.DLOGLIM -/
  dloglim : BitVec 9 := 0
  /-- 32 | R444, R445 15_slices.md | 0 | SLC_BW -/
  bw : W32 := 0
  /-- 64 | R444 15_slices.md | 0 (slice 0: present cores) | SLC_CORES_LO and _HI -/
  cores : BitVec 64 := 0
  /-- 40 | R444 15_slices.md | 0 (slice 0: all 40) | SLC_GROUPS_LO and _HI -/
  groups : BitVec 40 := 0
  /-- 64 | R444 15_slices.md | 0 (slice 0: present channels) | SLC_TMRCH_LO and _HI -/
  tmrch : BitVec 64 := 0
  /-- 256 | R444 15_slices.md | 0 (slice 0: present banks) | SLC_BANKS[0] to [7] -/
  banks : BitVec 256 := 0
  /-- 53 | R444 15_slices.md | 0 | SLC_S2ROOT_LO and _HI -/
  s2root : BitVec 53 := 0
  /-- 53 | R444 15_slices.md | 0 | SLC_HEB_LO and _HI -/
  heb : BitVec 53 := 0
  /-- 53 | R444 15_slices.md | 0 | SLC_DLOG_LO and _HI -/
  dlog : BitVec 53 := 0
  /-- 1 | R444 15_slices.md | 0 | SLC_QWIN.OPEN -/
  qwin : Bool := false
  deriving DecidableEq, Repr

/-- The global registers of the slice manager (R440, R442, R444, R450). -/
structure SliceMgr where
  /-- 53 | R444 15_slices.md | 0 | SLC_PIDTAB ADDR -/
  pidtab : BitVec 53 := 0
  /-- 1 | R440, R444 15_slices.md | 0 | SLC_PIDTAB.EN -/
  pidtabEn : Bool := false
  /-- 53 | R444 15_slices.md | 0 | SLC_PLOG ADDR -/
  plog : BitVec 53 := 0
  /-- 1 | R444, R450 15_slices.md | 0 | SLC_PLOG_CTL.EN -/
  plogEn : Bool := false
  /-- 1 | R444, R451 15_slices.md | 0 | SLC_PLOG_CTL.OVF -/
  plogOvf : Bool := false
  /-- list of at most 256 × (16, 16) | R442 15_slices.md | empty | cached PID table entries, most recently used first -/
  pidCache : List (BitVec 16 × BitVec 16) := []
  deriving DecidableEq, Repr

/-- A TIMING item of a graft package: the figures of an encoding (R276, R277). -/
structure TimingItem where
  /-- 8 | R276 09_microcode.md | none | dispatch table -/
  table : Byte
  /-- 8 | R276 09_microcode.md | none | opcode -/
  op : Byte
  /-- 16 | R276 09_microcode.md | none | fixed cc -/
  fixed : BitVec 16
  /-- 16 | R276 09_microcode.md | none | cc per unit -/
  unit : BitVec 16
  /-- 8 | R276 09_microcode.md | none | 0 exact, 1 bounded -/
  kind : Byte
  deriving DecidableEq, Repr

/-- A control-store image: what a chain of packages changed of the base image (R273, R277). -/
structure Image where
  /-- list of (14, 32) | R256, R277 09_microcode.md | empty | microwords that differ from the base image, by rising address -/
  micro : List (Nat × W32) := []
  /-- list of (10, 16) | R257, R277 09_microcode.md | empty | dispatch entries that differ, by rising table × 256 + opcode -/
  disp : List (Nat × BitVec 16) := []
  /-- list | R277 09_microcode.md | empty | figures that stand in place of R245's -/
  timing : List TimingItem := []
  deriving DecidableEq, Repr

/-- A cluster's control store and dispatch tables (R256 to R274). -/
structure CtlStore where
  /-- image | R257, R280 09_microcode.md | base image | contents of the store and the tables -/
  img : Image := {}
  /-- 32 | R280, R281 09_microcode.md | 0 | UCODE_ID.PKG -/
  pkg : W32 := 0
  /-- 16 | R281, R286 09_microcode.md | 0 | UCODE_ID.GEN -/
  gen : BitVec 16 := 0
  /-- list of 14 | R269, R272 09_microcode.md | empty | microwords whose parity fails -/
  badWords : List Nat := []
  /-- list of 10 | R269, R272 09_microcode.md | empty | dispatch entries whose parity fails -/
  badEntries : List Nat := []
  /-- list of at most 32 × (5, 14) | R256, R271 09_microcode.md | empty | the remap table: spare index and the address of the microword that it serves -/
  remap : List (Nat × Nat) := []
  /-- 1 | R274 09_microcode.md | 0 | contents lost in OFF and not yet written again -/
  lost : Bool := false
  deriving DecidableEq, Repr

/-- A line of a cluster's L2 (R338, R340). -/
structure L2Line where
  /-- natural | R338 11_memory.md | none | physical address divided by 64 -/
  line : Nat
  /-- list of cores of the cluster | R340 11_memory.md | none | cores that hold a lock on the line -/
  lockers : List (Fin 4) := []
  /-- 1 | R340 11_memory.md | none | contents held; 0: a lock kept as a reservation -/
  held : Bool := true
  deriving DecidableEq, Repr

/-- A line modified in some cache (R338, R341). -/
structure DirtyLine where
  /-- natural | R341 11_memory.md | none | physical address divided by 64 -/
  line : Nat
  /-- 64 bytes | R341 11_memory.md | none | what DRAM holds for the line until it is written back -/
  copy : List Byte
  deriving DecidableEq, Repr

/-- A cache: an L1D of a core or the L2 of a cluster. -/
inductive CacheName | l1d (c : CoreId) | l2 (k : ClusterId)
  deriving DecidableEq, Repr

/-- A message on the coupling ports (R504). -/
structure Msg where
  /-- 3 | R503, R504 17_coupling.md | none | CLASS -/
  cls : Nat
  /-- 5 | R503, R504 17_coupling.md | none | OP -/
  op : Nat
  /-- 12 | R504 17_coupling.md | none | SRC -/
  src : BitVec 12
  /-- 12 | R504 17_coupling.md | none | DST -/
  dst : BitVec 12
  /-- 16 | R504 17_coupling.md | none | TAG -/
  tag : BitVec 16
  /-- 8 | R504 17_coupling.md | none | STATUS -/
  status : Byte := 0
  /-- 40 | R504 17_coupling.md | none | ADDR -/
  addr : BitVec 40 := 0
  /-- 16 | R504 17_coupling.md | none | MASK -/
  mask : BitVec 16 := 0
  /-- at most 224 bytes | R504 17_coupling.md | none | data after the header -/
  data : List Byte := []
  deriving DecidableEq, Repr

/-- Who awaits the answer to a request that this complex sent (R504, R562). -/
inductive Waiter
  /-- A load, fetch or atomic of a core. -/
  | load (c : CoreId)
  /-- The oldest store-buffer entry of a core. -/
  | store (c : CoreId)
  /-- A mover channel, region × 4 + channel. -/
  | mover (n : Fin 16)
  /-- The Gardener. -/
  | gardener
  /-- The debug port. -/
  | debug
  /-- A request forwarded to host space for another complex: its header. -/
  | forward (m : Msg)
  /-- Nothing waits: a write-back, or a snoop sent by this home, whose answer changes the directory. -/
  | none
  deriving DecidableEq, Repr

/-- A request outstanding on the coupling ports, by its TAG (R504). -/
structure Pending where
  /-- 16 | R504 17_coupling.md | none | TAG -/
  tag : BitVec 16
  /-- 12 | R504 17_coupling.md | none | node asked -/
  node : BitVec 12
  /-- 8 | R503 17_coupling.md | none | CLASS × 32 + OP of the request -/
  op : Nat
  /-- 53 | R504 17_coupling.md | none | physical address asked for -/
  addr : Nat
  /-- waiter | R504 17_coupling.md | none | who awaits the answer -/
  who : Waiter
  deriving DecidableEq, Repr

/-- A cached copy of a line of another complex's DRAM (R344, R353). -/
structure RemLine where
  /-- 47 | R344 11_memory.md | none | physical address divided by 64 -/
  line : Nat
  /-- 64 bytes | R353 11_memory.md | none | contents -/
  data : List Byte
  /-- 1 | R503 17_coupling.md | none | held exclusively -/
  excl : Bool
  /-- 1 | R343 11_memory.md | none | modified since it was granted -/
  modified : Bool := false
  deriving DecidableEq, Repr

/-- What the home directory tracks for a line that other complexes hold (R344, R345). -/
structure DirLine where
  /-- natural | R344 11_memory.md | none | physical address divided by 64 -/
  line : Nat
  /-- list of 12 | R344 11_memory.md | none | nodes that hold a copy -/
  holders : List (BitVec 12)
  /-- 1 | R344, R503 11_memory.md, 17_coupling.md | none | the one holder holds it exclusively -/
  excl : Bool
  deriving DecidableEq, Repr

/-- A request outstanding on wz_sm_* (R560, R561). -/
structure SmReq where
  /-- 10 | R561 20_integration.md | none | ID -/
  id : BitVec 10
  /-- 53 | R24, R561 20_integration.md | none | address -/
  addr : Nat
  /-- 1 | R560 20_integration.md | none | write -/
  write : Bool
  /-- natural | R560 20_integration.md | none | bytes read, or 0 for a write -/
  len : Nat
  /-- bytes with strobes | R560 20_integration.md | none | bytes written, from addr upwards -/
  data : List (Option Byte)
  /-- waiter | R562 20_integration.md | none | who awaits the response -/
  who : Waiter
  deriving DecidableEq, Repr

end Sys2Proof.Machine
end

