-- ==== Sys2Proof/Machine/UnitState.lean ====
section
/-!
DEFINITION. Machine/UnitState.lean: the state of the interrupt controller, the timers, the Gardener, the coupling ports, the train
message engine, the DRAM controller, power and reset, and the ports of the complex (13_interrupts.md, 14_timers.md, 16_gardener.md to
20_integration.md).
Every field's comment gives: width | rule and file | reset value | what it holds.
-/
namespace Sys2Proof.Machine

/-! ### Interrupt controller -/

/-- A mask that has still to take effect in the views (R401). -/
structure MaskDelay where
  /-- 6 | R401 13_interrupts.md | none | group -/
  g : Fin 40
  /-- 32 | R401 13_interrupts.md | none | sources newly masked -/
  bits : W32
  /-- natural | R401 13_interrupts.md | none | fc until the views take the mask -/
  left : Nat
  deriving DecidableEq, Repr

/-- The interrupt controller (R390 to R412). -/
structure Intc where
  /-- 40 × 32 | R393, R411 13_interrupts.md | 0 | pending bits of edge sources -/
  pend : Vector W32 40 := Vector.replicate 40 0
  /-- 40 × 32 | R395, R411 13_interrupts.md | 0 | software latches of level sources -/
  latch : Vector W32 40 := Vector.replicate 40 0
  /-- 40 × 32 | R394, R412 13_interrupts.md | 0 | INTC_INPUT: synchronised inputs -/
  input : Vector W32 40 := Vector.replicate 40 0
  /-- 40 × 32 | R394 13_interrupts.md | 0 | levels of wz_irq_in -/
  pin : Vector W32 40 := Vector.replicate 40 0
  /-- 40 × 32 | R393, R410 13_interrupts.md | 0 | edges that the asynchronous latches hold while the clocks are stopped -/
  alatch : Vector W32 40 := Vector.replicate 40 0
  /-- 40 × 32 | R400, R412 13_interrupts.md | 0xFFFF_FFFF | INTC_MASK -/
  mask : Vector W32 40 := Vector.replicate 40 0xFFFF_FFFF
  /-- list | R401 13_interrupts.md | empty | masks that the views have still to take -/
  delays : List MaskDelay := []
  /-- 40 × 32 | R403, R412 13_interrupts.md | 0 | INTC_ACTIVE -/
  active : Vector W32 40 := Vector.replicate 40 0
  /-- 40 × 32 | R392, R412 13_interrupts.md | 0 | INTC_SENSE -/
  sense : Vector W32 40 := Vector.replicate 40 0
  /-- 40 × 3 | R412 13_interrupts.md | 0b001 | INTC_GRP_CFG.LEVEL -/
  level : Vector (BitVec 3) 40 := Vector.replicate 40 1
  /-- 40 × 16 | R408, R412 13_interrupts.md | 0 | INTC_GRP_CFG.HOLDOFF -/
  holdoff : Vector (BitVec 16) 40 := Vector.replicate 40 0
  /-- 40 × 1 | R408, R412 13_interrupts.md | 0 | INTC_GRP_CFG.HELD -/
  held : Vector Bool 40 := Vector.replicate 40 false
  /-- 1216 × 6 | R402, R412 13_interrupts.md | 0 | INTC_ROUTE of the sources other than doorbells (R391) -/
  route : Vector (BitVec 6) 1216 := Vector.replicate 1216 0
  /-- 64 × 11 | R404, R412 13_interrupts.md | 0 | source of each core's last claim -/
  claimSrc : Vector (BitVec 11) 64 := Vector.replicate 64 0
  /-- 64 × 3 | R403, R404, R412 13_interrupts.md | 0b000 | result of each core's last claim -/
  claimRes : Vector (BitVec 3) 64 := Vector.replicate 64 0
  /-- 16 | R406, R412 13_interrupts.md | 0 | INTC_STRAY_COUNT -/
  strayCount : BitVec 16 := 0
  /-- 32 | R406, R412 13_interrupts.md | 0 | INTC_STRAY_LAST -/
  strayLast : W32 := 0
  deriving DecidableEq, Repr

/-! ### Timers -/

/-- A 48-bit timer value: active, pending and holding word (R417, R419 to R421). -/
structure TmrVal where
  /-- 48 | R417, R436 14_timers.md | 0xFFFF_FFFF_FFFF | active value -/
  act : BitVec 48 := 0xFFFF_FFFF_FFFF
  /-- 48 | R420 14_timers.md | none | committed pending value (PPEND, APEND, BPEND) -/
  pend : Option (BitVec 48) := none
  /-- 32 | R419 14_timers.md | DESIGN CHOICE 0 (log entry 20) | holding word -/
  hold : W32 := 0
  deriving DecidableEq, Repr

/-- A timer channel (R413 to R434). -/
structure Chan where
  /-- 10 | R436 14_timers.md | 0 | TMR_CTL bits 9:0: EN, SRC, ONESHOT, MAKEUP, FREEZE_ON_HALT, OUTMODE -/
  ctl : BitVec 10 := 0
  /-- 1 | R428, R436 14_timers.md | 0 | OUTLVL and wz_tmr_out -/
  out : Bool := false
  /-- 32 | R416, R436 14_timers.md | 0x0001_0000 | TMR_PRESC.DIV -/
  div : W32 := 0x0001_0000
  /-- 33 | R416 14_timers.md | DESIGN CHOICE 0 (log entry 20) | prescaler accumulator -/
  acc : BitVec 33 := 0
  /-- 10 | R427, R436 14_timers.md | 0 | TMR_STAT bits 9:0 -/
  stat : BitVec 10 := 0
  /-- 6 | R427, R436 14_timers.md | 0 | TMR_IRQEN -/
  irqen : BitVec 6 := 0
  /-- 48 | R417, R436 14_timers.md | 0 | TMR_CNT -/
  cnt : BitVec 48 := 0
  /-- 32 | R419, R422 14_timers.md | DESIGN CHOICE 0 (log entry 20) | holding word of TMR_CNT -/
  cntHold : W32 := 0
  /-- value | R417 14_timers.md | 0xFFFF_FFFF_FFFF | PERIOD -/
  period : TmrVal := {}
  /-- value | R417 14_timers.md | 0xFFFF_FFFF_FFFF | CMPA -/
  cmpa : TmrVal := {}
  /-- value | R417 14_timers.md | 0xFFFF_FFFF_FFFF | CMPB -/
  cmpb : TmrVal := {}
  /-- 48 | R424, R436 14_timers.md | 0 | TMR_CAPR -/
  capr : BitVec 48 := 0
  /-- 48 | R424, R436 14_timers.md | 0 | TMR_CAPF -/
  capf : BitVec 48 := 0
  /-- 48 | R425, R436 14_timers.md | 0 | TMR_WIDTH -/
  width : BitVec 48 := 0
  /-- 48 | R425 14_timers.md | none (not running) | the running width counter -/
  wcnt : Option (BitVec 48) := none
  /-- 64 | R432, R436 14_timers.md | 0 | TMR_MKUP_RATIO -/
  ratio : BitVec 64 := 0
  /-- 32 | R419 14_timers.md | DESIGN CHOICE 0 (log entry 20) | holding word of TMR_MKUP_RATIO -/
  ratioHold : W32 := 0
  /-- 32 | R432 14_timers.md | 0 | MFRAC -/
  mfrac : W32 := 0
  deriving DecidableEq, Repr

/-- A region's timer block apart from its channels (R431). -/
structure TmrBlock where
  /-- 48 | R431, R436 14_timers.md | 0 | TMR_SLEEP_ST -/
  sleep : BitVec 48 := 0
  /-- 1 | R431 14_timers.md | 0 | the block is stopped -/
  stopped : Bool := false
  deriving DecidableEq, Repr

/-- The system counter (R430, R432). -/
structure SysTmr where
  /-- 64 | R430 14_timers.md | 0 | TMR_SYS and TIMEBASE -/
  count : Word := 0
  /-- 64 | R432, R436 14_timers.md | 0x0000_0BEB_C200_0000 | TMR_SYS_MKUP_RATIO -/
  ratio : Word := 0x0000_0BEB_C200_0000
  /-- 32 | R419 14_timers.md | DESIGN CHOICE 0 (log entry 20) | holding word of TMR_SYS_MKUP_RATIO -/
  ratioHold : W32 := 0
  /-- 32 | R432 14_timers.md | 0 | MFRAC -/
  mfrac : W32 := 0
  /-- 48 | R432, R436 14_timers.md | 0 | TMR_SYS_SLEEP_ST -/
  sleep : BitVec 48 := 0
  /-- 1 | R430 14_timers.md | 0 | stopped: wz_refclk is stopped in DORMANT -/
  stopped : Bool := false
  deriving DecidableEq, Repr

/-! ### Gardener -/

/-- A status code of R471. -/
abbrev GStatus := BitVec 16

/-- How far a posted command is (R463, R465). -/
inductive GProgress
  /-- Posted, not accepted. -/
  | posted
  /-- Accepted and executing. -/
  | executing
  /-- Its reply is ready: status, payload, RFLAGS.EXEC, TDONE. -/
  | ready (status : GStatus) (payload : List Word) (exec : Bool) (tdone : Word)
  deriving DecidableEq, Repr

/-- A command in a queue slot (R462, R469). -/
structure GCmd where
  /-- bytes | R462, R469 16_gardener.md | none | header and parameters, as copied by the POST -/
  pkt : List Byte
  /-- 3 | R489 16_gardener.md | none | port on which a queue 3 packet arrived -/
  port : Nat := 0
  /-- progress | R463 16_gardener.md | none | how far it is -/
  st : GProgress := .posted
  deriving DecidableEq, Repr

/-- A command queue (R461 to R467). -/
structure GQueue where
  /-- 64 × 32 | R462, R494 16_gardener.md | 0 | GDN_REQ -/
  req : Vector W32 64 := Vector.replicate 64 0
  /-- list of at most 16 | R461, R462 16_gardener.md | empty | occupied slots, oldest first -/
  slots : List GCmd := []
  /-- 1 | R462, R494 16_gardener.md | 0 | GDN_QSTAT.REJ -/
  rej : Bool := false
  /-- 1 | R466, R494 16_gardener.md | 0 | GDN_QSTAT.BADACK -/
  badack : Bool := false
  /-- 16 | R494 16_gardener.md | 0 | GDN_QSTAT.LASTSEQ -/
  lastseq : BitVec 16 := 0
  deriving DecidableEq, Repr

/-- A tally class's configuration (R476, R479). -/
structure TallyCfg where
  /-- 1 | R476 16_gardener.md | as R476 | policy: RETIRE -/
  retire : Bool
  /-- 4 | R476 16_gardener.md | as R476 | threshold N, 1 to 8 -/
  n : Nat
  /-- 32 | R476 16_gardener.md | as R476 | window W in ms -/
  w : W32
  deriving DecidableEq, Repr

/-- A unit's entry in a tally class; for class 0x06 also one entry for each word or dispatch entry (R476, R477). -/
structure Tally where
  /-- 8 | R476 16_gardener.md | none | class -/
  cls : Nat
  /-- natural | R476 16_gardener.md | none | unit -/
  unit : Nat
  /-- natural | R477 16_gardener.md | none | class 0x06: 1 + word address, or 1 + 16384 + dispatch index; otherwise 0 -/
  sub : Nat
  /-- 32 | R476 16_gardener.md | 0 | total, saturating -/
  total : W32 := 0
  /-- list of at most 8 × 64 | R477 16_gardener.md | empty | TIMEBASE of the latest events in the window, newest first -/
  recent : List Word := []
  /-- 1 | R476 16_gardener.md | 0 | lasting -/
  lasting : Bool := false
  /-- 1 | R476 16_gardener.md | 0 | retired-pending -/
  pending : Bool := false
  deriving DecidableEq, Repr

/-- The policy keys (R480). -/
structure Policies where
  /-- natural | R480 16_gardener.md | 4 | MIN_CORES -/
  minCores : Word := 4
  /-- natural | R480 16_gardener.md | 600 | CALIB_S -/
  calibS : Word := 600
  /-- natural | R480 16_gardener.md | 1 | AVS_EN -/
  avsEn : Word := 1
  /-- natural | R480 16_gardener.md | 720 | AVS_FLOOR_MV -/
  avsFloor : Word := 720
  /-- natural | R480 16_gardener.md | 800 | AVS_CEIL_MV -/
  avsCeil : Word := 800
  /-- natural | R480 16_gardener.md | 5 | AVS_STEP_MV -/
  avsStep : Word := 5
  /-- natural | R480 16_gardener.md | 970 | RO_TARGET -/
  roTarget : Word := 970
  deriving DecidableEq, Repr

/-- A leaf of the attention tree (R484, R494). -/
structure Leaf where
  /-- 1 | R484, R494 16_gardener.md | 0 | SET -/
  set : Bool := false
  /-- 7 | R484, R494 16_gardener.md | 0 | COUNT -/
  count : BitVec 7 := 0
  /-- 16 | R484, R494 16_gardener.md | 0 | UNIT -/
  unit : BitVec 16 := 0
  deriving DecidableEq, Repr

/-- A record in flash that counts (R486, R487). -/
structure Record where
  /-- 8 | R486 16_gardener.md | none | TYPE -/
  typ : Nat
  /-- 8 | R486 16_gardener.md | none | ORIGIN -/
  origin : Nat
  /-- 32 | R486 16_gardener.md | none | SEQ -/
  seq : W32
  /-- bytes | R486 16_gardener.md | none | PAYLOAD -/
  payload : List Byte
  deriving DecidableEq, Repr

/-- The NOR flash (R485 to R488, R490). -/
structure Flash where
  /-- 1 | R29, R573 16_gardener.md, 20_integration.md | DESIGN CHOICE 1 (log entry 21) | a device is connected -/
  fitted : Bool := true
  /-- list | R486 16_gardener.md | DESIGN CHOICE empty (log entry 21) | the records of the active half that count, oldest first -/
  records : List Record := []
  /-- natural | R486, R488 16_gardener.md | DESIGN CHOICE 0 (log entry 21) | bytes used in the active half -/
  used : Nat := 0
  /-- 1 | R488 16_gardener.md | DESIGN CHOICE 0 (log entry 21) | active half -/
  half : Bool := false
  /-- 32 | R488 16_gardener.md | DESIGN CHOICE 0 (log entry 21) | generation of the active half -/
  gen : W32 := 0
  /-- 32 | R486 16_gardener.md | DESIGN CHOICE 0 (log entry 21) | SEQ of the next record -/
  seq : W32 := 0
  /-- bytes | R485 16_gardener.md | DESIGN CHOICE empty (log entry 21) | firmware slot A -/
  slotA : List Byte := []
  /-- bytes | R485 16_gardener.md | DESIGN CHOICE empty (log entry 21) | firmware slot B -/
  slotB : List Byte := []
  deriving DecidableEq, Repr

/-- A staged graft package (R290). -/
structure Staged where
  /-- 32 | R290 09_microcode.md | none | PKG -/
  pkg : W32
  /-- 32 | R288, R290 09_microcode.md | none | BASE -/
  base : W32
  /-- changes | R277, R290 09_microcode.md | none | microwords, dispatch entries and figures that it writes -/
  delta : Image
  /-- natural | R290 09_microcode.md | none | bytes of decrypted records held -/
  size : Nat
  /-- bytes | R275 09_microcode.md | none | the package as received -/
  raw : List Byte
  deriving DecidableEq, Repr

/-- A quiesce that the Gardener runs on one cluster (R281, R282, R474, R543). -/
inductive QPhase
  /-- The cores have been asked to stop. -/
  | stopping
  /-- Flush, write and verify: `again` after a first mismatch, `back` while the previous image is written back (R285). -/
  | writing (again : Bool) (back : Bool)
  /-- Verified: the resume phase is due. -/
  | resuming
  deriving DecidableEq, Repr

/-- A command of more than one step that is executing (R281, R474, R543, R455). -/
inductive GJob
  /-- GRAFT_APPLY: package, FORCE, PERSIST, clusters still to do (the first is under way when `ph` is some), outcomes of clusters
  0 to 15, and a requested abort. -/
  | graft (pkg : W32) (force persist : Bool) (todo : List ClusterId) (out : List Nat) (ph : Option QPhase) (abort : Bool)
  /-- QUIESCE_CLUSTER: FORCE, clusters still to do, outcomes. -/
  | quiesce (force : Bool) (todo : List ClusterId) (out : List Nat)
  /-- CLOCK_SET: region, MHz, and whether its cores have stopped. -/
  | clock (r : RegionId) (mhz : Nat) (released : Bool)
  /-- POWER_SET code 3 that awaits the conditions of R545. -/
  | off (r : RegionId)
  /-- POWER_SET of a depth for an OFF region that awaits its clock (R547). -/
  | powerUp (r : RegionId) (depth : BitVec 2)
  /-- MIGRATE_FINAL that awaits the stop of the slice's cores (R455). -/
  | final (slice : BitVec 6)
  deriving DecidableEq, Repr

/-- The Gardener (R460 to R494). -/
structure Gardener where
  /-- 4 queues | R461 16_gardener.md | empty (R494) | queues 0 host, 1 core, 2 debug, 3 peer -/
  q : Vector GQueue 4 := Vector.replicate 4 {}
  /-- 2 | R463 16_gardener.md | DESIGN CHOICE 3 (log entry 22) | the queue served last -/
  lastQ : Fin 4 := 3
  /-- 4 jobs | R463, R473 16_gardener.md | none | the command of each queue that is executing in steps -/
  job : Vector (Option GJob) 4 := Vector.replicate 4 none
  /-- 10 configurations | R476 16_gardener.md | as R476 | tally classes 0x01 to 0x0A -/
  cfg : Vector TallyCfg 10 := #v[⟨false, 8, 60000⟩, ⟨false, 8, 60000⟩, ⟨true, 4, 60000⟩, ⟨false, 8, 3600000⟩, ⟨true, 8, 1000⟩,
    ⟨true, 2, 86400000⟩, ⟨false, 8, 1000⟩, ⟨false, 4, 1000⟩, ⟨false, 1, 1000⟩, ⟨false, 2, 3600000⟩]
  /-- list | R476 16_gardener.md | empty | units with a total, a window or a flag -/
  tallies : List Tally := []
  /-- keys | R480 16_gardener.md | defaults | policy keys -/
  pol : Policies := {}
  /-- 12 × 16 leaves | R484, R494 16_gardener.md | 0 | GDN_LEAF, index k × 16 + j -/
  leaves : Vector Leaf 192 := Vector.replicate 192 {}
  /-- list of at most 8 | R290 09_microcode.md | empty | the staging area -/
  staged : List Staged := []
  /-- 16 lists of 32 | R280, R291 09_microcode.md | empty | the chain of packages of each cluster's image -/
  chain : Vector (List W32) 16 := Vector.replicate 16 []
  /-- list | R481, R482 16_gardener.md | empty | retired units as (kind, unit) of R483, ranks retired for this start only apart -/
  retired : List (Nat × Nat) := []
  /-- list of cluster numbers | R474 16_gardener.md | empty | clusters kept stopped by QUIESCE_CLUSTER -/
  quiet : List ClusterId := []
  /-- 32 | R472, R490 16_gardener.md | 0 (no firmware runs) | FWVER of the running firmware -/
  fwver : W32 := 0
  /-- 1 | R472, R490 16_gardener.md | 0 | running slot: 0 A, 1 B -/
  fwslot : Bool := false
  /-- 1 | R490 16_gardener.md | 0 | firmware has been loaded -/
  fwRuns : Bool := false
  /-- 1 | R490 16_gardener.md | none | the firmware slot that is treated as invalid since an overlay page failed twice -/
  badSlot : Option Bool := none
  /-- 1 | R29 01_hierarchy.md | 0 | the Gardener is a junior -/
  junior : Bool := false
  /-- 4 × 16 | R493 16_gardener.md | none | ring-oscillator baseline of each region -/
  roBase : Vector (Option (BitVec 16)) 4 := Vector.replicate 4 none
  /-- 4 × 16 | R493 16_gardener.md | 0 | latest ring-oscillator count of each region -/
  roLast : Vector (BitVec 16) 4 := Vector.replicate 4 0
  /-- 16 | R493, R574 16_gardener.md, 20_integration.md | DESIGN CHOICE 0 (log entry 22) | the voltage requested last, mV -/
  avsMv : BitVec 16 := 0
  /-- 384, 256 | R565 20_integration.md | none | captured copies of wz_key_vhash and wz_key_dec -/
  keys : Option (BitVec 384 × BitVec 256) := none
  /-- flash | R485 16_gardener.md | DESIGN CHOICE fitted and empty (log entry 21) | the NOR flash, or the senior's records of a junior -/
  flash : Flash := {}
  /-- 10 × 32 | R488, R489 16_gardener.md | DESIGN CHOICE 0 (log entry 21) | events of each class since the first start -/
  events : Vector W32 10 := Vector.replicate 10 0
  /-- 10 × 32 | R488, R489 16_gardener.md | DESIGN CHOICE 0 (log entry 21) | lasting marks of each class since the first start -/
  marks : Vector W32 10 := Vector.replicate 10 0
  deriving DecidableEq, Repr

/-! ### Coupling ports and the train message engine -/

/-- A DATA block in the replay buffer (R501, R502). -/
structure TxBlock where
  /-- 12 | R498 17_coupling.md | none | SEQ -/
  seq : BitVec 12
  /-- messages | R498, R504 17_coupling.md | none | the payload -/
  msgs : List Msg
  /-- natural | R502 17_coupling.md | 1 | times sent -/
  tries : Nat
  /-- 8 × natural | R501, R502 17_coupling.md | 0 | invalid sync headers seen on each lane since the block was first sent -/
  bad : Vector Nat 8 := Vector.replicate 8 0
  deriving DecidableEq, Repr

/-- A coupling port (R495 to R511, R523). -/
structure Port where
  /-- 1 | R506, R523 17_coupling.md | 1 | CPL_CTL.EN -/
  en : Bool := true
  /-- 2 | R507, R523 17_coupling.md | 0b00 | CPL_CTL.MAXW -/
  maxw : BitVec 2 := 0
  /-- 3 | R506, R523 17_coupling.md | 0 | CPL_STAT.STATE: 0 DOWN, 1 TRAINING, 2 UP, 3 ADMITTING, 4 COHERENT, 5 DEPARTING -/
  state : BitVec 3 := 0
  /-- 3 | R506 17_coupling.md | 2 | the state to which a retrain returns -/
  back : BitVec 3 := 2
  /-- 2 | R507, R523 17_coupling.md | 0b11 | CPL_STAT.WIDTH -/
  width : BitVec 2 := 3
  /-- 8 | R507, R523 17_coupling.md | 0 | CPL_STAT.ACTIVE -/
  active : Byte := 0
  /-- 3 | R508, R523 17_coupling.md | 0 | CPL_STAT.ADMREJ -/
  admrej : BitVec 3 := 0
  /-- 12 | R523 17_coupling.md | 0 | CPL_PEER.NODE -/
  peer : BitVec 12 := 0
  /-- 1 | R523 17_coupling.md | 0 | CPL_PEER.VALID -/
  peerValid : Bool := false
  /-- 16 | R523 17_coupling.md | 0 | CPL_PEER.VER -/
  peerVer : BitVec 16 := 0
  /-- 8 | R481, R507, R523 17_coupling.md | 0 | CPL_LANES.RETIRED -/
  retired : Byte := 0
  /-- 8 | R495, R523 17_coupling.md | 0 | CPL_LANES.LOCKED -/
  locked : Byte := 0
  /-- 16 | R501, R523 17_coupling.md | 0 | CPL_RESEND -/
  resend : BitVec 16 := 0
  /-- 4 | R502, R505, R511, R523 17_coupling.md | 0 | CPL_ERR -/
  err : BitVec 4 := 0
  /-- 12 | R498 17_coupling.md | DESIGN CHOICE 0 (log entry 23) | SEQ of the next DATA block sent -/
  txSeq : BitVec 12 := 0
  /-- 12 | R500 17_coupling.md | DESIGN CHOICE 0 (log entry 23) | SEQ expected next -/
  rxSeq : BitVec 12 := 0
  /-- list of at most 128 | R501 17_coupling.md | empty | the replay buffer, oldest first -/
  replay : List TxBlock := []
  /-- 1 | R500 17_coupling.md | 0 | an error episode is under way -/
  episode : Bool := false
  /-- natural | R500 17_coupling.md | 0 | NAK blocks sent -/
  naks : Nat := 0
  /-- 5 × natural | R503 17_coupling.md | 0 | credits held for each class, in units -/
  credits : Vector Nat 5 := Vector.replicate 5 0
  /-- 5 × natural | R503 17_coupling.md | 0 | credits to return to the peer for each class -/
  owed : Vector Nat 5 := Vector.replicate 5 0
  /-- list | R503 17_coupling.md | empty | messages waiting for credits or a link, oldest first -/
  txq : List Msg := []
  /-- list | R503 17_coupling.md | empty | messages received and not yet handled, oldest first -/
  rxq : List Msg := []
  /-- natural | R570 20_integration.md | 0 | slip pulses issued on each lane -/
  slips : Vector Nat 8 := Vector.replicate 8 0
  /-- 1 | R508 17_coupling.md | 0 | this side has accepted ADMIT and sent its table -/
  admitSent : Bool := false
  /-- table | R508 17_coupling.md | none | the peer's member table and MAJOR version, once its ADMIT has come -/
  admitGot : Option (List (BitVec 12 × BitVec 4) × Byte) := none
  /-- list of 12 | R355, R510 11_memory.md, 17_coupling.md | empty | nodes whose departure through this port is under way -/
  leaving : List (BitVec 12) := []
  /-- 1 | R506 17_coupling.md | 0 | the LINK block of the peer has come since training began -/
  linkGot : Bool := false
  deriving DecidableEq, Repr

/-- A member of the board domain (R509). -/
structure Member where
  /-- 12 | R509, R523 17_coupling.md | 0 (entry 0: CORE_ID.NODE) | NODE -/
  node : BitVec 12 := 0
  /-- 1 | R509, R523 17_coupling.md | 0 (entry 0: 1) | VALID -/
  valid : Bool := false
  /-- 3 | R509, R523 17_coupling.md | 0 (entry 0: 7) | PORT -/
  port : BitVec 3 := 0
  /-- 4 | R509, R523 17_coupling.md | 0 | HOPS -/
  hops : BitVec 4 := 0
  deriving DecidableEq, Repr

/-- A sequenced TME frame that awaits its acknowledgement, or an unsequenced frame sent (R514, R515). -/
structure TmeFrame where
  /-- 4 | R514 17_coupling.md | none | KIND -/
  kind : Nat
  /-- 1 | R515 17_coupling.md | none | FLAGS.RESET -/
  reset : Bool := false
  /-- 12 | R514 17_coupling.md | none | SRC -/
  src : BitVec 12
  /-- 12 | R514 17_coupling.md | none | DST -/
  dst : BitVec 12
  /-- 16 | R514 17_coupling.md | none | SEQ -/
  seq : BitVec 16 := 0
  /-- 16 | R514 17_coupling.md | none | ACK -/
  ack : BitVec 16 := 0
  /-- 16 | R514 17_coupling.md | none | LEN -/
  len : Nat := 0
  /-- 8 | R514 17_coupling.md | none | STATUS -/
  status : Byte := 0
  /-- 40 | R514 17_coupling.md | none | ADDR -/
  addr : BitVec 40 := 0
  /-- 32 | R514 17_coupling.md | none | TAG -/
  tag : W32 := 0
  /-- bytes | R514 17_coupling.md | none | data -/
  data : List Byte := []
  /-- 12 | R518 17_coupling.md | none | transmit-ring slot of the descriptor that it completes -/
  desc : Option (BitVec 12) := none
  deriving DecidableEq, Repr

/-- What the TME keeps for a node (R515). -/
structure TmePeer where
  /-- 12 | R515 17_coupling.md | none | node -/
  node : BitVec 12
  /-- 16 | R515 17_coupling.md | DESIGN CHOICE 0 (log entry 24) | SEQ of the next frame sent -/
  txSeq : BitVec 16 := 0
  /-- list of at most 64 | R515 17_coupling.md | empty | frames not yet acknowledged, oldest first -/
  out : List TmeFrame := []
  /-- list | R515 17_coupling.md | empty | frames that await room among the 64, oldest first -/
  wait : List TmeFrame := []
  /-- natural | R515 17_coupling.md | 0 | attempts without progress -/
  tries : Nat := 0
  /-- 1 | R515 17_coupling.md | 0 | delivery has failed: frames are discarded -/
  failed : Bool := false
  /-- 1 | R515 17_coupling.md | 1 | the next frame carries RESET -/
  reset : Bool := true
  /-- 16 | R515 17_coupling.md | none | SEQ of the last frame accepted from the node -/
  rx : Option (BitVec 16) := none
  deriving DecidableEq, Repr

/-- The train message engine (R513 to R523). -/
structure Tme where
  /-- 1 | R513, R523 17_coupling.md | 0 | TME_CTL.EN -/
  en : Bool := false
  /-- 1 | R521, R523 17_coupling.md | 0 | TME_CTL.QUIESCE -/
  quiesce : Bool := false
  /-- 1 | R521, R523 17_coupling.md | 1 | TME_STAT.QUIESCED -/
  quiesced : Bool := true
  /-- 16 | R523 17_coupling.md | 0x88B5 | TME_ETHERTYPE -/
  etype : BitVec 16 := 0x88B5
  /-- 16 | R515, R523 17_coupling.md | 200 | TME_RTO.RTO -/
  rto : BitVec 16 := 200
  /-- 8 | R515, R523 17_coupling.md | 8 | TME_RTO.RETRY -/
  retry : Byte := 8
  /-- 48 | R514, R523 17_coupling.md | 0 | TME_MACPFX -/
  macpfx : BitVec 48 := 0
  /-- 53 | R518, R523 17_coupling.md | 0 | TME_TXBASE -/
  txbase : BitVec 53 := 0
  /-- 4 | R518, R523 17_coupling.md | 0 | TME_TXSIZE.LOG2 -/
  txsize : BitVec 4 := 0
  /-- 12 | R518, R523 17_coupling.md | 0 | TME_TXHEAD -/
  txhead : BitVec 12 := 0
  /-- 12 | R518, R523 17_coupling.md | 0 | TME_TXTAIL -/
  txtail : BitVec 12 := 0
  /-- 53 | R519, R523 17_coupling.md | 0 | TME_RXBASE -/
  rxbase : BitVec 53 := 0
  /-- 4 | R519, R523 17_coupling.md | 0 | TME_RXSIZE.LOG2 -/
  rxsize : BitVec 4 := 0
  /-- 12 | R519, R523 17_coupling.md | 0 | TME_RXHEAD -/
  rxhead : BitVec 12 := 0
  /-- 12 | R519, R523 17_coupling.md | 0 | TME_RXTAIL -/
  rxtail : BitVec 12 := 0
  /-- 12 | R515, R523 17_coupling.md | 0 | TME_FAIL_NODE.NODE -/
  failNode : BitVec 12 := 0
  /-- 4 | R515, R523 17_coupling.md | 0 | TME_FAIL_NODE.KIND -/
  failKind : BitVec 4 := 0
  /-- 16 | R515, R523 17_coupling.md | 0 | TME_FAIL_NODE.DROPS -/
  failDrops : BitVec 16 := 0
  /-- 40 | R515, R523 17_coupling.md | 0 | TME_FAIL_ADDR -/
  failAddr : BitVec 40 := 0
  /-- 16 | R514, R523 17_coupling.md | 0 | TME_RXDROP -/
  rxdrop : BitVec 16 := 0
  /-- 12 | R522, R523 17_coupling.md | 0 | TME_TBX_CTL.NODE -/
  tbxNode : BitVec 12 := 0
  /-- 3 | R522, R523 17_coupling.md | 0 | TME_TBX_CTL BUSY, VALID, FAIL in bits 0, 1, 2 -/
  tbxStat : BitVec 3 := 0
  /-- 64 | R522 17_coupling.md | 0 | t1 of the exchange under way -/
  tbxT1 : Word := 0
  /-- 64 | R522, R523 17_coupling.md | 0 | TME_TBX_DELTA -/
  tbxDelta : Word := 0
  /-- 32 | R522, R523 17_coupling.md | 0 | TME_TBX_RTT -/
  tbxRtt : W32 := 0
  /-- 8 × 3 × 32 | R516, R523 17_coupling.md | 0 | TME_WIN_BASE, LIMIT and PERM -/
  win : Vector RgnSet 8 := Vector.replicate 8 {}
  /-- 4,096 | R513, R523 17_coupling.md | 0 | TME_REACH -/
  reach : BitVec 4096 := 0
  /-- list of at most 64 × 24 bytes | R517 17_coupling.md | empty | the open store frame: its node and records -/
  acc : Option (BitVec 12 × List (Nat × List (Option Byte))) := none
  /-- list | R515 17_coupling.md | empty | what is kept for each node -/
  peers : List TmePeer := []
  /-- frame | R514, R522 17_coupling.md | none | the unsequenced frame (ACK or TBX) sent last -/
  lastTx : Option TmeFrame := none
  deriving DecidableEq, Repr

/-! ### DRAM controller -/

/-- A DRAM channel (R524 to R537). -/
structure McChan where
  /-- 2 | R525, R537 18_dram.md | 0b00 | MC_CFG.DENS -/
  dens : BitVec 2 := 0
  /-- 1 | R525, R537 18_dram.md | 0 | MC_CFG.WIDTH -/
  x8 : Bool := false
  /-- 3 | R525, R537 18_dram.md | 0 | MC_CFG.RANKS -/
  ranks : BitVec 3 := 0
  /-- 4 | R525, R537 18_dram.md | 0 | MC_CFG.SPEED -/
  speed : BitVec 4 := 0
  /-- 7 | R525, R537 18_dram.md | 0 | MC_CFG.CAP_GB -/
  cap : BitVec 7 := 0
  /-- 4 | R536, R537 18_dram.md | 0 | MC_STAT.RETIRED -/
  retired : BitVec 4 := 0
  /-- 4 | R537 18_dram.md | 0 | MC_STAT.PRESENT -/
  present : BitVec 4 := 0
  /-- 1 | R534, R537 18_dram.md | 0 | MC_STAT.TRAINING -/
  training : Bool := false
  /-- 1 | R535, R537 18_dram.md | 0 | MC_STAT.SELFREF -/
  selfref : Bool := false
  /-- 16 | R528, R537 18_dram.md | 0 | MC_ECC.CECNT -/
  cecnt : BitVec 16 := 0
  /-- 8 | R529, R537 18_dram.md | 0 | MC_ECC.UECNT -/
  uecnt : Byte := 0
  /-- 40 | R529, R537 18_dram.md | 0 | MC_ERRADDR.ADDR -/
  errAddr : BitVec 40 := 0
  /-- 1 | R537 18_dram.md | 0 | MC_ERRADDR.UE -/
  errUe : Bool := false
  /-- natural | R527 18_dram.md | 0 | updates performed on dfi_ctrlupd and dfi_phyupd -/
  updates : Nat := 0
  /-- 1 | R527 18_dram.md | 0 | dfi_phymstr is granted -/
  phymstr : Bool := false
  deriving DecidableEq, Repr

/-! ### Power, reset and ports -/

/-- A region's clocks and power (R543 to R547). -/
structure RegionPwr where
  /-- 2 | R544 19_power_start.md | OFF (until step 6, R553) | state: 0 RUN, 1 IDLE, 2 NAP, 3 OFF -/
  state : BitVec 2 := 3
  /-- 2 | R545, R555 19_power_start.md | RUN | sleep depth: 0 RUN, 1 IDLE, 2 NAP -/
  depth : BitVec 2 := 0
  /-- natural | R472, R543 16_gardener.md, 19_power_start.md | 2,000 | recorded core clock, MHz -/
  mhz : Nat := 2000
  /-- 1 | R545 19_power_start.md | 0 | a wake condition awaits the core clock -/
  waking : Bool := false
  deriving DecidableEq, Repr

/-- Where the start-up sequence stands (R551, R553). -/
inductive StartStep
  /-- A reset is low, or its release has not been synchronised. -/
  | inReset
  /-- Released; step 1 is due. -/
  | step1
  | step2
  | step3
  | step4
  | step5
  | step6
  /-- Complete. -/
  | running
  /-- No firmware: PARKED, running the ROM alone (R30, R490). -/
  | romOnly
  deriving DecidableEq, Repr

/-- Power, clocks, reset and straps (R538 to R556, R567, R568). -/
structure Power where
  /-- 4 regions | R544 19_power_start.md | as above | regions -/
  rgn : Vector RegionPwr 4 := Vector.replicate 4 {}
  /-- 2 | R548 19_power_start.md | ACTIVE (R555) | complex state: 0 ACTIVE, 1 PARKED, 2 DORMANT -/
  complex : BitVec 2 := 0
  /-- 2 | R548, R555 19_power_start.md | ACTIVE | complex sleep depth -/
  depth : BitVec 2 := 0
  /-- 17 | R540, R551 19_power_start.md | 0 | wz_clkreq -/
  clkreq : BitVec 17 := 0
  /-- 17 | R540 19_power_start.md | 0 | wz_clkack, synchronised -/
  clkack : BitVec 17 := 0
  /-- 1 | R552 19_power_start.md | 1 | wz_por_n is low -/
  por : Bool := true
  /-- 1 | R552 19_power_start.md | 0 | wz_sysrst_n is low -/
  sysrst : Bool := false
  /-- step | R553 19_power_start.md | in reset | where the start-up sequence stands -/
  start : StartStep := .inReset
  /-- 53 | R555, R568 19_power_start.md, 20_integration.md | none | wz_boot_addr as sampled -/
  boot : Option (BitVec 53) := none
  deriving DecidableEq, Repr

/-- A request held on wz_ss_* (R560, R563, R564). -/
structure SsReq where
  /-- 10 | R560 20_integration.md | none | ID -/
  id : BitVec 10
  /-- 1 | R560 20_integration.md | none | write -/
  write : Bool
  /-- 2 | R560, R563 20_integration.md | none | req_op -/
  op : BitVec 2
  /-- 53 | R560 20_integration.md | none | address -/
  addr : Nat
  /-- 2 | R560 20_integration.md | none | beats minus 1 -/
  len : Nat
  /-- 16 | R560 20_integration.md | none | strobes of each beat -/
  strb : List (BitVec 16)
  /-- 128 | R560 20_integration.md | none | data of each beat -/
  data : List (BitVec 128)
  deriving DecidableEq, Repr

/-- A response on wz_ss_* (R560). -/
structure SsRsp where
  /-- 10 | R560 20_integration.md | none | ID -/
  id : BitVec 10
  /-- 2 | R560 20_integration.md | none | 0 OKAY, 1 BUSERR, 2 DATAERR -/
  status : BitVec 2
  /-- 128 | R560 20_integration.md | none | data of each beat -/
  data : List (BitVec 128)
  deriving DecidableEq, Repr

/-- The TAP and the debug port (R575, R576). -/
structure Tap where
  /-- 5 | R575 20_integration.md | 0b00001 IDCODE (PRESUMED, IEEE 1149.1; log entry 25) | instruction register -/
  ir : BitVec 5 := 1
  /-- 32 | R557, R575 20_integration.md | DESIGN CHOICE 0 (log entry 25) | wz_jtag_idcode -/
  idcode : W32 := 0
  /-- 1 | R575 20_integration.md | DESIGN CHOICE 0 (log entry 25) | the BYPASS register -/
  bypass : BitVec 1 := 0
  /-- 32 | R576 20_integration.md | DESIGN CHOICE 0 (log entry 25) | DBGACC data -/
  data : W32 := 0
  /-- 53 | R576 20_integration.md | DESIGN CHOICE 0 (log entry 25) | DBGACC address -/
  addr : BitVec 53 := 0
  /-- 1 | R576 20_integration.md | DESIGN CHOICE 0 (log entry 25) | DBGACC write -/
  write : Bool := false
  /-- 2 | R576 20_integration.md | 0b00 | DBGACC status -/
  status : BitVec 2 := 0
  /-- 1 | R576 20_integration.md | 0 | an access is in progress -/
  busy : Bool := false
  /-- 1 | R549, R576 19_power_start.md, 20_integration.md | 0 | the access waits for the complex to be ACTIVE or for an answer from outside -/
  parked : Bool := false
  /-- 1 | R576 20_integration.md | 0 | the outcome of the access in progress: a bus error -/
  bad : Bool := false
  deriving DecidableEq, Repr

end Sys2Proof.Machine
end

