-- ==== Sys2Proof/Machine/State.lean ====
section
/-!
DEFINITION. Machine/State.lean: the whole state of the complex and the queue of its commands, Fault, Refusal and State.reset.
Every field's comment gives: width | rule and file | reset value | what it holds.
-/
namespace Sys2Proof.Machine

/-- The state of the complex. -/
structure State where
  /-- parameters | R6 00_scope.md | reference build (DESIGN CHOICE, log entry 26) | the build parameters -/
  build : Build := referenceBuild
  /-- 64 cores | R15 01_hierarchy.md | as R57 | the cores -/
  cores : Vector Core 64 := Vector.replicate 64 {}
  /-- 16 lists of at most 16,384 lines | R338 11_memory.md | empty | each cluster's L2, most recently used first -/
  l2 : Vector (List L2Line) 16 := Vector.replicate 16 []
  /-- 16 stores | R256 09_microcode.md | base image | each cluster's control store and dispatch tables -/
  ctl : Vector CtlStore 16 := Vector.replicate 16 {}
  /-- bytes by physical address | R23, R358 01_hierarchy.md, 12_scratchpad.md | scratchpad 0 (R378); DRAM DESIGN CHOICE 0 (log entry 1) | coherent contents of local DRAM and the scratchpad -/
  mem : List Host.Cell := []
  /-- list of lines | R529 18_dram.md | empty | DRAM lines that hold an uncorrectable error -/
  dramUe : List Nat := []
  /-- list of lines | R343 11_memory.md | empty | DRAM lines that hold the poison pattern -/
  pattern : List Nat := []
  /-- list of lines | R356 11_memory.md | empty | lines lost with a node -/
  lostLines : List Nat := []
  /-- list of word addresses | R361 12_scratchpad.md | empty | scratchpad words with a single-bit error -/
  spmCe : List Nat := []
  /-- list of word addresses | R362 12_scratchpad.md | empty | scratchpad words with an uncorrectable error -/
  spmUe : List Nat := []
  /-- list | R341 11_memory.md | empty | lines modified in a cache, with what DRAM holds -/
  dirty : List DirtyLine := []
  /-- list | R339 11_memory.md | empty | poisoned lines by the cache that holds them -/
  poisoned : List (CacheName × Nat) := []
  /-- list | R344, R353 11_memory.md | empty | cached copies of other complexes' lines -/
  remote : List RemLine := []
  /-- 256 banks | R363 12_scratchpad.md | as R388 | scratchpad banks -/
  banks : Vector Bank 256 := Vector.replicate 256 {}
  /-- 24 sets | R369 12_scratchpad.md | 0 | region register sets, master × 8 + set -/
  rgn : Vector RgnSet 24 := Vector.replicate 24 {}
  /-- 16 channels | R381 12_scratchpad.md | as R388 | mover channels, region × 4 + channel -/
  movers : Vector Mover 16 := Vector.replicate 16 {}
  /-- weeder | R372 12_scratchpad.md | as R388 | the weeder -/
  weeder : Weeder := {}
  /-- 64 descriptors | R444 15_slices.md | slice 0 ACTIVE with every present unit (R437), the others 0 | slice descriptors -/
  slices : Vector Slice 64 := Vector.replicate 64 {}
  /-- registers | R444 15_slices.md | 0 | global registers of the slice manager -/
  smgr : SliceMgr := {}
  /-- list of at most 128 | R562 20_integration.md | empty | requests outstanding on wz_sm_* -/
  smOut : List SmReq := []
  /-- list | R504 17_coupling.md | empty | requests outstanding on the coupling ports -/
  cplWait : List Pending := []
  /-- list | R344 11_memory.md | empty | the home directory's entries for lines that other complexes hold -/
  dir : List DirLine := []
  /-- 12 | R19 01_hierarchy.md | wz_node_strap at the release of wz_por_n; before it DESIGN CHOICE 0 (log entry 27) | CORE_ID.NODE -/
  node : BitVec 12 := 0
  /-- registers | R412 13_interrupts.md | as R412 | the interrupt controller -/
  intc : Intc := {}
  /-- 64 channels | R413 14_timers.md | as R436 | timer channels -/
  chans : Vector Chan 64 := Vector.replicate 64 {}
  /-- 4 blocks | R431 14_timers.md | 0 | timer blocks apart from their channels -/
  tmr : Vector TmrBlock 4 := Vector.replicate 4 {}
  /-- counter | R430 14_timers.md | as R436 | the system counter -/
  sys : SysTmr := {}
  /-- Gardener | R460 16_gardener.md | as R494 | the Gardener -/
  gdn : Gardener := {}
  /-- 6 ports | R495 17_coupling.md | as R523 | coupling ports -/
  ports : Vector Port 6 := Vector.replicate 6 {}
  /-- 16 entries | R509 17_coupling.md | entry 0: the complex itself; others 0 | CPL_MEMBER -/
  members : Vector Member 16 := (Vector.replicate 16 {}).set 0 { valid := true, port := 7 }
  /-- 8 | R508, R523 17_coupling.md | 0 | CPL_DOM_STAT.EPOCH -/
  epoch : Byte := 0
  /-- engine | R513 17_coupling.md | as R523 | the train message engine -/
  tme : Tme := {}
  /-- 4 channels | R524 18_dram.md | as R537 | DRAM channels -/
  mc : Vector McChan 4 := Vector.replicate 4 {}
  /-- 1 | R526, R537 18_dram.md | 0 | MC_MAP.ILV -/
  ilv : Bool := false
  /-- 16 | R530, R537 18_dram.md | 0x0018 | MC_SCRUB.HOURS -/
  scrub : BitVec 16 := 0x18
  /-- power | R538 19_power_start.md | in reset (R551) | clocks, power, reset and start-up -/
  pwr : Power := {}
  /-- list of at most 64 | R549, R563, R564 19_power_start.md, 20_integration.md | empty | wz_ss_* requests held, oldest first -/
  ssHeld : List SsReq := []
  /-- list | R560 20_integration.md | empty | wz_ss_* responses that the last wz_ss_* command or release of held requests presented -/
  ssRsp : List SsRsp := []
  /-- TAP | R575 20_integration.md | as R575 | the TAP and the debug port -/
  tap : Tap := {}
  /-- natural | none: the model's own field | 0 DESIGN CHOICE (log entry 2) | how many free values have been taken -/
  free : Nat := 0
  /-- list | none: the model's own field | empty DESIGN CHOICE (log entry 35) | the commands that wait, first in first out -/
  pending : List Instr := []
  deriving DecidableEq, Repr

/-- Why the machine stops with a fault. -/
inductive Fault
  /-- A command names a unit that the build does not have (R6). Raised by the commands that name a core, cluster, region, bank, timer
  channel, DRAM channel or coupling port. Safe: the hardware has no such unit to act. -/
  | absentUnit
  deriving DecidableEq, Repr

/-- Why the model refuses a command. -/
inductive Refusal
  /-- The command of this mnemonic has no meaning yet. Safe. -/
  | notModelled (mnemonic : String)
  deriving DecidableEq, Repr

/-- A bit vector with its `n` lowest bits set. -/
def onesTo (w n : Nat) : BitVec w := BitVec.ofNat w (2 ^ n - 1)

/-- The present banks of a build as a bank set (R6, R17). -/
def presentBanks (b : Build) : BitVec 256 :=
  (List.range b.regions).foldl (fun v r => v ||| (onesTo 256 b.banksPerRegion <<< (64 * r))) 0

/-- Slice 0 at reset: every present unit (R437, R444). -/
def hostSlice (b : Build) : Slice :=
  { state := 1, cores := onesTo 64 (16 * b.regions), groups := onesTo 40 40, tmrch := onesTo 64 (16 * b.regions),
    banks := presentBanks b }

/-- The slice descriptors at reset (R437). -/
def resetSlices (b : Build) : Vector Slice 64 := (Vector.replicate 64 {}).set 0 (hostSlice b)

/-- The complex with wz_por_n low (R551, R552), in the reference build. -/
def State.reset : State := { slices := resetSlices referenceBuild }

end Sys2Proof.Machine
end

