-- ==== Sys2Proof/Machine/Ops.lean ====
section
/-!
DEFINITION. Machine/Ops.lean: the named operations over bytes, bit fields, memory cells, and the vectors of State.
-/
namespace Sys2Proof.Machine

/-! ### Bits and bytes -/

/-- Bit `i` of a word of any width. -/
def bitOf {w : Nat} (x : BitVec w) (i : Nat) : Bool := x.getLsbD i

/-- Bits [lo + n − 1 : lo] of `x`. -/
def fieldOf {w : Nat} (x : BitVec w) (lo n : Nat) : BitVec n := BitVec.extractLsb' lo n x

/-- `x` with bits [lo + n − 1 : lo] replaced by `v`. -/
def setField {w : Nat} (x : BitVec w) (lo n : Nat) (v : Nat) : BitVec w :=
  let m := BitVec.ofNat w ((2 ^ n - 1) * 2 ^ lo)
  (x &&& ~~~m) ||| (BitVec.ofNat w (v % 2 ^ n * 2 ^ lo))

/-- A Bool as a word. -/
def ofB (b : Bool) : Word := if b then 1 else 0

/-- The `n` low bytes of `v`, lowest first (R33). -/
def leBytes : Nat → Nat → List Byte
  | 0, _ => []
  | n + 1, v => BitVec.ofNat 8 v :: leBytes n (v / 256)

/-- The number that little-endian bytes hold (R33). -/
def ofLe : List Byte → Nat
  | [] => 0
  | b :: t => b.toNat + 256 * ofLe t

/-- The word that up to eight little-endian bytes hold, zero-extended. -/
def wordOfLe (l : List Byte) : Word := BitVec.ofNat 64 (ofLe l)

/-- Sign extension to 64 bits from `n` bits (R68). -/
def sx {w : Nat} (x : BitVec w) : Word := x.signExtend 64

/-- `x` as a 64-bit word, zero-extended. -/
def zx {w : Nat} (x : BitVec w) : Word := x.setWidth 64

/-- The address rounded down to a multiple of `k`. -/
def alignDown (a k : Nat) : Nat := a / k * k

/-- The first element of a list that meets a test, with the list without it. -/
def pluck {α : Type} (p : α → Bool) : List α → Option (α × List α)
  | [] => none
  | x :: t => if p x then some (x, t) else
      match pluck p t with
      | some (y, r) => some (y, x :: r)
      | none => none

/-- The list with the first element that meets a test replaced. -/
def updFirst {α : Type} (p : α → Bool) (f : α → α) : List α → List α
  | [] => []
  | x :: t => if p x then f x :: t else x :: updFirst p f t

/-- A list without repeats of `x`, with `x` added. -/
def insertNew {α : Type} [DecidableEq α] (x : α) (l : List α) : List α := if x ∈ l then l else x :: l

/-! ### Memory: a sorted list of cells, no cell holding what an unlisted address reads as -/

/-- What an unlisted address reads as: 0. R378 gives it for the scratchpad; for DRAM it is a DESIGN CHOICE (log entry 1). -/
def unlisted : Byte := 0

/-- One byte of memory. -/
def memGet : List Host.Cell → Nat → Byte
  | [], _ => unlisted
  | (b, v) :: t, a => if a = b then v else if a < b then unlisted else memGet t a

/-- Memory with one byte written, in canonical form. -/
def memSet : List Host.Cell → Nat → Byte → List Host.Cell
  | [], a, v => if v = unlisted then [] else [(a, v)]
  | (b, w) :: t, a, v =>
    if a < b then (if v = unlisted then (b, w) :: t else (a, v) :: (b, w) :: t)
    else if a = b then (if v = unlisted then t else (a, v) :: t)
    else (b, w) :: memSet t a v

/-- `n` bytes from address `a` upwards. -/
def memRead (m : List Host.Cell) (a : Nat) : Nat → List Byte
  | 0 => []
  | n + 1 => memGet m a :: memRead m (a + 1) n

/-- Memory with bytes written from address `a` upwards. -/
def memWrite (m : List Host.Cell) (a : Nat) : List Byte → List Host.Cell
  | [] => m
  | v :: t => memWrite (memSet m a v) (a + 1) t

/-- Memory with the bytes that a mask names written from address `a` upwards. -/
def memWriteMask (m : List Host.Cell) (a : Nat) : List (Option Byte) → List Host.Cell
  | [] => m
  | none :: t => memWriteMask m (a + 1) t
  | some v :: t => memWriteMask (memSet m a v) (a + 1) t

/-- Memory without the cells of [lo, hi): a zero fill. -/
def memZero (m : List Host.Cell) (lo hi : Nat) : List Host.Cell := m.filter (fun c => c.1 < lo || hi ≤ c.1)

/-- The canonical form: addresses strictly rising above `lo`, and no cell that holds what an unlisted address reads as. -/
def memWfFrom (lo : Nat) : List Host.Cell → Bool
  | [] => true
  | (b, v) :: t => decide (lo ≤ b) && decide (v ≠ unlisted) && memWfFrom (b + 1) t

/-- The canonical form of memory. -/
def Memory.wf (m : List Host.Cell) : Bool := memWfFrom 0 m

/-! ### Access to the numbered units of State -/

/-- Core `c`. -/
def State.core (s : State) (c : CoreId) : Core := s.cores[c.val]
/-- State with core `c` replaced. -/
def State.setCore (s : State) (c : CoreId) (k : Core) : State := { s with cores := s.cores.set c.val k }
/-- State with core `c` changed. -/
def State.modCore (s : State) (c : CoreId) (f : Core → Core) : State := s.setCore c (f (s.core c))
/-- State with bank `b` changed. -/
def State.modBank (s : State) (b : BankId) (f : Bank → Bank) : State :=
  { s with banks := s.banks.set b.val (f s.banks[b.val]) }
/-- State with slice `n` changed. -/
def State.modSlice (s : State) (n : SliceId) (f : Slice → Slice) : State :=
  { s with slices := s.slices.set n.val (f s.slices[n.val]) }
/-- The descriptor of the slice with number `n`. -/
def State.slice (s : State) (n : BitVec 6) : Slice := s.slices[n.toNat]'(n.isLt)

/-- Every core number. -/
def allCores : List CoreId := List.finRange 64
/-- Every cluster number. -/
def allClusters : List ClusterId := List.finRange 16
/-- Every region number. -/
def allRegions : List RegionId := List.finRange 4
/-- Every bank number. -/
def allBanks : List BankId := List.finRange 256

/-- State with every core changed by a function of its number. -/
def State.mapCores (s : State) (f : CoreId → Core → Core) : State :=
  allCores.foldl (fun s c => s.modCore c (f c)) s

/-- Whether region `r` exists in the build (R6). -/
def State.hasRegion (s : State) (r : RegionId) : Bool := decide (r.val < s.build.regions)
/-- Whether core `c` exists in the build (R6, R15). -/
def State.hasCore (s : State) (c : CoreId) : Bool := s.hasRegion (regionOf c)
/-- Whether cluster `k` exists in the build (R6). -/
def State.hasCluster (s : State) (k : ClusterId) : Bool := s.hasRegion (clusterRegion k)
/-- Whether bank `b` exists in the build (R6). -/
def State.hasBank (s : State) (b : BankId) : Bool :=
  s.hasRegion (bankRegion b) && decide (b.val % 64 < s.build.banksPerRegion)
/-- Whether DRAM channel `m` exists in the build (R6). -/
def State.hasMc (s : State) (m : McId) : Bool := decide (m.val < s.build.mcChannels)
/-- Whether coupling port `p` exists in the build (R6). -/
def State.hasPort (s : State) (p : PortId) : Bool := decide (p.val < s.build.cpPorts)

/-- A fresh free value of width `w`, and the state with the counter advanced. -/
def State.takeFree (s : State) (w : Nat) : BitVec w × State :=
  ((Config.freeValue s.free).setWidth w, { s with free := s.free + 1 })

end Sys2Proof.Machine
end

