-- ==== Sys2Proof/Machine/Flags.lean ====
section
/-!
DEFINITION. Machine/Flags.lean: the pure results of integer instructions (R98 to R105, R115, R121, R132). No integer instruction
sets a flag (R102); the sticky flags of FXCTL, FPCTL and VCTL are computed in Machine/Frac.lean and Machine/Float.lean.
-/
namespace Sys2Proof.Machine

/-- The word's bytes in reverse order: BSWAP (R104). -/
def bswap (a : Word) : Word := wordOfLe (leBytes 8 a.toNat).reverse

/-- Leading zeros, 0 to 64 (R104). -/
def clz (a : Word) : Nat := if a = 0 then 64 else 63 - a.toNat.log2
/-- Trailing zeros, 0 to 64 (R104). -/
def ctz (a : Word) : Nat := (List.range 64).findIdx (fun i => a.getLsbD i)
/-- Ones, 0 to 64 (R104). -/
def popc (a : Word) : Nat := ((List.range 64).filter (fun i => a.getLsbD i)).length
/-- Bit i moved to bit 63 − i (R104). -/
def bitrev (a : Word) : Word := BitVec.ofNat 64 ((List.range 64).foldl (fun n i => 2 * n + (a.getLsbD i).toNat) 0)

/-- High 64 bits of the signed product (R101). -/
def mulhs (a b : Word) : Word := BitVec.ofInt 64 (a.toInt * b.toInt / 2 ^ 64)
/-- High 64 bits of the unsigned product (R101). -/
def mulhu (a b : Word) : Word := BitVec.ofNat 64 (a.toNat * b.toNat / 2 ^ 64)

/-- The field mask of R105. -/
def fieldMask (l : Nat) : Word := if l = 64 then BitVec.allOnes 64 else ((1#64) <<< l) - 1
/-- EXTU (R105). -/
def extu (a : Word) (p l : Nat) : Word := (a >>> p) &&& fieldMask l
/-- EXTS (R105): sign-extended from bit l − 1 of the field. -/
def exts (a : Word) (p l : Nat) : Word :=
  let f := extu a p l
  if f.getLsbD (l - 1) then f ||| ~~~fieldMask l else f
/-- INS (R105). -/
def insField (a b : Word) (p l : Nat) : Word := (a &&& ~~~(fieldMask l <<< p)) ||| ((b &&& fieldMask l) <<< p)

/-- Results of one-operand operations (R101, R104). -/
def unary (o : AluOp) (a : Word) : Word := match o with
  | .neg => -a | .inc => a + 1 | .dec => a - 1 | .abs => if a.slt 0 then -a else a | .not => ~~~a
  | .clz => BitVec.ofNat 64 (clz a) | .popc => BitVec.ofNat 64 (popc a) | .ctz => BitVec.ofNat 64 (ctz a)
  | .sx8 => sx (fieldOf a 0 8) | .sx16 => sx (fieldOf a 0 16) | .sx32 => sx (fieldOf a 0 32)
  | .zx8 => zx (fieldOf a 0 8) | .zx16 => zx (fieldOf a 0 16) | .zx32 => zx (fieldOf a 0 32)
  | .bswap => bswap a | .bitrev => bitrev a
  | _ => a

/-- Results of two-operand operations ( a b -- ) (R101 to R105); a shift count is b[5:0]. -/
def binary (o : AluOp) (a b : Word) : Word :=
  let n := b.toNat % 64
  match o with
  | .add => a + b | .sub => a - b | .mul => a * b | .mulhs => mulhs a b | .mulhu => mulhu a b
  | .divs => a.sdiv b | .divu => a / b | .rems => a.srem b | .remu => a % b
  | .min => if a.slt b then a else b | .max => if a.slt b then b else a
  | .and => a &&& b | .or => a ||| b | .xor => a ^^^ b
  | .shl => a <<< n | .shr => a >>> n | .sar => a.sshiftRight n | .rol => a.rotateLeft n | .ror => a.rotateRight n
  | _ => a

/-- How many operands an operation pops (R101, R104). -/
def aluArity : AluOp → Nat
  | .neg | .inc | .dec | .abs | .not | .clz | .popc | .ctz | .sx8 | .sx16 | .sx32 | .zx8 | .zx16 | .zx32 | .bswap | .bitrev => 1
  | .sel => 3
  | _ => 2

/-- The divide instructions (R103). -/
def isDivide : AluOp → Bool
  | .divs | .divu | .rems | .remu => true
  | _ => false

/-- Results of operations with an operand byte (R101, R104). -/
def withByte (o : AluBOp) (a : Word) (i : Byte) : Word :=
  let n := i.toNat % 64
  match o with
  | .addi8 => a + sx i
  | .shli => a <<< n | .shri => a >>> n | .sari => a.sshiftRight n
  | .bset => a ||| ((1#64) <<< n) | .bclr => a &&& ~~~((1#64) <<< n) | .btst => ofB (a.getLsbD n) | .rori => a.rotateRight n

/-- Whether a branch is taken (R115); one-operand conditions ignore `b`. -/
def taken (k : Cond) (a b : Word) : Bool := match k with
  | .eq => a == b | .ne => a != b | .lt => a.slt b | .ge => !a.slt b | .ltu => a.ult b | .geu => !a.ult b
  | .z => a == 0 | .nz => a != 0 | .ltz => a.slt 0 | .gez => !a.slt 0 | .gtz => (0#64).slt a | .lez => !(0#64).slt a
  | .always => true

/-- How many operands a branch pops (R115). -/
def condArity : Cond → Nat
  | .always => 0
  | .eq | .ne | .lt | .ge | .ltu | .geu => 2
  | _ => 1

/-- One byte of the reflected CRC-32 (R132). -/
def crcByte (crc : W32) (b : Byte) : W32 :=
  (List.range 8).foldl (fun r _ => if r.getLsbD 0 then (r >>> 1) ^^^ 0xEDB88320 else r >>> 1) (crc ^^^ b.setWidth 32)

/-- The CRC over bytes (R132). -/
def crcBytes (crc : W32) (l : List Byte) : W32 := l.foldl crcByte crc

/-- The memory value after an atomic and whether it writes (R121, R123), at the width of its form. -/
def atomResult (o : AtomOp) (wide : Bool) (old a b : Word) : Option Word :=
  let m (x : Word) : Word := if wide then x else zx (fieldOf x 0 32)
  match o with
  | .cas => if old == m a then some (m b) else none
  | .xchg => some (m a)
  | .xadd => some (m (old + a))

end Sys2Proof.Machine
end

