-- ==== Sys2Proof/Machine/Attention.lean ====
section
/-!
DEFINITION. Machine/Attention.lean: which clocks run (R540 to R548), raising interrupt sources (R350, R393), the attention tree
(R484), committed records (R485 to R488), the tallies (R476 to R478) and the retirement of units (R481, R482).
-/
namespace Sys2Proof.Machine

/-! ### Clocks -/

/-- Whether the complex is held in reset (R551). -/
def inReset (s : State) : Bool := s.pwr.por || s.pwr.sysrst || s.pwr.start == .inReset
/-- Whether clock `i` is requested and acknowledged (R540). -/
def clkOn (s : State) (i : Nat) : Bool := bitOf s.pwr.clkreq i && bitOf s.pwr.clkack i
/-- Whether the complex is ACTIVE and out of reset (R548). -/
def isActive (s : State) : Bool := !inReset s && s.pwr.complex == 0
/-- Whether the logic on wz_fabclk runs (R538, R542). -/
def fabRuns (s : State) : Bool := isActive s && clkOn s 4
/-- Whether the Gardener runs (R542, R548). -/
def gdnRuns (s : State) : Bool := !inReset s && s.pwr.complex != 2 && clkOn s 5
/-- A region's record. -/
def State.region (s : State) (r : RegionId) : RegionPwr := s.pwr.rgn[r.val]
/-- State with a region's record changed. -/
def State.modRegion (s : State) (r : RegionId) (f : RegionPwr → RegionPwr) : State :=
  { s with pwr := { s.pwr with rgn := s.pwr.rgn.set r.val (f s.pwr.rgn[r.val]) } }
/-- Whether a region is in RUN with its core clock running (R540, R544). -/
def regionRuns (s : State) (r : RegionId) : Bool := isActive s && s.hasRegion r && (s.region r).state == 0 && clkOn s r.val
/-- Whether a core's clock runs. -/
def coreClocked (s : State) (c : CoreId) : Bool := regionRuns s (regionOf c)

/-! ### Sources and leaves -/

/-- One 32-bit register of an array of 40 changed. -/
def modWord (v : Vector W32 40) (g : Nat) (f : W32 → W32) : Vector W32 40 :=
  if h : g < 40 then v.set g (f v[g]) else v

/-- One bit of an array of 40 32-bit registers. -/
def bitAt (v : Vector W32 40) (n : Nat) : Bool := match v[n / 32]? with
  | some w => bitOf w (n % 32)
  | none => false

/-- That bit written. -/
def setBitAt (v : Vector W32 40) (n : Nat) (b : Bool) : Vector W32 40 :=
  modWord v (n / 32) (fun w => if b then w ||| ((1 : W32) <<< (n % 32)) else w &&& ~~~((1 : W32) <<< (n % 32)))

/-- The sources that the build has, by group (R6, R390, R411). -/
def sourcePresent (s : State) (n : Nat) : Bool :=
  if n < 1024 then decide (n < s.build.irqIn)
  else if n < 1152 then decide ((n - 1024) / 2 < 16 * s.build.regions)
  else if n < 1184 then decide ((if n < 1168 then (n - 1152) / 4 else n % 4) < s.build.regions)
  else if n < 1196 then decide ((n - 1184) % 6 < s.build.cpPorts)
  else if n < 1216 then true
  else decide (n < 1280) && decide (n - 1216 < 16 * s.build.regions)

/-- A 32-bit word built from a test of its bits. -/
def wordBits (p : Nat → Bool) : W32 := (List.range 32).foldl (fun w i => if p i then w ||| ((1 : W32) <<< i) else w) 0

/-- The present sources of group `g` as a word. -/
def presentWord (s : State) (g : Nat) : W32 := wordBits (fun i => sourcePresent s (32 * g + i))

/-- Which sources of a group are pending: edge sources by their pending bit, level sources while not active with the input high or
the latch set (R393, R394). -/
def pendingWord (s : State) (g : Nat) : W32 :=
  match s.intc.sense[g]?, s.intc.active[g]?, s.intc.input[g]?, s.intc.latch[g]?, s.intc.pend[g]? with
  | some se, some ac, some inp, some la, some pe => ((se &&& ~~~ac &&& (inp ||| la)) ||| (~~~se &&& pe)) &&& presentWord s g
  | _, _, _, _, _ => 0

/-- The mask that the views of a group see: INTC_MASK without the bits whose masking has still to take effect (R401). -/
def viewMask (s : State) (g : Nat) : W32 :=
  s.intc.delays.foldl (fun m d => if d.g.val == g then m &&& ~~~d.bits else m) ((s.intc.mask[g]?).getD 0)

/-- The core to which a source is routed (R391, R402). -/
def routeOf (s : State) (n : Nat) : Nat := if 1216 ≤ n then n - 1216 else ((s.intc.route[n]?).map BitVec.toNat).getD 0

/-- INTC_VIEW[c][g] (R397). -/
def viewWord (s : State) (c : CoreId) (g : Nat) : W32 :=
  let w := pendingWord s g &&& ~~~viewMask s g
  if w == 0 || (s.intc.held[g]?).getD false then 0
  else wordBits (fun i => bitOf w i && routeOf s (32 * g + i) == c.val)

/-- Whether core `c` has any view bit set (R128, R410). -/
def viewAny (s : State) (c : CoreId) : Bool := (List.range 40).any (fun g => viewWord s c g != 0)

/-- A core whose WAIT a wake condition ends (R128). -/
def Core.endWait (k : Core) : Core := if k.run == .wait then { k with run := .run } else k

/-- The waits that a view bit of group `g` ends (R128). -/
def wakeGroup (g : Nat) (s : State) : State :=
  (allCores.filter (fun c => (s.core c).run == .wait && viewWord s c g != 0)).foldl (fun s c => s.modCore c Core.endWait) s

/-- An edge on an internal source: its pending bit is set (R350, R393). -/
def raiseSource (n : Nat) (s : State) : State :=
  wakeGroup (n / 32) { s with intc := { s.intc with pend := setBitAt s.intc.pend n true } }

/-- A leaf set (R484): SET, COUNT and UNIT, and source 1211. -/
def setLeaf (k j unit : Nat) (s : State) : State :=
  let i : Fin 192 := ⟨(k * 16 + j) % 192, Nat.mod_lt _ (by decide)⟩
  let l := s.gdn.leaves[i.val]
  let l : Leaf := { set := true, count := if l.count = 127 then l.count else l.count + 1, unit := BitVec.ofNat 16 unit }
  raiseSource 1211 { s with gdn := { s.gdn with leaves := s.gdn.leaves.set i.val l } }

/-! ### Records in flash -/

/-- Bytes that a record takes in a half (R486). -/
def recordSize (n : Nat) : Nat := (n + 0x15 + 15) / 16 * 16

/-- The record in force of a type and origin (R487): the one with the highest SEQ, which is the last in the list. -/
def Flash.inForce (f : Flash) (typ origin : Nat) : Option Record :=
  f.records.reverse.find? (fun r => r.typ == typ && r.origin == origin)

/-- The graft packages that the inventories in force name (R488). -/
def Flash.named (f : Flash) : List W32 :=
  (f.records.filter (fun r => r.typ == 1 && f.inForce 1 r.origin == some r)).flatMap (fun r =>
    let rec go : Nat → List Byte → List W32
      | 0, _ => []
      | k + 1, d =>
        let n := (d.take 1).foldl (fun _ b => b.toNat) 0
        ((List.range n).map (fun i => BitVec.ofNat 32 (ofLe ((d.drop (4 + 4 * i)).take 4)))) ++ go k (d.drop (4 + 4 * n))
    go 16 r.payload)

/-- PKG of a graft package record (R275). -/
def Record.pkg (r : Record) : W32 := BitVec.ofNat 32 (ofLe ((r.payload.drop 8).take 4))

/-- The other half erased and filled with what counts (R488), and its half header committed. -/
def Flash.compact (f : Flash) : Flash :=
  let names := f.named
  let keep := f.records.filter (fun r => r.typ != 0xFE &&
    (f.inForce r.typ r.origin == some r || (r.typ == 6 && names.contains r.pkg)))
  let gen := f.gen + 1
  let head : Record := { typ := 0xFE, origin := 0, seq := f.seq, payload := leBytes 4 gen.toNat }
  { f with records := keep ++ [head], half := !f.half, gen := gen, seq := f.seq + 1,
           used := (keep ++ [head]).foldl (fun n r => n + recordSize r.payload.length) 0 }

/-- A record appended (R486 to R488). -/
def Flash.append (f : Flash) (typ origin : Nat) (payload : List Byte) : Flash :=
  let f := if f.used + recordSize payload.length > 0x40_0000 then f.compact else f
  { f with records := f.records ++ [{ typ := typ, origin := origin, seq := f.seq, payload := payload }], seq := f.seq + 1,
           used := f.used + recordSize payload.length }

/-- A commit (R487). `ok`: some attempt of the three read back right; otherwise RECORD_FAIL is set and source 1213 raised, and the
three attempts have used their space. -/
def commitRecord (typ origin : Nat) (payload : List Byte) (ok : Bool) (s : State) : State :=
  if ok then { s with gdn := { s.gdn with flash := s.gdn.flash.append typ origin payload } }
  else
    let f := s.gdn.flash
    let f := { f with used := f.used + 3 * recordSize payload.length, seq := f.seq + 3 }
    raiseSource 1213 (setLeaf 11 3 typ { s with gdn := { s.gdn with flash := f } })

/-- The payload of the retired-unit list (R488). -/
def retiredPayload (l : List (Nat × Nat)) : List Byte :=
  leBytes 4 l.length ++ l.flatMap (fun u => leBytes 4 (u.1 + u.2 * 65536))

/-- The retired-unit list committed whole (R482, R487). -/
def commitRetired (ok : Bool) (s : State) : State := commitRecord 2 0 (retiredPayload s.gdn.retired) ok s

/-- A commit that the Gardener makes on its own: whether the flash reads back right is open (a free value). -/
def commitRetiredFree (s : State) : State :=
  commitRetired (Config.freeBool s.free) { s with free := s.free + 1 }

/-! ### Retired units -/

/-- Whether a unit of a kind of R483 is retired. -/
def isRetired (s : State) (kind unit : Nat) : Bool := s.gdn.retired.contains (kind, unit)

/-- Cores of a region that are present and not retired (R480). -/
def coresLeft (s : State) (r : RegionId) : Nat :=
  (allCores.filter (fun c => s.hasCore c && regionOf c == r && !(s.core c).retired)).length

/-- The unit added to the retired-unit list. -/
def listRetired (kind unit : Nat) (s : State) : State :=
  { s with gdn := { s.gdn with retired := s.gdn.retired ++ [(kind, unit)] } }

/-- Every slice without core `c` (R438). -/
def dropCoreFromSlices (c : CoreId) (s : State) : State :=
  { s with slices := s.slices.map (fun d => { d with cores := d.cores &&& ~~~((1 : BitVec 64) <<< c.val) }) }

/-- Every slice without bank `b` (R438). -/
def dropBankFromSlices (b : BankId) (s : State) : State :=
  { s with slices := s.slices.map (fun d => { d with banks := d.banks &&& ~~~((1 : BitVec 256) <<< b.val) }) }

/-- A core is retired (R481): it stops, leaves its slice and keeps its pending interrupts. -/
def retireCoreUnit (c : CoreId) (s : State) : State :=
  listRetired 0 c.val (dropCoreFromSlices c (s.modCore c (fun k => { k with retired := true, quiesced := true })))

/-- A bank is retired (R379, R481): OWNER := 0xFE and REQ := OFF; the accesses in flight of an owner are awaited as in R366. -/
def retireBankUnit (b : BankId) (s : State) : State :=
  listRetired 1 b.val (dropBankFromSlices b (s.modBank b (fun k => { k with
    owner := 0xFE, oldOwner := if k.handoverDone then k.owner else k.oldOwner, handoverDone := k.handoverDone && k.owner == 0xFF,
    req := 2, pstate := if k.pstate == 2 then 2 else 3 })))

/-- A port's state, width or lanes changed, with source 1184 + p raised when STATE or the width changes. -/
def setPort (p : PortId) (f : Port → Port) (s : State) : State :=
  let o := s.ports[p.val]
  let n := f o
  let s := { s with ports := s.ports.set p.val n }
  if n.state != o.state || n.width != o.width then raiseSource (1184 + p.val) s else s

/-- A CPL_ERR bit set, with source 1190 + p (R523). -/
def setPortErr (p : PortId) (bit : Nat) (s : State) : State :=
  raiseSource (1190 + p.val) (setPort p (fun o => { o with err := o.err ||| (1 : BitVec 4) <<< bit }) s)

/-- The start of a retrain (R506): from UP, ADMITTING, COHERENT or DEPARTING. Until the width is agreed again it reads as none. -/
def startRetrain (p : PortId) (s : State) : State :=
  setPort p (fun o => if o.state.toNat ≥ 2 then { o with back := o.state, state := 1, width := 3, active := 0, linkGot := false } else o) s

/-- A lane is retired (R481, R507): it takes effect through a retrain, which the retirement starts. -/
def retireLaneUnit (p : PortId) (lane : Nat) (s : State) : State :=
  listRetired 2 (p.val * 8 + lane)
    (startRetrain p (setPort p (fun o => { o with retired := o.retired ||| (1 : Byte) <<< lane }) s))

/-- A control-store word is retired (R271): its address enters the remap table at a free spare; none left: SPARES_EXHAUSTED. -/
def retireWordUnit (k : ClusterId) (a : Nat) (s : State) : State :=
  let st := s.ctl[k.val]
  if st.remap.any (fun e : Nat × Nat => e.2 == a) then s
  else match (List.range 32).find? (fun i => !st.remap.any (fun e : Nat × Nat => e.1 == i)) with
  | none => setLeaf 1 1 k.val s
  | some i => listRetired 4 (k.val * 4096 + i) { s with ctl := s.ctl.set k.val { st with remap := st.remap ++ [(i, a)] } }

/-! ### Tallies -/

/-- The unit kind of R483 on which a class's RETIRE acts (R476). -/
def classKind (cls : Nat) : Option Nat := match cls with
  | 1 | 2 | 0xA => some 0
  | 3 => some 1
  | 4 => some 3
  | 5 => some 2
  | 6 => some 4
  | _ => none

/-- The lasting leaf of a class (R478, R484). -/
def lastingLeaf (cls : Nat) : Option (Nat × Nat) := match cls with
  | 1 | 2 | 8 | 0xA => some (0, 2)
  | 3 => some (5, 0)
  | 4 => some (6, 0)
  | 5 => some (9, 0)
  | _ => none

/-- A class's configuration. -/
def tallyCfg (s : State) (cls : Nat) : TallyCfg := (s.gdn.cfg[cls - 1]?).getD ⟨false, 8, 1⟩

/-- A unit's entry in a class. -/
def tallyOf (s : State) (cls unit sub : Nat) : Tally :=
  (s.gdn.tallies.find? (fun t => t.cls == cls && t.unit == unit && t.sub == sub)).getD { cls := cls, unit := unit, sub := sub }

/-- A unit's entry in a class replaced. -/
def setTally (t : Tally) (s : State) : State :=
  { s with gdn := { s.gdn with
      tallies := t :: s.gdn.tallies.filter (fun x => !(x.cls == t.cls && x.unit == t.unit && x.sub == t.sub)) } }

/-- Whether core `c` is free for retirement (R478): slice 0 holds it and it is stopped after a triple-fault reset. -/
def coreFree (s : State) (c : CoreId) : Bool := bitOf s.slices[0].cores c.val && (s.core c).run == .tripled
/-- Whether bank `b` is free for retirement (R478). -/
def bankFree (s : State) (b : BankId) : Bool := s.banks[b.val].owner == 0xFF && s.banks[b.val].handoverDone
/-- Whether MIN_CORES allows one core fewer in a region (R478, R480). -/
def minCoresAllow (s : State) (r : RegionId) : Bool := decide (s.gdn.pol.minCores.toNat + 1 ≤ coresLeft s r)

/-- A unit retired by the Gardener on its own (R478, R481, R482): the list is committed before the retired leaf is set. -/
def autoRetire (kind unit sub : Nat) (s : State) : State :=
  match kind with
  | 0 => if h : unit < 64 then
      raiseSource 1212 (setLeaf 0 1 unit (commitRetiredFree (retireCoreUnit ⟨unit, h⟩ s))) else s
  | 1 => if h : unit < 256 then
      raiseSource 1212 (setLeaf 5 3 unit (commitRetiredFree (retireBankUnit ⟨unit, h⟩ s))) else s
  | 2 => if h : unit / 8 < 6 then
      raiseSource 1212 (setLeaf 9 1 unit (commitRetiredFree (retireLaneUnit ⟨unit / 8, h⟩ (unit % 8) s))) else s
  | 4 => if h : unit < 16 then
      if sub == 0 || sub > 16384 || s.ctl[unit].remap.length ≥ 32 then
        (if sub == 0 || sub > 16384 then s else setLeaf 1 1 unit s)
      else raiseSource 1212 (commitRetiredFree (retireWordUnit ⟨unit, h⟩ (sub - 1) s)) else s
  | _ => s

/-- A unit with its retired-pending flag set (R478): RETIRE_PENDING and source 1212. -/
def markPending (t : Tally) (kind : Nat) (s : State) : State :=
  raiseSource 1212 (setLeaf 11 5 (kind * 4096 + t.unit) (setTally { t with pending := true } s))

/-- What a lasting mark does (R478). -/
def onLasting (t : Tally) (s : State) : State :=
  let s := match lastingLeaf t.cls with
    | some (k, j) => setLeaf k j t.unit s
    | none => s
  let s := match s.gdn.marks[t.cls - 1]? with
    | some m => { s with gdn := { s.gdn with marks := s.gdn.marks.set! (t.cls - 1) (m + 1) } }
    | none => s
  if !(tallyCfg s t.cls).retire then s
  else match classKind t.cls with
  | none => s
  | some kind =>
    if kind != 4 && isRetired s kind t.unit then s
    else
      let free : Bool := match kind with
        | 0 => if h : t.unit < 64 then coreFree s ⟨t.unit, h⟩ && minCoresAllow s (regionOf ⟨t.unit, h⟩) else false
        | 1 => if h : t.unit < 256 then bankFree s ⟨t.unit, h⟩ else false
        | 2 | 4 => true
        | _ => false
      if free then autoRetire kind t.unit t.sub s else markPending t kind s

/-- The latest events of a window with one more, newest first. -/
def Tally.withEvent (t : Tally) (now : Word) : Tally :=
  { t with total := if t.total = 0xFFFF_FFFF then t.total else t.total + 1, recent := (now :: t.recent).take 8 }

/-- Whether the latest N events lie within W ms (R477); a TIMEBASE tick is 10 ns. -/
def windowFull (cfg : TallyCfg) (recent : List Word) : Bool := match recent.head?, recent[cfg.n - 1]? with
  | some a, some b => decide (a.toNat - b.toNat ≤ cfg.w.toNat * 100000)
  | _, _ => false

/-- An event of a class (R477). `atOnce`: one of the events that mark a unit lasting whatever the window. For class 0x06 `sub` names
the word or entry, which has its own window. -/
def tallyEvent (cls unit sub : Nat) (atOnce : Bool) (s : State) : State :=
  let now := s.sys.count
  let s : State := match s.gdn.events[cls - 1]? with
    | some e => { s with gdn := { s.gdn with events := s.gdn.events.set! (cls - 1) (e + 1) } }
    | none => s
  let s := if sub == 0 then s else
    let t := tallyOf s cls unit 0
    setTally (t.withEvent now) s
  let t := (tallyOf s cls unit sub).withEvent now
  let hit := !t.lasting && (atOnce || windowFull (tallyCfg s cls) t.recent)
  let t := { t with lasting := t.lasting || hit }
  let s := setTally t s
  if hit then onLasting t s else s

/-- A corrected scratchpad error of bank `b` (R361). -/
def tallyCe (b : Nat) (s : State) : State := tallyEvent 3 b 0 false s

/-- What a machine check of a core brings to the tallies and leaves: a microcode error (R267); WORD_REPAIR counts parity (R270). -/
def tallyMc (c : CoreId) (cause : Word) (s : State) : State :=
  match (fieldOf cause 0 8).toNat with
  | 3 | 4 => setLeaf 1 3 (clusterOf c).val (tallyEvent 9 (clusterOf c).val 0 false s)
  | _ => s

end Sys2Proof.Machine
end

