-- ==== Sys2Proof/Machine/Debug.lean ====
section
/-!
DEFINITION. Machine/Debug.lean: the debug registers of a core and debug halt (R312 to R317).
-/
namespace Sys2Proof.Machine

/-- DBGCTL as read (R312). -/
def dbgctlRead (k : Core) : Word := zx k.dbgctl ||| (ofB k.haltReq <<< 8) ||| (ofB k.halted <<< 11)

/-- A debug register as read (R312). -/
def dbgRead (k : Core) (n : Nat) : Word :=
  match n with
  | 0x070 => dbgctlRead k
  | 0x071 => k.ibp[0] | 0x072 => k.ibp[1] | 0x073 => k.ibp[2] | 0x074 => k.ibp[3]
  | 0x075 => k.dbp[0] | 0x076 => k.dbp[1]
  | 0x077 => k.dbpcfg | 0x078 => k.dbgstat
  | _ => 0

/-- DBPCFG as written: a kind of 0b11 is ignored (R312). -/
def dbpcfgWritten (old v : Word) : Word :=
  let k0 := if fieldOf v 0 2 == 0b11 then fieldOf old 0 2 else fieldOf v 0 2
  let k1 := if fieldOf v 8 2 == 0b11 then fieldOf old 8 2 else fieldOf v 8 2
  (v &&& 0x3C3C) ||| zx k0 ||| (zx k1 <<< 8)

/-- A debug register write (R312, R317): HALTREQ sets, RESUME and STEP act on a halted core. -/
def dbgWrite (k : Core) (n : Nat) (v : Word) : Core :=
  match n with
  | 0x070 =>
    let k := { k with dbgctl := (fieldOf v 0 7), haltReq := k.haltReq || (bitOf v 8 && !k.halted) }
    let k := if k.haltReq then k.endWait else k
    if k.halted && (bitOf v 9 || bitOf v 10) then
      { k with halted := false, stepOne := bitOf v 10, bpSkip := k.bpSkip || fieldOf k.dbgstat 8 2 == 0b10 }
    else k
  | 0x071 => { k with ibp := k.ibp.set 0 v } | 0x072 => { k with ibp := k.ibp.set 1 v }
  | 0x073 => { k with ibp := k.ibp.set 2 v } | 0x074 => { k with ibp := k.ibp.set 3 v }
  | 0x075 => { k with dbp := k.dbp.set 0 v } | 0x076 => { k with dbp := k.dbp.set 1 v }
  | 0x077 => { k with dbpcfg := dbpcfgWritten k.dbpcfg v }
  | 0x078 => { k with dbgstat := k.dbgstat &&& ~~~(v &&& 0x3F) }
  | _ => k

/-- The core stops in debug halt (R317) with HALTWHY. -/
def haltCore (k : Core) (why : Word) : Core :=
  { k with halted := true, micro := none, lastIssue := none, haltReq := false, stepOne := false, dbgstat := (k.dbgstat &&& 0x3F) ||| (why <<< 8) }

/-- The DBG window (R313): the core and the control register whose half an offset names. -/
def dbgAt (o : Nat) : Option (CoreId × Nat × Bool) :=
  if h : o < 0x4000 then
    if o % 0x10 < 8 then some (⟨o / 0x100, by omega⟩, 0x070 + o % 0x100 / 0x10, decide (o % 0x10 = 4)) else none
  else none

/-- One half of a 64-bit register replaced (R9). -/
def setHalf (w : Word) (hi : Bool) (v : W32) : Word :=
  if hi then (w &&& 0xFFFF_FFFF) ||| (v.setWidth 64 <<< 32) else (w &&& 0xFFFF_FFFF_0000_0000) ||| v.setWidth 64

/-- One half of a 64-bit register (R9). -/
def getHalf (w : Word) (hi : Bool) : W32 := if hi then BitVec.ofNat 32 (w.toNat / 2 ^ 32) else BitVec.ofNat 32 w.toNat

/-- A write of one half of a debug register through the DBG window (R10, R313). The half not written keeps an RW field and gives a
W1S, W1C or WO field no 1. -/
def dbgWriteHalf (k : Core) (n : Nat) (hi : Bool) (v : W32) : Core :=
  if n == 0x070 || n == 0x078 then (if hi then k else dbgWrite k n (v.setWidth 64))
  else dbgWrite k n (setHalf (dbgRead k n) hi v)

end Sys2Proof.Machine
end

