-- ==== Sys2Proof/Machine/Intc.lean ====
section
/-!
DEFINITION. Machine/Intc.lean: the interrupt controller (13_interrupts.md). The registers lie at WZ_REG_BASE + 0x010_0000 (R412).
-/
namespace Sys2Proof.Machine

/-- The privilege level of an access to the block registers (R399). An access from another complex carries none (log entry 28). -/
def plOf : Master → Nat
  | .core _ pl => pl.toNat
  | _ => 0

/-- The current slice of the core that makes an access. -/
def masterSlice (s : State) : Master → Slice
  | .core c _ => s.slice (s.core c).slice
  | _ => s.slices[0]

/-- The interrupt that core `c` takes at level `ml` (R294): its level, and whether every group of that level with a view bit belongs
to the core's current slice. -/
def intrDue (s : State) (c : CoreId) (ml : Nat) : Option (Nat × Bool) :=
  let up := ((List.finRange 40).filter (fun g => viewWord s c g.val != 0 && decide (ml < s.intc.level[g.val].toNat)))
  let l := up.foldl (fun m g => max m s.intc.level[g.val].toNat) 0
  if l == 0 then none
  else some (l, (up.filter (fun g => s.intc.level[g.val].toNat == l)).all
    (fun g => (s.slice (s.core c).slice).groups.getLsbD g.val))

/-- The bits of a group that a master may set, clear, mask and unmask (R399). -/
def intcBits (s : State) (m : Master) (g : Nat) : W32 :=
  if plOf m == 0 then presentWord s g
  else if plOf m == 1 then
    let sl := masterSlice s m
    if sl.groups.getLsbD g then presentWord s g
    else if 38 ≤ g then presentWord s g &&& wordBits (fun i => sl.cores.getLsbD (32 * (g - 38) + i))
    else 0
  else 0

/-- Whether a master may read a group's registers (R399). -/
def intcGroupRead (s : State) (m : Master) (g : Nat) : Bool :=
  plOf m == 0 || (plOf m == 1 && (masterSlice s m).groups.getLsbD g)

/-- One group's word of an array of registers. -/
def wordAt (v : Vector W32 40) (g : Nat) : W32 := (v[g]?).getD 0

/-- INTC_PEND_SET (R395). -/
def pendSet (g : Nat) (b : W32) (s : State) : State :=
  let se := wordAt s.intc.sense g
  wakeGroup g { s with intc := { s.intc with
    pend := modWord s.intc.pend g (· ||| (b &&& ~~~se)), latch := modWord s.intc.latch g (· ||| (b &&& se)) } }

/-- INTC_PEND_CLR (R395). -/
def pendClr (g : Nat) (b : W32) (s : State) : State :=
  let se := wordAt s.intc.sense g
  { s with intc := { s.intc with
    pend := modWord s.intc.pend g (· &&& ~~~(b &&& ~~~se)), latch := modWord s.intc.latch g (· &&& ~~~(b &&& se)) } }

/-- INTC_MASK_SET (R400, R401): the views take the newly masked bits five fc later. -/
def maskSet (g : Nat) (b : W32) (s : State) : State :=
  let new := b &&& ~~~wordAt s.intc.mask g
  if h : g < 40 then
    { s with intc := { s.intc with
      mask := modWord s.intc.mask g (· ||| b),
      delays := if new == 0 then s.intc.delays else s.intc.delays ++ [{ g := ⟨g, h⟩, bits := new, left := 5 }] } }
  else s

/-- INTC_MASK_CLR (R400, R401). -/
def maskClr (g : Nat) (b : W32) (s : State) : State :=
  wakeGroup g { s with intc := { s.intc with
    mask := modWord s.intc.mask g (· &&& ~~~b),
    delays := s.intc.delays.map (fun d => if d.g.val == g then { d with bits := d.bits &&& ~~~b } else d) } }

/-- One fc of the delays of R401. -/
def maskTick (s : State) : State :=
  { s with intc := { s.intc with
    delays := (s.intc.delays.map (fun d => { d with left := d.left - 1 })).filter (fun d => d.left != 0 && d.bits != 0) } }

/-- INTC_SENSE (R396): only external groups; a changed source loses its pending bit and latch. -/
def senseWrite (g : Nat) (v : W32) (s : State) : State :=
  if 32 ≤ g then s
  else
    let new := v &&& presentWord s g
    let ch := new ^^^ wordAt s.intc.sense g
    wakeGroup g { s with intc := { s.intc with
      sense := modWord s.intc.sense g (fun _ => new), pend := modWord s.intc.pend g (· &&& ~~~ch),
      latch := modWord s.intc.latch g (· &&& ~~~ch) } }

/-- INTC_ROUTE (R391, R402). -/
def routeWrite (n : Nat) (v : W32) (s : State) : State :=
  let c := fieldOf v 0 6
  if h : n < 1216 then
    if sourcePresent s n && decide (c.toNat < 16 * s.build.regions) then
      wakeGroup (n / 32) { s with intc := { s.intc with route := s.intc.route.set n c } }
    else s
  else s

/-- INTC_GRP_CFG (R409, R412). -/
def grpCfgWrite (g : Nat) (v : W32) (s : State) : State :=
  let l := fieldOf v 0 3
  if h : g < 40 then
    { s with intc := { s.intc with
      level := if l == 0 || l == 6 || l == 7 then s.intc.level else s.intc.level.set g l,
      holdoff := s.intc.holdoff.set g (fieldOf v 16 16) } }
  else s

/-- INTC_ACTIVE, from the Gardener (R399, R411). -/
def activeWrite (g : Nat) (v : W32) (s : State) : State :=
  wakeGroup g { s with intc := { s.intc with active := modWord s.intc.active g (fun _ => v &&& presentWord s g) } }

/-- The result of a claim (R403). -/
def claimResult (s : State) (c : CoreId) (pl : Nat) (n : Nat) : BitVec 3 :=
  if n ≥ 1280 || !sourcePresent s n then 0b101
  else if pl == 1 && !(s.slice (s.core c).slice).groups.getLsbD (n / 32) then 0b100
  else if bitAt s.intc.active n then 0b011
  else if !bitOf (viewWord s c (n / 32)) (n % 32) then 0b010
  else 0b001

/-- INTC_CLAIM (R403, R404). -/
def claim (c : CoreId) (pl : Nat) (v : W32) (s : State) : State :=
  let n := (fieldOf v 0 11).toNat
  let r := claimResult s c pl n
  let s := { s with intc := { s.intc with
    claimSrc := s.intc.claimSrc.set c.val (fieldOf v 0 11), claimRes := s.intc.claimRes.set c.val r } }
  if r != 1 then s
  else
    let s := { s with intc := { s.intc with active := setBitAt s.intc.active n true } }
    if bitAt s.intc.sense n then { s with intc := { s.intc with latch := setBitAt s.intc.latch n false } }
    else { s with intc := { s.intc with pend := setBitAt s.intc.pend n false } }

/-- A stray completion (R406). -/
def strayComplete (c : CoreId) (n : Nat) (s : State) : State :=
  let s := { s with intc := { s.intc with
    strayCount := if s.intc.strayCount = 0xFFFF then s.intc.strayCount else s.intc.strayCount + 1,
    strayLast := BitVec.ofNat 32 (n + c.val * 65536 + 2147483648) } }
  setLeaf 7 0 c.val (tallyEvent 7 0 0 false s)

/-- INTC_COMPLETE (R405, R406, R408). -/
def complete (c : CoreId) (pl : Nat) (v : W32) (s : State) : State :=
  let n := (fieldOf v 0 11).toNat
  let g := n / 32
  if n < 1280 && pl == 1 && !(s.slice (s.core c).slice).groups.getLsbD g then s
  else if n ≥ 1280 || !bitAt s.intc.active n then strayComplete c n s
  else
    let act := setBitAt s.intc.active n false
    let hold := (s.intc.holdoff[g]?).getD 0 != 0 && wordAt act g == 0
    wakeGroup g { s with intc := { s.intc with
      active := act, held := if h : g < 40 then (if hold then s.intc.held.set g true else s.intc.held) else s.intc.held } }

/-- The end of a hold-off (R408). -/
def holdoffEnd (g : Fin 40) (s : State) : State :=
  wakeGroup g.val { s with intc := { s.intc with held := s.intc.held.set g.val false } }

/-- A rising edge of wz_irq_in (R393, R410): to the pending bit of an edge source while the controller's clocks run, and to the
asynchronous latch while they are stopped. -/
def irqEdge (n : Nat) (s : State) : State :=
  if fabRuns s then
    if bitAt s.intc.sense n then s
    else wakeGroup (n / 32) { s with intc := { s.intc with pend := setBitAt s.intc.pend n true } }
  else if inReset s then s
  else { s with intc := { s.intc with alatch := setBitAt s.intc.alatch n true } }

/-- A change of the level of wz_irq_in (R394). -/
def irqLevel (n : Nat) (high : Bool) (s : State) : State :=
  let rise := high && !bitAt s.intc.pin n
  let s := { s with intc := { s.intc with pin := setBitAt s.intc.pin n high } }
  let s := if fabRuns s then wakeGroup (n / 32) { s with intc := { s.intc with input := setBitAt s.intc.input n high } } else s
  if rise then irqEdge n s else s

/-- The controller's clocks restart (R409, R410): captured edges of edge sources become pending, inputs are followed, and running
hold-offs count as ended. -/
def intcRestart (s : State) : State :=
  let i := s.intc
  let p : Vector W32 40 := Vector.ofFn (fun g : Fin 40 => i.pend[g.val] ||| (i.alatch[g.val] &&& ~~~i.sense[g.val]))
  let s := { s with intc := { i with
    pend := p, alatch := Vector.replicate 40 0, input := i.pin, held := Vector.replicate 40 false } }
  (List.range 40).foldl (fun s g => wakeGroup g s) s

/-- Whether a captured edge requests a wake of the complex (R410): its source is not masked. -/
def intcWakes (s : State) : Bool :=
  (List.finRange 40).any (fun g => (s.intc.alatch[g.val] &&& ~~~s.intc.mask[g.val]) != 0)

/-- A read at an offset of the INTC registers (R399, R412). -/
def intcRead (m : Master) (o : Nat) (s : State) : W32 :=
  let g := o / 4 % 64
  let grp (w : W32) : W32 := if g < 40 && intcGroupRead s m g then w &&& presentWord s g else 0
  if plOf m ≥ 2 || o % 4 != 0 then 0
  else if o < 0x100 then grp (pendingWord s g)
  else if 0x300 ≤ o && o < 0x400 then grp (wordAt s.intc.mask g)
  else if 0x600 ≤ o && o < 0x700 then grp (wordAt s.intc.active g)
  else if 0x700 ≤ o && o < 0x800 then grp (wordAt s.intc.sense g)
  else if 0x800 ≤ o && o < 0x900 then (if g < 32 then grp (wordAt s.intc.input g) else 0)
  else if 0x900 ≤ o && o < 0xA00 then
    match s.intc.level[g]?, s.intc.held[g]?, s.intc.holdoff[g]? with
    | some l, some h, some n =>
      if intcGroupRead s m g && presentWord s g != 0 then BitVec.ofNat 32 (l.toNat + (if h then 2 ^ 15 else 0) + n.toNat * 2 ^ 16)
      else 0
    | _, _, _ => 0
  else if 0xA00 ≤ o && o < 0xB00 then
    match m with
    | .core c _ => if g < 40 then viewWord s c g else 0
    | _ => 0
  else if o == 0xC00 then
    match m with
    | .core c _ => BitVec.ofNat 32 (s.intc.claimSrc[c.val].toNat + s.intc.claimRes[c.val].toNat * 2 ^ 16)
    | _ => 0
  else if o == 0xC08 then s.intc.strayCount.setWidth 32
  else if o == 0xC0C then s.intc.strayLast
  else if 0x1000 ≤ o && o < 0x2400 then
    let n := (o - 0x1000) / 4
    if sourcePresent s n then BitVec.ofNat 32 (routeOf s n) else 0
  else if 0x1_0000 ≤ o && o < 0x1_4000 then
    let c : CoreId := ⟨(o - 0x1_0000) / 0x100 % 64, Nat.mod_lt _ (by decide)⟩
    if g < 40 && s.hasCore c && intcGroupRead s m g then viewWord s c g else 0
  else 0

/-- A write at an offset of the INTC registers (R399, R412). -/
def intcWrite (m : Master) (o : Nat) (v : W32) (s : State) : State :=
  let g := o / 4 % 64
  let b := v &&& intcBits s m g
  if plOf m ≥ 2 || o % 4 != 0 then s
  else if 0x100 ≤ o && o < 0x200 then (if g < 40 then pendSet g b s else s)
  else if 0x200 ≤ o && o < 0x300 then (if g < 40 then pendClr g b s else s)
  else if 0x400 ≤ o && o < 0x500 then maskSet g b s
  else if 0x500 ≤ o && o < 0x600 then (if g < 40 then maskClr g b s else s)
  else if 0x600 ≤ o && o < 0x700 then (if m == .gardener && g < 40 then activeWrite g v s else s)
  else if 0x700 ≤ o && o < 0x800 then (if plOf m == 0 then senseWrite g v s else s)
  else if 0x900 ≤ o && o < 0xA00 then (if plOf m == 0 && presentWord s g != 0 then grpCfgWrite g v s else s)
  else if o == 0xC00 then
    match m with
    | .core c pl => claim c pl.toNat v s
    | _ => s
  else if o == 0xC04 then
    match m with
    | .core c pl => complete c pl.toNat v s
    | _ => s
  else if o == 0xC08 then (if plOf m == 0 then { s with intc := { s.intc with strayCount := fieldOf v 0 16 } } else s)
  else if 0x1000 ≤ o && o < 0x2400 then (if plOf m == 0 then routeWrite ((o - 0x1000) / 4) v s else s)
  else s

end Sys2Proof.Machine
end

