-- ==== Sys2Proof/Machine/Timer.lean ====
section
/-!
DEFINITION. Machine/Timer.lean: the timer channels and the system counter (14_timers.md). The registers lie at WZ_REG_BASE +
0x020_0000 (R436).
-/
namespace Sys2Proof.Machine

/-- TMR_CTL.EN. -/
def Chan.en (k : Chan) : Bool := bitOf k.ctl 0
/-- TMR_CTL.SRC (R414). -/
def Chan.src (k : Chan) : BitVec 3 := fieldOf k.ctl 1 3
/-- TMR_CTL.ONESHOT. -/
def Chan.oneshot (k : Chan) : Bool := bitOf k.ctl 4
/-- TMR_CTL.MAKEUP (R432). -/
def Chan.makeup (k : Chan) : Bool := bitOf k.ctl 5
/-- TMR_CTL.OUTMODE (R428). -/
def Chan.outmode (k : Chan) : BitVec 3 := fieldOf k.ctl 7 3

/-- Channel `n`. -/
def State.chan (s : State) (n : ChanId) : Chan := s.chans[n.val]
/-- State with channel `n` changed. -/
def State.modChan (s : State) (n : ChanId) (f : Chan → Chan) : State :=
  { s with chans := s.chans.set n.val (f s.chans[n.val]) }

/-- Whether channel `n` exists in the build (R6, R413). -/
def State.hasChan (s : State) (n : ChanId) : Bool := s.hasRegion (chanRegion n)

/-- Whether channel `n` is frozen (R429). -/
def chanFrozen (s : State) (n : ChanId) : Bool :=
  bitOf (s.chan n).ctl 6 && (match s.cores[routeOf s (1024 + 2 * n.val)]? with
    | some k => k.halted
    | none => false)

/-- Whether a region's timer block counts: not stopped, and not lost with an OFF region (R431). -/
def tmrRuns (s : State) (r : RegionId) : Bool :=
  fabRuns s && s.hasRegion r && !s.tmr[r.val].stopped && (s.region r).state != 3

/-- What one channel tick did (R417). -/
structure TickEv where
  /-- A wrap. -/
  wrap : Bool
  /-- A CMPA match. -/
  a : Bool
  /-- A CMPB match. -/
  b : Bool
  deriving DecidableEq, Repr

/-- A committed pending value copied at a wrap (R417). -/
def TmrVal.copy (v : TmrVal) : TmrVal := match v.pend with
  | some p => { v with act := p, pend := none }
  | none => v

/-- The width counter after `n` channel ticks (R425). -/
def widthAfter (w : Option (BitVec 48)) (n : Nat) : Option (BitVec 48) :=
  w.map (fun x => BitVec.ofNat 48 (min (x.toNat + n) 0xFFFF_FFFF_FFFF))

/-- The channel with ONESHOT's EN cleared at a wrap (R417). -/
def Chan.wrapped (k : Chan) : Chan :=
  { k with period := k.period.copy, cmpa := k.cmpa.copy, cmpb := k.cmpb.copy, cnt := 0,
           ctl := if k.oneshot then k.ctl &&& ~~~1 else k.ctl }

/-- One channel tick's count and events (R417). -/
def Chan.tick (k : Chan) : Chan × TickEv :=
  let wrap := decide (k.period.act.toNat ≤ k.cnt.toNat)
  let k := if wrap then k.wrapped else { k with cnt := k.cnt + 1 }
  let k := { k with wcnt := widthAfter k.wcnt 1 }
  (k, { wrap := wrap, a := k.cnt == k.cmpa.act, b := k.cnt == k.cmpb.act })

/-- The output after a tick's events (R428). -/
def outAfter (mode : BitVec 3) (o : Bool) (e : TickEv) : Bool := match mode.toNat with
  | 1 => if e.a then false else o || e.wrap
  | 2 => if e.b then false else o || e.a
  | 3 => o != e.a
  | 4 => o != e.wrap
  | _ => o

/-- Flag bits of TMR_STAT. -/
def statBits (l : List (Bool × Nat)) : BitVec 10 := l.foldl (fun v p => if p.1 then v ||| (1 : BitVec 10) <<< p.2 else v) 0

/-- One channel tick with its flags, sources and output (R417, R427, R428). -/
def chanTick (n : ChanId) (s : State) : State × TickEv :=
  let (k, e) := (s.chan n).tick
  let k := { k with out := outAfter k.outmode k.out e, stat := k.stat ||| statBits [(e.wrap, 0), (e.a, 1), (e.b, 2)] }
  let s := s.modChan n (fun _ => k)
  let s := if (e.wrap && bitOf k.irqen 0) || (e.a && bitOf k.irqen 1) then raiseSource (1024 + 2 * n.val) s else s
  let s := if e.b && bitOf k.irqen 2 then raiseSource (1025 + 2 * n.val) s else s
  (s, e)

/-- The divisor that a channel counts with (R416). -/
def Chan.divisor (k : Chan) : Nat := max k.div.toNat 0x1_0000

/-- One source tick of a channel (R416): through the prescaler to at most one channel tick, and on to a chained channel (R414). -/
def sourceTick : Nat → ChanId → State → State
  | 0, _, s => s
  | fuel + 1, n, s =>
    let k := s.chan n
    if !k.en || chanFrozen s n then s
    else
      let acc := k.acc.toNat + 0x1_0000
      if acc < k.divisor then s.modChan n (fun k => { k with acc := BitVec.ofNat 33 acc })
      else
        let (s, e) := chanTick n (s.modChan n (fun k => { k with acc := BitVec.ofNat 33 (acc - k.divisor) }))
        if h : e.wrap ∧ n.val % 16 < 15 then
          let m : ChanId := ⟨n.val + 1, by omega⟩
          if (s.chan m).src == 4 then sourceTick fuel m s else s
        else s

/-- The capture of a rising edge of wz_tmr_in while EN = 1 (R424, R425). -/
def captureRise (n : ChanId) (s : State) : State :=
  let k := s.chan n
  if !k.en then s
  else
    let s := s.modChan n (fun k => { k with
      capr := k.cnt, wcnt := some 0, stat := k.stat ||| statBits [(true, 3), (bitOf k.stat 3, 6)] })
    if bitOf k.irqen 3 then raiseSource (1025 + 2 * n.val) s else s

/-- The capture of a falling edge while EN = 1 (R424, R425). -/
def captureFall (n : ChanId) (s : State) : State :=
  let k := s.chan n
  if !k.en then s
  else
    let s := s.modChan n (fun k => { k with
      capf := k.cnt, width := k.wcnt.getD k.width, wcnt := none,
      stat := k.stat ||| statBits [(true, 4), (k.wcnt.isSome, 5), (bitOf k.stat 4, 6)] })
    if bitOf k.irqen 4 then raiseSource (1025 + 2 * n.val) s else s

/-! ### Make-up -/

/-- Whether counting from `c` through `n` further values passes `v` (R433). -/
def crosses (v : BitVec 48) (c n : Nat) : Bool := decide (c < v.toNat) && decide (v.toNat ≤ c + n)

/-- `n` channel ticks at once (R433), by the counts crossed: the channel, what was crossed and the wraps made. -/
def Chan.ticks (k : Chan) (n : Nat) : Chan × TickEv × Nat :=
  let c := k.cnt.toNat
  let p := k.period.act.toNat
  let first := if p ≤ c then 1 else p - c + 1
  if n < first then
    ({ k with cnt := BitVec.ofNat 48 (c + n), wcnt := widthAfter k.wcnt n },
      { wrap := false, a := crosses k.cmpa.act c n, b := crosses k.cmpb.act c n }, 0)
  else
    let a0 := crosses k.cmpa.act c (first - 1)
    let b0 := crosses k.cmpb.act c (first - 1)
    let w := k.wrapped
    let at0 := w.cmpa.act == 0
    let bt0 := w.cmpb.act == 0
    if k.oneshot then
      ({ w with wcnt := widthAfter k.wcnt first }, { wrap := true, a := a0 || at0, b := b0 || bt0 }, 1)
    else
      let q := (n - first) / (w.period.act.toNat + 1)
      let r := (n - first) % (w.period.act.toNat + 1)
      let hit (v : BitVec 48) : Bool := (decide (0 < q) && decide (v.toNat ≤ w.period.act.toNat)) || crosses v 0 r
      ({ w with cnt := BitVec.ofNat 48 r, wcnt := widthAfter k.wcnt n },
        { wrap := true, a := a0 || at0 || hit w.cmpa.act, b := b0 || bt0 || hit w.cmpb.act }, 1 + q)

/-- The make-up of channel `n` (R432, R433) for `st` slow ticks, with the wraps of the channel before it; the wraps it makes. -/
def makeUp (n : ChanId) (st prev : Nat) (s : State) : State × Nat :=
  let k := s.chan n
  if !k.makeup || !k.en || chanFrozen s n then (s, 0)
  else
    let v := st * k.ratio.toNat + k.mfrac.toNat
    let (k, a) : Chan × Nat := if k.src == 4 then (k, prev) else ({ k with mfrac := BitVec.ofNat 32 v }, v / 2 ^ 32 % 2 ^ 80)
    let (k, e, w) := k.ticks a
    let s := s.modChan n (fun _ => { k with stat := k.stat ||| statBits [(e.a, 7), (e.b, 8), (e.wrap, 9)] })
    (if (e.a || e.b || e.wrap) && bitOf k.irqen 5 then raiseSource (1025 + 2 * n.val) s else s, w)

/-- The channels of a region. -/
def regionChans (r : RegionId) : List ChanId := (List.finRange 64).filter (fun n => chanRegion n == r)

/-- A timer block restarts with its make-up, channel by channel (R431 to R433). -/
def tmrRestart (r : RegionId) (s : State) : State :=
  let b := s.tmr[r.val]
  if !b.stopped then s
  else
    let s := ((regionChans r).foldl (fun (x : State × Nat) n => makeUp n b.sleep.toNat x.2 x.1) (s, 0)).1
    { s with tmr := s.tmr.set r.val { b with stopped := false } }

/-- A timer block stops (R431): TMR_SLEEP_ST counts from 0. -/
def tmrStop (r : RegionId) (s : State) : State :=
  if s.tmr[r.val].stopped then s else { s with tmr := s.tmr.set r.val { sleep := 0, stopped := true } }

/-- A timer block loses its state (R431). -/
def tmrLose (r : RegionId) (s : State) : State :=
  let s := (regionChans r).foldl (fun s n => s.modChan n (fun _ => {})) s
  { s with tmr := s.tmr.set r.val {} }

/-- The system counter restarts with its make-up (R432). -/
def sysRestart (s : State) : State :=
  let y := s.sys
  if !y.stopped then s
  else
    let v := y.sleep.toNat * y.ratio.toNat + y.mfrac.toNat
    { s with sys := { y with count := y.count + BitVec.ofNat 64 (v / 2 ^ 32 % 2 ^ 80), mfrac := BitVec.ofNat 32 v, stopped := false } }

/-- A rising edge of wz_slowclk: the counters of stopped blocks (R431, R432). -/
def slowTick (s : State) : State :=
  let s := { s with tmr := s.tmr.map (fun b : TmrBlock => if b.stopped then { b with sleep := b.sleep + 1 } else b) }
  if s.sys.stopped then { s with sys := { s.sys with sleep := s.sys.sleep + 1 } } else s

/-! ### Registers -/

/-- A 48-bit value from a holding word and a written HI (R419). -/
def join48 (lo hi : W32) : BitVec 48 := BitVec.ofNat 48 (lo.toNat + hi.toNat % 65536 * 2 ^ 32)
/-- Bits [31:0] of a 48-bit or 64-bit value. -/
def lo32 {w : Nat} (v : BitVec w) : W32 := BitVec.ofNat 32 v.toNat
/-- The bits above. -/
def hi32 {w : Nat} (v : BitVec w) : W32 := BitVec.ofNat 32 (v.toNat / 2 ^ 32)

/-- TMR_CTL as written (R414, R416, R428). -/
def Chan.writeCtl (k : Chan) (v : W32) : Chan :=
  let src := if k.en || (fieldOf v 1 3).toNat > 4 then k.src else fieldOf v 1 3
  let om := if (fieldOf v 7 3).toNat > 4 then k.outmode else fieldOf v 7 3
  let ctl := setField (setField (fieldOf v 0 10) 1 3 src.toNat) 7 3 om.toNat
  { k with ctl := ctl, acc := if !k.en && bitOf v 0 then 0 else k.acc }

/-- TMR_CMD (R416, R428). -/
def Chan.writeCmd (k : Chan) (v : W32) : Chan :=
  { k with out := if bitOf v 0 == bitOf v 1 then k.out else bitOf v 0, acc := if bitOf v 2 then 0 else k.acc }

/-- A commit of a pending value (R420). -/
def TmrVal.commit (v : TmrVal) (hi : W32) : TmrVal := { v with pend := some (join48 v.hold hi) }
/-- LOAD_NOW (R421). -/
def TmrVal.loadNow (v : TmrVal) (hi : W32) : TmrVal := { v with act := join48 v.hold hi, pend := none }

/-- A channel register written (R419 to R422, R432, R436). -/
def Chan.write (k : Chan) (o : Nat) (v : W32) : Chan :=
  match o with
  | 0x00 => k.writeCtl v
  | 0x04 => { k with div := v }
  | 0x08 => { k with stat := k.stat &&& ~~~(fieldOf v 0 10) }
  | 0x0C => { k with irqen := fieldOf v 0 6 }
  | 0x10 => k.writeCmd v
  | 0x20 => { k with cntHold := v }
  | 0x24 => { k with cnt := join48 k.cntHold v }
  | 0x30 => { k with period := { k.period with hold := v } }
  | 0x34 => { k with period := k.period.commit v }
  | 0x38 => { k with period := k.period.loadNow v }
  | 0x40 => { k with cmpa := { k.cmpa with hold := v } }
  | 0x44 => { k with cmpa := k.cmpa.commit v }
  | 0x48 => { k with cmpa := k.cmpa.loadNow v }
  | 0x50 => { k with cmpb := { k.cmpb with hold := v } }
  | 0x54 => { k with cmpb := k.cmpb.commit v }
  | 0x58 => { k with cmpb := k.cmpb.loadNow v }
  | 0x80 => { k with ratioHold := v }
  | 0x84 => { k with ratio := BitVec.ofNat 64 (k.ratioHold.toNat + v.toNat * 2 ^ 32), mfrac := 0 }
  | _ => k

/-- A channel register read (R419, R427, R436). -/
def Chan.read (k : Chan) (frozen : Bool) (o : Nat) : W32 :=
  let b (x : Bool) (i : Nat) : W32 := if x then (1 : W32) <<< i else 0
  match o with
  | 0x00 => k.ctl.setWidth 32 ||| b k.out 11
  | 0x04 => k.div
  | 0x08 => k.stat.setWidth 32 ||| b k.period.pend.isSome 10 ||| b k.cmpa.pend.isSome 11 ||| b k.cmpb.pend.isSome 12 ||| b frozen 13
  | 0x0C => k.irqen.setWidth 32
  | 0x20 => lo32 k.cnt | 0x24 => hi32 k.cnt
  | 0x30 => lo32 k.period.act | 0x34 => hi32 k.period.act | 0x38 => hi32 k.period.act
  | 0x40 => lo32 k.cmpa.act | 0x44 => hi32 k.cmpa.act | 0x48 => hi32 k.cmpa.act
  | 0x50 => lo32 k.cmpb.act | 0x54 => hi32 k.cmpb.act | 0x58 => hi32 k.cmpb.act
  | 0x60 => lo32 k.capr | 0x64 => hi32 k.capr | 0x68 => lo32 k.capf | 0x6C => hi32 k.capf
  | 0x70 => lo32 k.width | 0x74 => hi32 k.width
  | 0x80 => lo32 k.ratio | 0x84 => hi32 k.ratio
  | _ => 0

/-- The channel and the offset in it that an offset of the TMR registers names (R436). -/
def chanAt (o : Nat) : Option (ChanId × Nat) :=
  if h : o / 0x1_0000 < 4 ∧ o % 0x1_0000 < 0x1000 then
    some (⟨o / 0x1_0000 * 16 + o % 0x1_0000 / 0x100, by omega⟩, o % 0x100)
  else none

/-- The region whose timer block an offset of the TMR registers lies in. -/
def tmrRegionAt (o : Nat) : Option RegionId := if h : o / 0x1_0000 < 4 then some ⟨o / 0x1_0000, h⟩ else none

/-- Whether a master may use the registers of channel `n` (R435). -/
def chanAllowed (s : State) (m : Master) (n : ChanId) : Bool :=
  plOf m == 0 || (plOf m == 1 && (masterSlice s m).tmrch.getLsbD n.val)

/-- A read at an offset of the TMR registers (R435, R436). -/
def tmrRead (m : Master) (o : Nat) (s : State) : W32 :=
  if plOf m ≥ 2 then 0
  else match chanAt o with
  | some (n, i) =>
    if s.hasChan n && chanAllowed s m n && (plOf m == 0 || i < 0x80) then (s.chan n).read (chanFrozen s n) i else 0
  | none =>
    match tmrRegionAt o with
    | some r =>
      if !s.hasRegion r then 0
      else if o % 0x1_0000 == 0x1000 then lo32 s.tmr[r.val].sleep
      else if o % 0x1_0000 == 0x1004 then hi32 s.tmr[r.val].sleep
      else 0
    | none =>
      match o - 0x4_0000 with
      | 0x00 => lo32 s.sys.count | 0x04 => hi32 s.sys.count
      | 0x08 => if plOf m == 0 then lo32 s.sys.ratio else 0
      | 0x0C => if plOf m == 0 then hi32 s.sys.ratio else 0
      | 0x10 => lo32 s.sys.sleep | 0x14 => hi32 s.sys.sleep
      | _ => 0

/-- A write at an offset of the TMR registers (R431, R435, R436). A region in OFF keeps its block at reset values. -/
def tmrWrite (m : Master) (o : Nat) (v : W32) (s : State) : State :=
  if plOf m ≥ 2 then s
  else match chanAt o with
  | some (n, i) =>
    if s.hasChan n && chanAllowed s m n && (plOf m == 0 || i < 0x80) && (s.region (chanRegion n)).state != 3 then
      s.modChan n (fun k => k.write i v)
    else s
  | none =>
    if plOf m != 0 then s
    else if o == 0x4_0008 then { s with sys := { s.sys with ratioHold := v } }
    else if o == 0x4_000C then
      { s with sys := { s.sys with ratio := BitVec.ofNat 64 (s.sys.ratioHold.toNat + v.toNat * 2 ^ 32), mfrac := 0 } }
    else s

end Sys2Proof.Machine
end

