-- ==== Sys2Proof/Machine/Link.lean ====
section
/-!
DEFINITION. Machine/Link.lean: which path reaches a node (R25, R509, R513), sending messages on the coupling ports (R501 to R505) and
posted stores on the train message engine (R515, R517).
-/
namespace Sys2Proof.Machine

/-! ### Reach -/

/-- How a node is reached (R25). -/
inductive Reach
  /-- The complex itself (R22). -/
  | own
  /-- A member of the board domain. -/
  | board
  /-- A node whose departure is under way (R355). -/
  | leaving
  /-- A TME-reached node (R513). -/
  | tme
  /-- Neither. -/
  | none
  deriving DecidableEq, Repr

/-- The member entry of a node (R509). -/
def memberOf (s : State) (n : BitVec 12) : Option Member := s.members.toList.find? (fun m => m.valid && m.node == n)

/-- How node `n` is reached (R22, R25, R355, R509, R513). -/
def reachOf (s : State) (n : BitVec 12) : Reach :=
  if n == s.node then .own
  else if (memberOf s n).isSome then .board
  else if s.ports.toList.any (fun p => p.leaving.contains n) then .leaving
  else if s.tme.en && s.tme.reach.getLsbD n.toNat then .tme
  else .none

/-! ### Messages -/

/-- Units of a message with its header (R504). -/
def Msg.units (m : Msg) : Nat := 1 + (m.data.length + 15) / 16

/-- Whether a port carries messages of a class now (R506). -/
def portCarries (p : Port) (cls : Nat) : Bool :=
  p.state == 4 || p.state == 5 || (cls == 4 && (p.state == 2 || p.state == 3))

/-- One message moved from the queue into a DATA block (R498, R501, R503): the oldest message of a class that has credits. A block
holds one message (DESIGN CHOICE, log entry 29). -/
def pumpOne (p : Port) : Option Port :=
  if p.replay.length ≥ 128 then none
  else
    -- a message goes only when no older one of its class waits
    let rec pick (seen : List Nat) : List Msg → Option (Msg × List Msg)
      | [] => none
      | m :: t =>
        if !seen.contains m.cls && portCarries p m.cls && decide (m.units ≤ (p.credits[m.cls]?).getD 0) then some (m, t)
        else match pick (m.cls :: seen) t with
          | some (x, r) => some (x, m :: r)
          | none => none
    match pick [] p.txq with
    | some (m, r) => some { p with
        txq := r, txSeq := p.txSeq + 1, replay := p.replay ++ [{ seq := p.txSeq, msgs := [m], tries := 1 }],
        credits := p.credits.set! m.cls ((p.credits[m.cls]?).getD 0 - m.units) }
    | none => none

/-- Every message that can go, gone. -/
def pump : Nat → Port → Port
  | 0, p => p
  | n + 1, p => match pumpOne p with
    | some q => pump n q
    | none => p

/-- A port with its queue moved on. -/
def pumpPort (p : PortId) (s : State) : State :=
  { s with ports := s.ports.set p.val (pump (s.ports[p.val].txq.length) s.ports[p.val]) }

/-- A message queued on a port. -/
def queueMsg (p : PortId) (m : Msg) (s : State) : State :=
  pumpPort p { s with ports := s.ports.set p.val { s.ports[p.val] with txq := s.ports[p.val].txq ++ [m] } }

/-- The port of the route to a node (R505, R509), or of its departure. -/
def portTo (s : State) (n : BitVec 12) : Option PortId :=
  match memberOf s n with
  | some m => if h : m.port.toNat < 6 then some ⟨m.port.toNat, h⟩ else none
  | none => (List.finRange 6).find? (fun p => s.ports[p.val].leaving.contains n)

/-- A message sent to its DST (R505); without a route it is dropped. -/
def sendMsg (m : Msg) (s : State) : State := match portTo s m.dst with
  | some p => queueMsg p m s
  | none => s

/-- The lowest TAG that no outstanding request uses (R504: chosen by SRC). -/
def freshTag (s : State) : BitVec 16 :=
  BitVec.ofNat 16 (((List.range (s.cplWait.length + 1)).find? (fun n => !s.cplWait.any (fun w => w.tag.toNat == n))).getD 0)

/-- The byte mask of a list of optional bytes (R504). -/
def maskOf (d : List (Option Byte)) : BitVec 16 :=
  (List.range 16).foldl (fun v i => if ((d[i]?).join).isSome then v ||| (1 : BitVec 16) <<< i else v) 0

/-- A request to another complex (R503, R504): `code` is CLASS × 32 + OP; `n` bytes from `addr` are asked for. Reads of at most 16
bytes name them by MASK in the aligned 16-byte block; a MASK of 0 asks for the 64-byte line. MV_RD (97) gives its length in MASK, and
MV_WR (96) the bytes of a last unit that is not full (log entry 30). -/
def boardSend (who : Waiter) (addr code : Nat) (d : List (Option Byte)) (n : Nat) (s : State)
    (status : Byte := 0) : State :=
  let node : BitVec 12 := BitVec.ofNat 12 (addr / 2 ^ 40)
  let tag := freshTag s
  let block := alignDown addr 16
  let small := (code == 2 && decide (n ≤ 16)) || code == 5
  let mask : BitVec 16 := if code == 4 then maskOf d
    else if small then BitVec.ofNat 16 ((2 ^ n - 1) * 2 ^ (addr - block))
    else if code == 97 then BitVec.ofNat 16 n
    else if code == 96 && d.length % 16 != 0 then BitVec.ofNat 16 (2 ^ (d.length % 16) - 1) else 0
  let m : Msg := { cls := code / 32, op := code % 32, src := s.node, dst := node, tag := tag,
                   status := status, addr := BitVec.ofNat 40 (if small then block else addr), mask := mask, data := d.map (fun x => x.getD 0) }
  sendMsg m { s with cplWait := s.cplWait ++ [{ tag := tag, node := node, op := code, addr := addr, who := who }] }

/-- A response to a message (R504), with STATUS and data. -/
def respond (m : Msg) (op : Nat) (status : Byte) (d : List Byte) (s : State) : State :=
  sendMsg { cls := 1, op := op, src := s.node, dst := m.src, tag := m.tag, status := status, addr := m.addr, data := d } s

/-! ### The train message engine's transmit side -/

/-- What the TME keeps for a node. -/
def tmePeer (s : State) (n : BitVec 12) : TmePeer := (s.tme.peers.find? (fun p => p.node == n)).getD { node := n }
/-- That replaced. -/
def setTmePeer (p : TmePeer) (s : State) : State :=
  { s with tme := { s.tme with peers := p :: s.tme.peers.filter (fun x => x.node != p.node) } }

/-- Frames moved from the waiting list to the outstanding ones while fewer than 64 are (R515); each takes the next SEQ. -/
def TmePeer.advance (p : TmePeer) : TmePeer :=
  match p.wait with
  | [] => p
  | f :: t =>
    if p.out.length < 64 then
      { p with out := p.out ++ [{ f with seq := p.txSeq, reset := p.reset, ack := p.rx.getD 0xFFFF }], wait := t, txSeq := p.txSeq + 1,
               reset := false }
    else p

/-- Every waiting frame that has room. -/
def TmePeer.fill : Nat → TmePeer → TmePeer
  | 0, p => p
  | n + 1, p => (p.advance).fill n

/-- A descriptor, store or frame discarded for a failed node is counted (R515). -/
def countDrops (n : Nat) (s : State) : State :=
  { s with tme := { s.tme with failDrops := BitVec.ofNat 16 (min (s.tme.failDrops.toNat + n) 0xFFFF) } }

/-- A sequenced frame queued for its node (R515). -/
def tmeQueue (f : TmeFrame) (s : State) : State :=
  let p := tmePeer s f.dst
  setTmePeer (({ p with wait := p.wait ++ [f] }).fill 64) s

/-- A record of a posted store (R514): 24 bytes. -/
def recordBytes (r : Nat × List (Option Byte)) : List Byte :=
  leBytes 8 (r.1 % 2 ^ 40 / 16 * 16 + (maskOf r.2).toNat * 2 ^ 40) ++ r.2.map (fun x => x.getD 0)

/-- The open store frame is closed (R517). -/
def closeFrame (s : State) : State := match s.tme.acc with
  | some (n, rs) =>
    let d := rs.flatMap recordBytes
    tmeQueue { kind := 2, src := s.node, dst := n, len := d.length, data := d } { s with tme := { s.tme with acc := none } }
  | none => s

/-- Entries of the accept queue (R517): records not yet among the outstanding frames. -/
def accq (s : State) : Nat :=
  (match s.tme.acc with | some (_, rs) => rs.length | none => 0) +
  s.tme.peers.foldl (fun n p => p.wait.foldl (fun n f => if f.kind == 2 then n + f.len / 24 else n) n) 0

/-- The TME accepts a store-buffer entry as one record (R517), or not yet: while quiesced, quiescing or full. A store for a failed
node is discarded and counted (R515). -/
def tmePost (addr : Nat) (d : List (Option Byte)) (s : State) : Option State :=
  let n : BitVec 12 := BitVec.ofNat 12 (addr / 2 ^ 40)
  if s.tme.quiesced || s.tme.quiesce then none
  else if (tmePeer s n).failed then some (countDrops 1 s)
  else if accq s ≥ 64 then none
  else
    let r := (addr % 2 ^ 40, d)
    match s.tme.acc with
    | some (m, rs) =>
      if m == n then
        let s := { s with tme := { s.tme with acc := some (m, rs ++ [r]) } }
        some (if rs.length + 1 ≥ 42 then closeFrame s else s)
      else
        let s := closeFrame s
        some { s with tme := { s.tme with acc := some (n, [r]) } }
    | none => some { s with tme := { s.tme with acc := some (n, [r]) } }

end Sys2Proof.Machine
end

