-- ==== Sys2Proof/Machine/Phys.lean ====
section
/-!
DEFINITION. Machine/Phys.lean: the physical address space (R20 to R25), the caches and the coherent point (R338 to R346), the
dirty logs (R450, R451) and the corrected and uncorrectable words of the scratchpad (R361, R362).
Memory holds the coherent contents; State.dirty keeps what DRAM itself holds for a line that a cache has modified.
-/
namespace Sys2Proof.Machine

/-- What a physical address names (R20 to R25). -/
inductive Target
  | dram (a : Nat)
  | spm (b : BankId) (a : Nat)
  | regs (off : Nat)
  | host (pa : Nat)
  | board (node : BitVec 12) (off : Nat)
  | tme (node : BitVec 12) (off : Nat)
  /-- An address of a node whose departure is under way (R355). -/
  | leaving
  | bad
  deriving DecidableEq, Repr

/-! ### DRAM channels and ranks -/

/-- Installed capacity (R526): WZ_MC_CHANNELS × C. -/
def dramTop (s : State) : Nat := s.build.mcChannels * (s.mc[0].cap.toNat * 2 ^ 30)

/-- Size of a rank of a channel (R525). -/
def rankSize (k : McChan) : Nat := (match k.dens.toNat with
  | 0 => 32
  | 1 => 48
  | _ => 64) * (if k.x8 then 2 ^ 29 else 2 ^ 30)

/-- The channel that a local address below installed capacity maps to, and its channel address (R526). -/
def dramMap (s : State) (a : Nat) : McId × Nat :=
  let c := s.mc[0].cap.toNat * 2 ^ 30
  if s.ilv then
    let n := s.build.mcChannels
    (⟨a / 4096 % n % 4, Nat.mod_lt _ (by decide)⟩, a / 4096 / n * 4096 + a % 4096)
  else (⟨(if c = 0 then 0 else a / c) % 4, Nat.mod_lt _ (by decide)⟩, if c = 0 then a else a % c)

/-- The channel and rank of a local address (R525, R526). -/
def rankAt (s : State) (a : Nat) : McId × Nat :=
  let (m, x) := dramMap s a
  (m, x / rankSize s.mc[m.val])

/-- Whether a local address is served: below installed capacity and in no retired rank (R526, R536). -/
def dramServed (s : State) (a : Nat) : Bool :=
  decide (a < dramTop s) && (let (m, r) := rankAt s a; !s.mc[m.val].retired.getLsbD r)

/-! ### Targets -/

/-- The local map (R23, R6): the target of a local address `a` below 2^40. -/
def localTarget (s : State) (a : Nat) : Target :=
  if a < 0x40_0000_0000 then (if dramServed s a then .dram a else .bad)
  else if a < 0x80_0000_0000 then .bad
  else if a < 0x80_0200_0000 then
    let b : BankId := ⟨(a - 0x80_0000_0000) / 0x2_0000 % 256, Nat.mod_lt _ (by decide)⟩
    if s.hasBank b then .spm b a else .bad
  else if a < 0xC0_0000_0000 then .bad
  else if a < 0xC0_0100_0000 then .regs (a - 0xC0_0000_0000)
  else if a < 0xD0_0000_0000 then .bad
  else if a < 0xF0_0000_0000 then .host a
  else .bad

/-- The target of a 53-bit physical address (R20 to R25). -/
def target (s : State) (pa : Nat) : Target :=
  let node : BitVec 12 := BitVec.ofNat 12 (pa / 2 ^ 40)
  let off := pa % 2 ^ 40
  if pa / 2 ^ 52 % 2 = 0 then (if node = 0 then localTarget s off else .bad)
  else match reachOf s node with
    | .own => localTarget s off
    | .board => .board node off
    | .leaving => .leaving
    | .tme => .tme node off
    | .none => .bad

/-- The local address that a physical address of this complex's DRAM or scratchpad names (R20 to R23); another address unchanged. -/
def localAddr (s : State) (pa : Nat) : Nat := match target s pa with
  | .dram a => a
  | .spm _ a => a
  | _ => pa

/-! ### Caches -/

/-- An L1 list with `line` brought in as most recently used (R338), and the line evicted for it, if any. A poisoned line and a
locked line are never chosen (R339, R338). -/
def l1Fill (keep : Nat → Bool) (l : List L1Line) (line : Nat) : List L1Line × Option Nat :=
  match pluck (fun e => e.line == line) l with
  | some (e, r) => ({ e with held := true } :: r, none)
  | none =>
    let same := l.filter (fun e => e.line % 128 == line % 128)
    if same.length < 4 then ({ line := line } :: l, none)
    else match pluck (fun e => e.line % 128 == line % 128 && !e.locked && !keep e.line) l.reverse with
      | some (e, r) => ({ line := line } :: r.reverse, some e.line)
      | none => (l, none)

/-- An L2 list with `line` brought in as most recently used (R338), and the line evicted for it, if any. -/
def l2Fill (keep : Nat → Bool) (l : List L2Line) (line : Nat) : List L2Line × Option Nat :=
  match pluck (fun e => e.line == line) l with
  | some (e, r) => ({ e with held := true } :: r, none)
  | none =>
    let same := l.filter (fun e => e.line % 1024 == line % 1024)
    if same.length < 16 then ({ line := line } :: l, none)
    else match pluck (fun e => e.line % 1024 == line % 1024 && e.lockers.isEmpty && !keep e.line) l.reverse with
      | some (e, r) => ({ line := line } :: r.reverse, some e.line)
      | none => (l, none)

/-- Whether L1D of core `c` holds `line`. -/
def State.inL1d (s : State) (c : CoreId) (line : Nat) : Bool := (s.core c).l1d.any (fun e => e.line == line && e.held)
/-- Whether the L2 of cluster `k` holds `line`. -/
def State.inL2 (s : State) (k : ClusterId) (line : Nat) : Bool := s.l2[k.val].any (fun e => e.line == line && e.held)
/-- Whether any cache of the complex that holds modified data could hold `line`. -/
def State.cachedAnywhere (s : State) (line : Nat) : Bool :=
  allCores.any (fun c => s.inL1d c line) || allClusters.any (fun k => s.inL2 k line)

/-- The line is written back to DRAM and is no longer modified (R341, R342). -/
def cleanLine (s : State) (line : Nat) : State := { s with dirty := s.dirty.filter (fun d => d.line != line) }

/-- The poison of a line in any cache of the complex (R339). -/
def State.isPoisoned (s : State) (line : Nat) : Bool := s.poisoned.any (fun p => p.2 == line)

/-- What became of a line that left one cache: once no cache holds it, modified data has been written back. -/
def settleEvicted (s : State) (line : Nat) : State := if s.cachedAnywhere line then s else cleanLine s line

/-- A remote line that no cache holds any more is given up; its modified data goes home with WR_LINE (R505). -/
def settleRemote (s : State) (line : Nat) : State :=
  if s.cachedAnywhere line then s else
    match pluck (fun r => r.line == line) s.remote with
    | some (r, rest) =>
      let s := { s with remote := rest }
      if r.modified then boardSend .none (line * 64) 3 (r.data.map some) 0 s else s
    | none => s

/-- The L2 of cluster `k` with `line` brought in. -/
def fillL2 (s : State) (k : ClusterId) (line : Nat) : State :=
  let (l, ev) := l2Fill s.isPoisoned s.l2[k.val] line
  let s := { s with l2 := s.l2.set k.val l }
  match ev with
  | some e => settleRemote (settleEvicted s e) e
  | none => s

/-- L1D of core `c` and the L2 of its cluster with `line` brought in; a line that leaves L1D stays in L2 (DESIGN CHOICE, log entry 14). -/
def fillL1d (s : State) (c : CoreId) (line : Nat) : State :=
  let s := fillL2 s (clusterOf c) line
  let (l, ev) := l1Fill s.isPoisoned (s.core c).l1d line
  let s := s.modCore c (fun k => { k with l1d := l })
  match ev with
  | some e => fillL2 s (clusterOf c) e
  | none => s

/-- A lock survives as a reservation when its line is removed (R340). -/
def l1Drop (l : List L1Line) (line : Nat) : List L1Line :=
  l.filterMap (fun e => if e.line == line then (if e.locked then some { e with held := false } else none) else some e)

/-- A lock survives as a reservation when its line is removed (R340). -/
def l2Drop (l : List L2Line) (line : Nat) : List L2Line :=
  l.filterMap (fun e => if e.line == line then (if e.lockers.isEmpty then none else some { e with held := false }) else some e)

/-- The line removed from every L1D but that of `keepC` and from every L2 but that of its cluster. -/
def dropCopies (s : State) (keepC : Option CoreId) (line : Nat) : State :=
  let s := (allCores.filter (fun c => some c != keepC && s.inL1d c line)).foldl
    (fun s c => s.modCore c (fun k => { k with l1d := l1Drop k.l1d line })) s
  (allClusters.filter (fun k => some k != keepC.map clusterOf && s.inL2 k line)).foldl
    (fun s k => { s with l2 := s.l2.set k.val (l2Drop s.l2[k.val] line) }) s

/-- The lines of 64 bytes that [a, a + n) touches. -/
def linesOf (a n : Nat) : List Nat := if n = 0 then [] else (List.range ((a + n - 1) / 64 - a / 64 + 1)).map (· + a / 64)

/-- Whether a read of the line finds data that R339, R343, R356 or R529 marks bad. -/
def State.lineBad (s : State) (line : Nat) : Bool :=
  s.isPoisoned line || line ∈ s.pattern || line ∈ s.dramUe || line ∈ s.lostLines

/-- The 64-bit words that [a, a + n) touches, by byte address. -/
def wordsOf (a n : Nat) : List Nat :=
  if n = 0 then [] else (List.range ((a + n - 1) / 8 - a / 8 + 1)).map (fun i => (i + a / 8) * 8)

/-- A read of a DRAM line with an uncorrectable error (R529): MC_ERRADDR, UECNT, and the rank marked lasting. -/
def dramUeFound (line : Nat) (s : State) : State :=
  let (m, r) := rankAt s (line * 64)
  let k := s.mc[m.val]
  let k : McChan := { k with
    uecnt := if k.uecnt = 0xFF then k.uecnt else k.uecnt + 1, errAddr := BitVec.ofNat 40 (line * 64), errUe := true }
  tallyEvent 4 (m.val * 8 + r) 0 true { s with mc := s.mc.set m.val k }

/-- The line becomes poisoned in a cache (R339); `found`: an access of a core found it, so the POISONED leaf stays as it is. -/
def poisonLine (n : CacheName) (found : Bool) (line : Nat) (s : State) : State :=
  let k : ClusterId := match n with
    | .l1d c => clusterOf c
    | .l2 k => k
  let s := if s.isPoisoned line then s else { s with poisoned := s.poisoned ++ [(n, line)] }
  if found then s else setLeaf 4 0 k.val s

/-- Whether another request may go out on wz_sm_* (R549, R562). -/
def smCanSend (s : State) : Bool := isActive s && decide (s.smOut.length < 128)

/-- A coherent read by an observer that is not a core (R346): a modified line is written back and shared. -/
def cohRead (s : State) (a n : Nat) : List Byte × State :=
  (memRead s.mem a n, (linesOf a n).foldl cleanLine s)

/-- A write of a whole line clears what made it bad; a partial write leaves it (R343, R356, R529). -/
def clearBad (s : State) (a n : Nat) : State :=
  let full := (linesOf a n).filter (fun l => decide (a ≤ l * 64) && decide (l * 64 + 64 ≤ a + n))
  { s with pattern := s.pattern.filter (· ∉ full), dramUe := s.dramUe.filter (· ∉ full) }

/-- A coherent write by an observer that is not a core: every cached copy is written back and removed first (R327, R243), but a poisoned
one, which only R339 and R343 remove. -/
def cohWrite (s : State) (a : Nat) (d : List (Option Byte)) : State :=
  let ls := linesOf a d.length
  let s := ls.foldl (fun s l => if s.isPoisoned l then s else dropCopies (cleanLine s l) none l) s
  let s := if d.all Option.isSome then clearBad s a d.length else s
  { s with mem := memWriteMask s.mem a d }

/-- A cacheable write of core `c` at its C (R348): its L1D takes the line and every other copy is removed; the line is modified. A fill
that meets an uncorrectable line, or the poison pattern, poisons the line (R339, R343, R529). -/
def cacheWrite (s : State) (c : CoreId) (a : Nat) (d : List (Option Byte)) : State :=
  let s := (linesOf a d.length).foldl (fun s l =>
    let s := fillL1d (dropCopies s (some c) l) c l
    let s := if l ∈ s.pattern then poisonLine (.l1d c) false l s
      else if l ∈ s.dramUe then poisonLine (.l1d c) false l (dramUeFound l s) else s
    if s.dirty.any (fun e => e.line == l) then s
    else { s with dirty := { line := l, copy := memRead s.mem (l * 64) 64 } :: s.dirty }) s
  { s with mem := memWriteMask s.mem a d }

/-- A cacheable read of core `c`: a copy that another core or cluster has modified is written back and shared. -/
def cacheRead (s : State) (c : CoreId) (a n : Nat) : List Byte × State :=
  let s := (linesOf a n).foldl (fun s l =>
    let other := allCores.any (fun x => x != c && s.inL1d x l) || allClusters.any (fun k => k != clusterOf c && s.inL2 k l)
    fillL1d (if other then cleanLine s l else s) c l) s
  (memRead s.mem a n, s)

/-- DC.INV of a line (R341, R339, R356): modified data is discarded and DRAM's copy is used. -/
def dcInvLine (s : State) (line : Nat) : State :=
  let s := match s.dirty.find? (fun d => d.line == line) with
    | some d => { s with mem := memWrite s.mem (line * 64) d.copy }
    | none => s
  let s := dropCopies (cleanLine s line) none line
  { s with poisoned := s.poisoned.filter (fun p => p.2 != line), lostLines := s.lostLines.filter (· != line),
           remote := s.remote.filter (fun r => r.line != line) }

/-- DC.CLEAN of a line (R341); a poisoned line is not written back (R339). -/
def dcCleanLine (s : State) (line : Nat) : State :=
  if s.isPoisoned line then s
  else
    let s := cleanLine s line
    match s.remote.find? (fun r => r.line == line) with
    | some r => if r.modified then
        boardSend .none (line * 64) 3 (r.data.map some) 0
          { s with remote := updFirst (fun x => x.line == line) (fun x => { x with modified := false }) s.remote }
      else s
    | none => s

/-- DC.CLINV of a line (R341): written back if modified, then removed; a poisoned line is discarded (R339). -/
def dcClinvLine (s : State) (line : Nat) : State :=
  if s.isPoisoned line then dcInvLine s line
  else settleRemote (dropCopies (dcCleanLine s line) none line) line

/-- IC.INV of a line: every L1I of the complex (R341). -/
def icInvLine (s : State) (line : Nat) : State :=
  (allCores.filter (fun c => (s.core c).l1i.any (fun e => e.line == line))).foldl
    (fun s c => s.modCore c (fun k => { k with l1i := l1Drop k.l1i line })) s

/-- Whether copies of a local line are held by other complexes, in a way that a local access must undo first (R344, R353). -/
def remoteHolds (s : State) (line : Nat) (write : Bool) : Bool :=
  s.dir.any (fun d => d.line == line && (d.excl || (write && !d.holders.isEmpty)))

/-! ### Dirty logs -/

/-- One bit set in a log at `base` (R450): bit b mod 64 of the 64-bit word at 8 × (b / 64), by coherent atomic OR. -/
def setLogBit (s : State) (base b : Nat) : State :=
  let a := localAddr s (base + b / 8)
  cohWrite s a [some (memGet s.mem a ||| BitVec.ofNat 8 (2 ^ (b % 8)))]

/-- A record for slice `n`'s log, or a loss when the merge buffer is full (R451: when that is, is open: a free value), with its leaf
(R484). -/
def logSlice (s : State) (n : SliceId) (b : Nat) : State :=
  let sl := s.slices[n.val]
  let full := Config.freeBool s.free
  let s := { s with free := s.free + 1 }
  if full then
    let s := if sl.logovf then s else setLeaf 10 0 n.val s
    s.modSlice n (fun d => { d with logovf := true })
  else setLogBit s sl.dlog.toNat b

/-- A write into scratchpad block `blk` of bank `bk` is logged for the slice in state LOGGING that holds the bank (R450). -/
def logSpm (s : State) (bk : BankId) (blk : Nat) : State :=
  match (List.finRange 64).find? (fun n : SliceId => s.slices[n.val].state == 2#3 && s.slices[n.val].banks.getLsbD bk.val) with
  | some n => logSlice s n (32 * bk.val + blk)
  | none => s

/-- A write to local DRAM through the stage 2 of slice `n` at guest-physical address `gpa` (R450). -/
def logGuest (s : State) (n : SliceId) (gpa : Nat) : State :=
  let sl := s.slices[n.val]
  let lim := (if sl.dloglim.toNat > 256 then 256 else sl.dloglim.toNat) * 262144
  if sl.state == 2#3 && decide (gpa / 4096 < lim) then logSlice s n (8192 + gpa / 4096) else s

/-- A write to local DRAM that arrived by physical address (R450). -/
def logPhys (s : State) (pa : Nat) : State :=
  if s.smgr.plogEn then
    let full := Config.freeBool s.free
    let s := { s with free := s.free + 1 }
    if full then
      let s := if s.smgr.plogOvf then s else setLeaf 10 0 64 s
      { s with smgr := { s.smgr with plogOvf := true } }
    else setLogBit s s.smgr.plog.toNat (pa / 4096)
  else s

/-! ### Scratchpad words -/

/-- A read of scratchpad bytes counts each word with a single-bit error once (R361). -/
def spmNoteCe (s : State) (b : BankId) (a n : Nat) : State :=
  (wordsOf a n).foldl (fun s w =>
    if w ∈ s.spmCe then
      tallyCe b.val (s.modBank b (fun k => { k with cecnt := if k.cecnt = 0xFFFF then k.cecnt else k.cecnt + 1 }))
    else s) s

/-- Whether a scratchpad read meets an uncorrectable word (R362). -/
def spmFirstUe (s : State) (a n : Nat) : Option Nat := (wordsOf a n).find? (· ∈ s.spmUe)

/-- An uncorrectable error read from bank `b` (R362, R477): UE set, the region's source raised, and the bank marked lasting. -/
def spmUeFound (s : State) (b : BankId) : State :=
  tallyEvent 3 b.val 0 true (raiseSource (1172 + (bankRegion b).val) (s.modBank b (fun k => { k with ue := true })))

/-- A write into a scratchpad bank: whole words lose their errors, a word written in part counts a corrected error (R361, R362),
and the write is logged (R450). -/
def spmWrite (s : State) (b : BankId) (a : Nat) (d : List (Option Byte)) : State :=
  let n := d.length
  let whole (w : Nat) : Bool := decide (a ≤ w) && decide (w + 8 ≤ a + n) && ((d.drop (w - a)).take 8).all Option.isSome
  let ws := (wordsOf a n).filter (fun w => ((d.drop (w - a)).take (8 - (a - w))).any Option.isSome)
  let part := ws.filter (fun w => !whole w)
  let s := part.foldl (fun s w => spmNoteCe s b w 8) s
  let s := { s with spmCe := s.spmCe.filter (· ∉ ws), spmUe := s.spmUe.filter (fun w => !(ws.filter whole).contains w),
                    mem := memWriteMask s.mem a d }
  if d.any Option.isSome then logSpm s b (a % 0x2_0000 / 4096) else s

end Sys2Proof.Machine
end

