-- ==== Sys2Proof/Machine/Domain.lean ====
section
/-!
DEFINITION. Machine/Domain.lean: the board domain's membership (R508 to R511), the planned and the unplanned loss of nodes (R355,
R356) and the states of a port (R506, R507).
-/
namespace Sys2Proof.Machine

/-! ### Errors that reach a core late -/

/-- The late store error of a store at a physical address (R111, R298, R310): queued, up to one per store-buffer entry; the wait of
a core in WAIT ends (R128), and the Gardener counts it (class 0x08, R476). -/
def lateError (s : State) (c : CoreId) (pa : Nat) : State :=
  tallyEvent 8 c.val 0 false
    (s.modCore c (fun k => if k.late.length < 8 then { k.endWait with late := k.late ++ [pa] } else k))

/-- The pending machine check with one more that has arrived (R298): the first is kept and marked MCLOST; an instruction that must wait for it
(R267) waits for the merged one. -/
def mergeMc (old : Option MCheck) (m : MCheck) : Option MCheck := match old with
  | some o => some { o with lost := true, at? := o.at?.or m.at? }
  | none => some m

/-- A machine check becomes pending on a core (R298), and ends its WAIT (R128). -/
def addMcheck (c : CoreId) (m : MCheck) (s : State) : State :=
  tallyMc c m.cause (s.modCore c (fun k => { k.endWait with mcheck := mergeMc k.mcheck m }))

/-- The oldest store-buffer entry of a core leaves the buffer. -/
def popSb (c : CoreId) (s : State) : State := s.modCore c (fun k => { k with sb := k.sb.drop 1 })

/-- The first request of a core that has no answer yet is answered. -/
def answerFirst (a : ExtAnswer) : List ExtReq → List ExtReq
  | [] => []
  | r :: t => if r.answer.isNone then { r with answer := some a } :: t else r :: answerFirst a t

/-- What an error for an outstanding request does to the one who awaits it (R111, R356, R385). -/
def failWaiter (w : Waiter) (pa : Nat) (s : State) : State :=
  match w with
  | .load c => s.modCore c (fun k => { k with ext := answerFirst .error k.ext })
  | .store c => lateError (popSb c s) c pa
  | .mover n =>
    raiseSource (1152 + n.val)
      (let k := s.movers[n.val]
       { s with movers := s.movers.set n.val { k with
          state := 3, err := 6, waiting := false, writing := false, wrote := false, data := none,
          abtres := if k.abortReq then 2 else k.abtres, abortReq := false } })
  | .debug => { s with tap := { s.tap with bad := true, parked := false } }
  | .forward m => respond m 2 1 [] s
  | .gardener | .none => s

/-! ### Losing a node without a plan -/

/-- Whether a line is homed at node `n`. -/
def homedAt (n : BitVec 12) (line : Nat) : Bool := line / 2 ^ 46 == 1 && line / 2 ^ 34 % 2 ^ 12 == n.toNat

/-- A node becomes unreachable (R356): copies of its lines go, requests that await it fail, local lines that it held modified are
poisoned at the directory, and LINES_LOST is set. -/
def loseNode (n : BitVec 12) (s : State) : State :=
  let gone := (s.remote.filter (fun r => homedAt n r.line)).map RemLine.line
  let s := gone.foldl (fun s l => dropCopies s none l) s
  let s := { s with remote := s.remote.filter (fun r => !homedAt n r.line), poisoned := s.poisoned.filter (fun p => !homedAt n p.2) }
  let waits := s.cplWait.filter (fun w => w.node == n)
  let s := { s with cplWait := s.cplWait.filter (fun w => w.node != n) }
  let s := waits.foldl (fun s w => failWaiter w.who w.addr s) s
  let held := (s.dir.filter (fun d => d.excl && d.holders.contains n)).map DirLine.line
  let ds := (s.dir.map (fun d : DirLine => { d with holders := d.holders.filter (· != n) })).filter (fun d => !d.holders.isEmpty)
  let s := { s with lostLines := s.lostLines ++ held.filter (fun l => !s.lostLines.contains l), dir := ds }
  setLeaf 4 1 n.toNat s

/-! ### The member table -/

/-- The members whose route is a port. -/
def membersVia (s : State) (p : PortId) : List (BitVec 12) :=
  (s.members.toList.filter (fun m => m.valid && m.port.toNat == p.val)).map Member.node

/-- The member table as nodes and hops. -/
def memberTable (s : State) : List (BitVec 12 × BitVec 4) :=
  (s.members.toList.filter Member.valid).map (fun m => (m.node, m.hops))

/-- CPL_DOM_STAT.COUNT (R523). -/
def memberCount (s : State) : Nat := (s.members.toList.filter Member.valid).length

/-- One member added in the first free entry; an existing entry is never replaced (R508). -/
def addMember (p : PortId) (e : BitVec 12 × BitVec 4) (s : State) : State :=
  if (memberOf s e.1).isSome then s
  else match (List.finRange 16).find? (fun i => !s.members[i.val].valid) with
  | some i => { s with members := s.members.set i.val ({ node := e.1, valid := true, port := BitVec.ofNat 3 p.val, hops := e.2 + 1 } : Member) }
  | none => s

/-- Members removed from the table; a membership change advances EPOCH (R523). -/
def removeMembers (l : List (BitVec 12)) (s : State) : State :=
  if l.isEmpty then s
  else
    let ms : Vector Member 16 := s.members.map (fun m : Member => if m.valid && m.port != 7 && l.contains m.node then {} else m)
    { s with members := ms, epoch := s.epoch + 1 }

/-- The other ports of the complex that are COHERENT (R508). -/
def coherentPorts (s : State) (p : PortId) : List PortId :=
  (List.finRange 6).filter (fun q => q != p && s.ports[q.val].state == 4)

/-- The data of an ADMIT, DOMAIN_UPDATE or DEPART message: MAJOR version, a kind with the number of entries, and the entries. The spec
gives no layout (log entry 31). -/
def tableBytes (kind : Nat) (l : List (BitVec 12 × BitVec 4)) : List Byte :=
  [0x02, BitVec.ofNat 8 (kind * 64 + l.length)] ++ l.flatMap (fun e => leBytes 2 (e.1.toNat + e.2.toNat * 4096))

/-- A MGMT message to the peer of a port. -/
def sendMgmt (p : PortId) (op : Nat) (d : List Byte) (s : State) : State :=
  queueMsg p { cls := 4, op := op, src := s.node, dst := s.ports[p.val].peer, tag := 0, data := d } s

/-- A DOMAIN_UPDATE on the other COHERENT ports (R508, R510): kind 1 adds members, kind 2 removes them as planned, kind 3 as lost. -/
def tellDomain (p : PortId) (kind : Nat) (l : List (BitVec 12 × BitVec 4)) (s : State) : State :=
  (coherentPorts s p).foldl (fun s q => sendMgmt q 2 (tableBytes kind l) s) s

/-- Members lost without a plan (R511): removed, R356 for each, CPL_ERR.LOST and the loss source. -/
def loseMembers (p : PortId) (l : List (BitVec 12)) (s : State) : State :=
  if l.isEmpty then s
  else
    let s := l.foldl (fun s n => loseNode n s) (removeMembers l s)
    raiseSource 1199 (setPortErr p 3 (tellDomain p 3 (l.map (fun n => (n, 0))) s))

/-- A port goes DOWN (R506, R511). -/
def portDown (p : PortId) (s : State) : State :=
  let o := s.ports[p.val]
  let st := if o.state == 1 then o.back else o.state
  let via := membersVia s p
  let f (o : Port) : Port :=
    { ({} : Port) with
      en := o.en, maxw := o.maxw, admrej := o.admrej, retired := o.retired, locked := o.locked, resend := o.resend, err := o.err,
      slips := o.slips, naks := o.naks, peer := o.peer, peerVer := o.peerVer, peerValid := o.peerValid }
  let s := setPort p f s
  if st.toNat ≥ 4 then loseMembers p (via ++ o.leaving) s else s

/-! ### Planned departure -/

/-- A line homed at a departing node is written back if modified and removed from every cache of this complex (R355). -/
def giveUpNode (n : BitVec 12) (s : State) : State :=
  ((s.remote.filter (fun r => homedAt n r.line)).map RemLine.line).foldl (fun s l => dcClinvLine s l) s

/-- The planned removal of members reached through a port (R355, R510): tables, write-backs, and accesses to them wait. -/
def departNodes (p : PortId) (l : List (BitVec 12)) (s : State) : State :=
  let s := l.foldl (fun s n => giveUpNode n s) s
  let s := removeMembers l s
  setPort p (fun o => { o with leaving := o.leaving ++ l }) s

/-- The departure of a COHERENT port (R510): DEPARTING, removals told to the peer and to the rest of the domain. -/
def startDepart (p : PortId) (say : Bool) (s : State) : State :=
  let l := membersVia s p
  let own := (memberTable s).filter (fun e => !l.contains e.1)
  let s := departNodes p l s
  let s := if say then sendMgmt p 3 (tableBytes 2 own) s else s
  tellDomain p 2 (l.map (fun n => (n, 0))) (setPort p (fun o => { o with state := 5 }) s)

/-- The conditions of R32 for a change of membership (R508, R510). -/
def quiesceHeld (s : State) : Bool := s.tme.quiesced && s.movers.toList.all (fun m => m.state != 1)

/-- CPL_CTL.DEPART (R510). -/
def cplDepart (p : PortId) (s : State) : State :=
  if s.ports[p.val].state != 4 then s
  else if !quiesceHeld s then setPort p (fun o => { o with admrej := 5 }) s
  else startDepart p true s

/-! ### Admission -/

/-- The first reason that refuses an admission, of those that the two tables show (R508). -/
def admitReason (s : State) (peer : List (BitVec 12 × BitVec 4)) (major : Byte) : BitVec 3 :=
  if memberCount s + (peer.filter (fun e => (memberOf s e.1).isNone)).length > 16 then 1
  else if peer.any (fun e => (memberOf s e.1).isSome) then 2
  else if major != 0x02 then 3
  else 0

/-- An admission refused (R508): UP, with the reason and source 1197. -/
def refuseAdmit (p : PortId) (r : BitVec 3) (s : State) : State :=
  raiseSource 1197 (setPort p (fun o => { o with
    state := if o.state == 3 then 2 else o.state, admrej := r, admitSent := false, admitGot := none }) s)

/-- Both tables are there: refused, or accepted with the rest of the domain told (R508). -/
def decideAdmit (p : PortId) (s : State) : State :=
  let o := s.ports[p.val]
  match o.admitSent, o.admitGot with
  | true, some (t, major) =>
    let r := admitReason s t major
    if r != 0 then refuseAdmit p r s else tellDomain p 1 (t.map (fun e => (e.1, e.2 + 1))) s
  | _, _ => s

/-- CPL_CTL.ADMIT (R508). -/
def cplAdmit (p : PortId) (s : State) : State :=
  if s.ports[p.val].state != 2 then s
  else if !quiesceHeld s then refuseAdmit p 5 s
  else decideAdmit p (sendMgmt p 1 (tableBytes 0 (memberTable s)) (setPort p (fun o => { o with state := 3, admitSent := true }) s))

/-- The admission is complete (R508): the peer's nodes are members, the port COHERENT, EPOCH advanced, source 1196. -/
def admitDone (p : PortId) (s : State) : State :=
  let o := s.ports[p.val]
  match o.admitSent, o.admitGot with
  | true, some (t, major) =>
    if o.state != 3 || admitReason s t major != 0 then s
    else
      let s := t.foldl (fun s e => addMember p e s) s
      let s := setPort p (fun o => { o with state := 4, admitSent := false, admitGot := none }) { s with epoch := s.epoch + 1 }
      raiseSource 1196 (pumpPort p s)
  | _, _ => s

/-- CPL_CTL written (R506 to R510, R523): a port with EN = 0 goes DOWN. -/
def cplCtlWrite (p : PortId) (v : W32) (s : State) : State :=
  let mw := fieldOf v 1 2
  let s := setPort p (fun o => { o with en := bitOf v 0, maxw := if mw == 3 then o.maxw else mw }) s
  let s := if !bitOf v 0 && s.ports[p.val].state != 0 then portDown p s else s
  let b : BitVec 17 := (1 : BitVec 17) <<< (11 + p.val)
  let q := s.pwr.clkreq
  let q := if !isActive s || !s.hasPort p then q
    else if !bitOf v 0 then q &&& ~~~b
    else if bitOf s.pwr.clkack (11 + p.val) then q else q ||| b
  let s := { s with pwr := { s.pwr with clkreq := q } }
  let s := if bitOf v 8 then cplAdmit p s else s
  let s := if bitOf v 9 then cplDepart p s else s
  if bitOf v 10 then startRetrain p s else s

end Sys2Proof.Machine
end

