-- ==== Sys2Proof/Machine/TmeSend.lean ====
section
/-!
DEFINITION. Machine/TmeSend.lean: the transmit ring of the train message engine (R518).
-/
namespace Sys2Proof.Machine

/-- Slots of a ring (R523): 2^LOG2, at most 4,096. -/
def ringSlots (l : BitVec 4) : Nat := 2 ^ min l.toNat 12

/-- Whether [a, a + n) lies in local DRAM that is served. -/
def dramRange (s : State) (a n : Nat) : Bool :=
  (linesOf a n).all (fun l => dramServed s (l * 64))

/-- A write by the TME or the Gardener at a physical address of local DRAM: coherent, and logged in the physical log (R346, R450). -/
def physWrite (a : Nat) (d : List Byte) (s : State) : State :=
  let s := cohWrite s a (d.map some)
  (((linesOf a d.length).map (· / 64)).dedup).foldl (fun s p => logPhys s (p * 4096)) s

/-- The address of a slot of the transmit ring. -/
def txSlot (s : State) (i : BitVec 12) : Nat := localAddr s (s.tme.txbase.toNat + 32 * i.toNat)

/-- A descriptor completes (R518): word 2, TIMEBASE in word 3, then its source. -/
def descDone (i : BitVec 12) (code : Nat) (s : State) : State :=
  let a := txSlot s i
  let irq := ofLe (memRead s.mem a 8) / 65536 % 2 == 1
  let s := physWrite (a + 0x10) (leBytes 8 code ++ leBytes 8 s.sys.count.toNat) s
  if irq then raiseSource 1201 s else s

/-- One descriptor taken (R515, R518). -/
def takeDesc (s : State) : State :=
  let i := s.tme.txhead
  let a := txSlot s i
  let w0 := ofLe (memRead s.mem a 8)
  let src := localAddr s (ofLe (memRead s.mem (a + 8) 8) % 2 ^ 53)
  let n : BitVec 12 := BitVec.ofNat 12 w0
  let len := w0 / 2 ^ 32 % 65536
  let s := { s with tme := { s.tme with txhead := BitVec.ofNat 12 ((i.toNat + 1) % ringSlots s.tme.txsize) } }
  if (tmePeer s n).failed then descDone i 2 (countDrops 1 s)
  else if reachOf s n != .tme || len > 1024 || !dramRange s src len || (linesOf src len).any s.lineBad then descDone i 2 s
  else
    let (d, s) := cohRead s src len
    let s := closeFrame s
    tmeQueue { kind := 3, src := s.node, dst := n, len := len, data := d, desc := some i } s

/-- The descriptors up to TME_TXTAIL taken (R518), unless quiescing (R521). The ring has 2^LOG2 slots, so both indices count modulo that. -/
def takeDescs : Nat → State → State
  | 0, s => s
  | k + 1, s =>
    if !s.tme.en || s.tme.quiesce || s.tme.txhead.toNat % ringSlots s.tme.txsize == s.tme.txtail.toNat % ringSlots s.tme.txsize || !dramRange s (txSlot s s.tme.txhead) 32 then s
    else takeDescs k (takeDesc s)

/-- TME_TXTAIL written (R518). -/
def txtailWrite (v : W32) (s : State) : State :=
  takeDescs 4096 { s with tme := { s.tme with txtail := fieldOf v 0 12 } }

end Sys2Proof.Machine
end

