-- ==== Sys2Proof/Machine/Regs.lean ====
section
/-!
DEFINITION. Machine/Regs.lean: the block registers other than INTC and TMR (R26), with the access rules of each block, and the one
read and the one write that every master uses.
-/
namespace Sys2Proof.Machine

/-! ### SPM (R365, R371, R376, R389; WZ_REG_BASE + 0x030_0000) -/

/-- Whether a code of R363 may be written as the owner of bank `b` (R363, R365). -/
def ownerCodeOk (s : State) (b : BankId) (v : Nat) : Bool :=
  if h : v < 64 then s.hasCore ⟨v, h⟩ && regionOf ⟨v, h⟩ == bankRegion b && !(s.core ⟨v, h⟩).retired
  else if v < 0x44 then decide (v - 0x40 < s.build.regions)
  else if 0x48 ≤ v && v < 0x4E then decide (v - 0x48 < s.build.cpPorts)
  else v == 0x50 || v == 0x58 || v == 0xFF

/-- An accepted change of owner (R366). -/
def changeOwner (b : BankId) (v : Byte) (s : State) : State :=
  s.modBank b (fun k => if k.owner == v then k else { k with oldOwner := k.owner, owner := v, handoverDone := false })

/-- SPM_BANK_OWNER written (R365). -/
def bankOwnerWrite (m : Master) (b : BankId) (v : W32) (s : State) : State :=
  let k := s.banks[b.val]
  let code := fieldOf v 0 8
  let full := plOf m == 0
  let release : Bool := code == 0xFF && (match m with
    | .core c _ => k.owner == BitVec.ofNat 8 c.val
    | _ => false)
  if !full && !release then s
  else if k.handoverDone && k.owner != 0xFE && (release || ownerCodeOk s b code.toNat) then changeOwner b code s
  else raiseSource (1176 + (bankRegion b).val) (s.modBank b (fun k => { k with rej := true }))

/-- SPM_BANK_PWR written (R376, R379). -/
def bankPwrWrite (m : Master) (b : BankId) (v : W32) (s : State) : State :=
  let k := s.banks[b.val]
  let r := fieldOf v 0 2
  if plOf m != 0 || r == 3 then s
  else if k.owner == 0xFE && m != .gardener && m != .debug then s
  else s.modBank b (fun k => { k with
    req := r, pstate := if k.pstate == r then r else 3, fromOff := if k.pstate == 3 then k.fromOff else k.pstate == 2 })

/-- SPM_BANK_STAT as read (R388). A steal is one command, so TESTING reads 0. -/
def bankStat (k : Bank) : W32 :=
  BitVec.ofNat 32 ((if k.handoverDone then 1 else 0) + (if k.rej then 2 else 0) + (if k.ue then 4 else 0) +
    (if k.weedFault then 8 else 0) + k.pstate.toNat * 16)

/-- A mover channel is started (R382, R387). -/
def moverStart (m : Master) (n : Fin 16) (s : State) : State :=
  let k := s.movers[n.val]
  if k.state == 1 then s
  else
    let (agent, sl, s2) : Byte × BitVec 6 × Bool := match m with
      | .core c _ => (BitVec.ofNat 8 c.val, (s.core c).slice, true)
      | _ => (BitVec.ofNat 8 (0x40 + n.val / 4), 0, false)
    let d : Mover := { desc := k.desc, state := 1, agent := agent, slice := sl, s2 := s2, cur := k.desc }
    { s with movers := s.movers.set n.val d }

/-- SPM_MV_CMD.ABORT (R387, R389). -/
def moverAbort (m : Master) (n : Fin 16) (s : State) : State :=
  let k := s.movers[n.val]
  let allowed : Bool := match m with
    | .core c pl => pl == 0 || (decide (k.agent.toNat < 0x40) && k.slice == (s.core c).slice)
    | _ => true
  if !allowed then s
  else { s with movers := s.movers.set n.val (if k.state == 1 then { k with abortReq := true } else { k with abtres := 2 }) }

/-- SPM_MV_CMD written (R382, R387, R389). -/
def moverCmd (m : Master) (n : Fin 16) (v : W32) (s : State) : State :=
  let s := if bitOf v 0 then moverStart m n s else s
  if bitOf v 1 then moverAbort m n s else s

/-- SPM_MV_DESC written: ignored while BUSY (R389). -/
def moverDesc (n : Fin 16) (a : Nat) (s : State) : State :=
  let k := s.movers[n.val]
  if k.state == 1 then s else { s with movers := s.movers.set n.val { k with desc := BitVec.ofNat 53 a } }

/-- SPM_MV_STAT as read (R388). -/
def moverStat (k : Mover) : W32 :=
  BitVec.ofNat 32 (k.state.toNat + k.err.toNat * 4 + k.abtres.toNat * 32 + k.agent.toNat * 256 + k.slice.toNat * 65536 +
    (if k.s2 then 2 ^ 22 else 0))

/-- The region register set and the register in it that an SPM offset names (R369). -/
def rgnAt (o : Nat) : Option (Fin 24 × Nat) :=
  if h : 0x2000 ≤ o ∧ (o - 0x2000) / 0x100 < 3 ∧ (o - 0x2000) % 0x100 < 0x80 then
    some (⟨(o - 0x2000) / 0x100 * 8 + (o - 0x2000) % 0x100 / 0x10, by omega⟩, o % 0x10)
  else none

/-- Whether a master may write the sets of master `k` (R371). -/
def rgnWriter (m : Master) (k : Nat) : Bool := match k with
  | 0 => m == .gardener
  | 1 => m != .gardener && plOf m == 0
  | _ => m != .debug && plOf m == 0

/-- A region register written (R10, R369, R371): RWL until LOCK. -/
def RgnSet.write (k : RgnSet) (i : Nat) (v msk : W32) : RgnSet :=
  if bitOf k.perm 31 then k
  else match i with
    | 0 => { k with base := v &&& msk }
    | 4 => { k with limit := v &&& msk }
    | 8 => { k with perm := v &&& 0x8000_0007 }
    | _ => k

/-- The mover channel and the register that an SPM offset names (R388). -/
def moverAt (o : Nat) : Option (Fin 16 × Nat) :=
  if h : 0x4000 ≤ o ∧ o < 0x5000 then some (⟨(o - 0x4000) / 0x100, by omega⟩, o % 0x100) else none

/-- A bank register offset (R388). -/
def bankAt (o : Nat) : Option (BankId × Nat) := if h : o < 0x1000 then some (⟨o / 0x10, by omega⟩, o % 0x10) else none

/-- A read at an offset of the SPM registers (R388, R389). -/
def spmRead (m : Master) (o : Nat) (s : State) : W32 :=
  if plOf m ≥ 2 then 0
  else match bankAt o with
  | some (b, i) =>
    let k := s.banks[b.val]
    if !s.hasBank b then 0
    else match i with
      | 0 => k.owner.setWidth 32
      | 4 => bankStat k
      | 8 => k.req.setWidth 32
      | 12 => k.cecnt.setWidth 32
      | _ => 0
  | none =>
    match moverAt o with
    | some (n, i) =>
      let k := s.movers[n.val]
      if decide (n.val / 4 ≥ s.build.regions) then 0
      else match i with
        | 0x00 => lo32 k.desc | 0x04 => hi32 k.desc
        | 0x0C => moverStat k
        | 0x10 => k.rem
        | 0x14 => lo32 k.cur | 0x18 => hi32 k.cur
        | _ => 0
    | none =>
      if o == 0x1000 then BitVec.ofNat 32 ((if s.weeder.en then 1 else 0) + s.weeder.period.toNat * 65536)
      else if o == 0x1004 then s.weeder.pos.setWidth 32
      else if o == 0x1008 then s.weeder.fault
      else match rgnAt o with
        | some (i, f) =>
          let k := s.rgn[i.val]
          if plOf m != 0 then 0
          else match f with
            | 0 => k.base | 4 => k.limit | 8 => k.perm | _ => 0
        | none => 0

/-- SPM_WEED_CTL written by the Gardener (R375, R475). -/
def weedCtlWrite (v : W32) (s : State) : State :=
  { s with weeder := { s.weeder with en := bitOf v 0, period := fieldOf v 16 16 } }

/-- A write at an offset of the SPM registers (R365, R371, R375, R376, R389). -/
def spmRegWrite (m : Master) (o : Nat) (v : W32) (s : State) : State :=
  match bankAt o with
  | some (b, i) =>
    if !s.hasBank b then s
    else match i with
      | 0 => bankOwnerWrite m b v s
      | 4 => if plOf m != 0 then s else s.modBank b (fun k => { k with
          rej := k.rej && !bitOf v 1, ue := k.ue && !bitOf v 2, weedFault := k.weedFault && !bitOf v 3 })
      | 8 => bankPwrWrite m b v s
      | 12 => if plOf m != 0 then s else s.modBank b (fun k => { k with cecnt := fieldOf v 0 16 })
      | _ => s
  | none =>
    match moverAt o with
    | some (n, i) =>
      let k := s.movers[n.val]
      if decide (n.val / 4 ≥ s.build.regions) || plOf m ≥ 2 then s
      else match i with
        | 0x00 => moverDesc n (k.desc.toNat / 2 ^ 32 * 2 ^ 32 + v.toNat) s
        | 0x04 => moverDesc n (k.desc.toNat % 2 ^ 32 + v.toNat % 2 ^ 21 * 2 ^ 32) s
        | 0x08 => moverCmd m n v s
        | _ => s
    | none =>
      if o == 0x1000 then (if m == .gardener then weedCtlWrite v s else s)
      else match rgnAt o with
        | some (i, f) => if rgnWriter m (i.val / 8) then
            { s with rgn := s.rgn.set i.val (s.rgn[i.val].write f v 0x01FF_FFF0) } else s
        | none => s

/-! ### MC (R537; WZ_REG_BASE + 0x040_0000) -/

/-- The DRAM channel and register that an MC offset names (R537). -/
def mcAt (s : State) (o : Nat) : Option (McId × Nat) :=
  if h : o < 0x400 then (if o / 0x100 < s.build.mcChannels then some (⟨o / 0x100, by omega⟩, o % 0x100) else none) else none

/-- MC_CFG as read (R537). -/
def mcCfg (k : McChan) : W32 :=
  BitVec.ofNat 32 (k.dens.toNat + (if k.x8 then 4 else 0) + k.ranks.toNat * 8 + k.speed.toNat * 256 + k.cap.toNat * 65536)

/-- MC_STAT as read (R537). -/
def mcStat (k : McChan) : W32 :=
  BitVec.ofNat 32 (k.retired.toNat + k.present.toNat * 16 + (if k.training then 256 else 0) + (if k.selfref then 512 else 0))

/-- A read at an offset of the MC registers (R537). -/
def mcRead (m : Master) (o : Nat) (s : State) : W32 :=
  if plOf m != 0 then 0
  else if o == 0x1000 then (if s.ilv then 1 else 0)
  else if o == 0x1004 then s.scrub.setWidth 32
  else match mcAt s o with
    | some (c, i) =>
      let k := s.mc[c.val]
      match i with
      | 0x00 => mcCfg k
      | 0x04 => mcStat k
      | 0x08 => BitVec.ofNat 32 (k.cecnt.toNat + k.uecnt.toNat * 65536)
      | 0x0C => lo32 k.errAddr
      | 0x10 => hi32 k.errAddr ||| (if k.errUe then 0x8000_0000 else 0)
      | _ => 0
    | none => 0

/-- A write at an offset of the MC registers (R537). -/
def mcWrite (m : Master) (o : Nat) (v : W32) (s : State) : State :=
  if plOf m != 0 then s
  else if o == 0x1004 then (if m == .gardener then { s with scrub := fieldOf v 0 16 } else s)
  else match mcAt s o with
    | some (c, 0x08) => { s with mc := s.mc.set c.val { s.mc[c.val] with cecnt := fieldOf v 0 16, uecnt := fieldOf v 16 8 } }
    | _ => s

/-! ### CPL and TME (R523; WZ_REG_BASE + 0x050_0000 and 0x058_0000) -/

/-- The coupling port and register that a CPL offset names (R523). -/
def cplAt (s : State) (o : Nat) : Option (PortId × Nat) :=
  if h : o < 0x600 then (if o / 0x100 < s.build.cpPorts then some (⟨o / 0x100, by omega⟩, o % 0x100) else none) else none

/-- CPL_MEMBER as read (R523). Entry 0 names the complex itself (R509). -/
def memberWord (s : State) (i : Nat) : W32 :=
  match s.members[i]? with
  | some e =>
    let n := if i == 0 then s.node else e.node
    BitVec.ofNat 32 (n.toNat + (if e.valid then 2 ^ 15 else 0) + e.port.toNat * 2 ^ 16 + e.hops.toNat * 2 ^ 20)
  | none => 0

/-- A read at an offset of the CPL registers (R523). -/
def cplRead (o : Nat) (s : State) : W32 :=
  if o == 0x1000 then BitVec.ofNat 32 (memberCount s + s.epoch.toNat * 256)
  else if 0x1040 ≤ o && o < 0x1080 then memberWord s ((o - 0x1040) / 4)
  else match cplAt s o with
    | some (p, i) =>
      let k := s.ports[p.val]
      match i with
      | 0x00 => BitVec.ofNat 32 ((if k.en then 1 else 0) + k.maxw.toNat * 2)
      | 0x04 => BitVec.ofNat 32 (k.state.toNat + k.width.toNat * 16 + k.active.toNat * 256 + k.admrej.toNat * 65536)
      | 0x08 => BitVec.ofNat 32 (k.peer.toNat + (if k.peerValid then 4096 else 0) + k.peerVer.toNat * 65536)
      | 0x0C => BitVec.ofNat 32 (k.retired.toNat + k.locked.toNat * 256)
      | 0x10 => k.resend.setWidth 32
      | 0x14 => k.err.setWidth 32
      | _ => 0
    | none => 0

/-- A write at an offset of the CPL registers (R523). -/
def cplWrite (o : Nat) (v : W32) (s : State) : State :=
  match cplAt s o with
  | some (p, 0x00) => cplCtlWrite p v s
  | some (p, 0x10) => setPort p (fun k => { k with resend := fieldOf v 0 16 }) s
  | some (p, 0x14) => setPort p (fun k => { k with err := k.err &&& ~~~fieldOf v 0 4 }) s
  | _ => s

/-- QUIESCED becomes 1 when every outstanding frame is acknowledged or has failed (R521). -/
def tmeSettle (s : State) : State :=
  if s.tme.en && s.tme.quiesce && !s.tme.quiesced && s.tme.peers.all (fun p => p.out.isEmpty && p.wait.isEmpty) then
    raiseSource 1204 { s with tme := { s.tme with quiesced := true } }
  else s

/-- TME_CTL written (R513, R521, R523). -/
def tmeCtlWrite (v : W32) (s : State) : State :=
  let en := bitOf v 0
  let q := bitOf v 1
  let s := { s with tme := { s.tme with en := en, quiesce := q, quiesced := !en || (q && s.tme.quiesced) } }
  if en && q then tmeSettle (closeFrame s) else takeDescs 4096 s

/-- TME_TBX_CTL written (R522): a TBX_REQ goes out, stamped with TIMEBASE. -/
def tbxStart (v : W32) (s : State) : State :=
  let n := fieldOf v 0 12
  let s := { s with tme := { s.tme with tbxNode := n } }
  if bitOf v 16 && !bitOf s.tme.tbxStat 0 then
    let t1 := s.sys.count
    { s with tme := { s.tme with
      tbxStat := 1, tbxT1 := t1,
      lastTx := some { kind := 6, src := s.node, dst := n, len := 16, data := leBytes 8 t1.toNat ++ leBytes 8 0 } } }
  else s

/-- TME_FAIL_CLR written (R515): the next frame to the node carries RESET. -/
def failClr (v : W32) (s : State) : State :=
  let n := fieldOf v 0 12
  let p := tmePeer s n
  if p.failed then setTmePeer { p with failed := false, reset := true, tries := 0 } s else s

/-- A read at an offset of the TME registers (R523). -/
def tmeRead (o : Nat) (s : State) : W32 :=
  let t := s.tme
  match o with
  | 0x00 => BitVec.ofNat 32 ((if t.en then 1 else 0) + (if t.quiesce then 2 else 0))
  | 0x04 => BitVec.ofNat 32 ((if t.quiesced then 1 else 0) + min (accq s) 64 * 256)
  | 0x08 => t.etype.setWidth 32
  | 0x0C => BitVec.ofNat 32 (t.rto.toNat + t.retry.toNat * 65536)
  | 0x10 => lo32 t.macpfx | 0x14 => hi32 t.macpfx
  | 0x20 => lo32 t.txbase | 0x24 => hi32 t.txbase
  | 0x28 => t.txsize.setWidth 32 | 0x2C => t.txhead.setWidth 32 | 0x30 => t.txtail.setWidth 32
  | 0x40 => lo32 t.rxbase | 0x44 => hi32 t.rxbase
  | 0x48 => t.rxsize.setWidth 32 | 0x4C => t.rxhead.setWidth 32 | 0x50 => t.rxtail.setWidth 32
  | 0x60 => BitVec.ofNat 32 (t.failNode.toNat + t.failKind.toNat * 4096 + t.failDrops.toNat * 65536)
  | 0x64 => lo32 t.failAddr | 0x68 => hi32 t.failAddr
  | 0x70 => t.rxdrop.setWidth 32
  | 0x80 => BitVec.ofNat 32 (t.tbxNode.toNat + t.tbxStat.toNat * 2 ^ 17)
  | 0x84 => lo32 t.tbxDelta | 0x88 => hi32 t.tbxDelta
  | 0x8C => t.tbxRtt
  | o =>
    if 0x100 ≤ o && o < 0x180 then
      match t.win[(o - 0x100) / 0x10]?, o % 0x10 with
      | some w, 0 => w.base
      | some w, 4 => w.limit
      | some w, 8 => w.perm
      | _, _ => 0
    else if 0x400 ≤ o && o < 0x600 then fieldOf t.reach ((o - 0x400) / 4 * 32) 32
    else 0

/-- A write at an offset of the TME registers (R523). -/
def tmeWrite (o : Nat) (v : W32) (s : State) : State :=
  let t := s.tme
  let lo (w : Nat) (b : BitVec w) : BitVec w := BitVec.ofNat w (b.toNat / 2 ^ 32 * 2 ^ 32 + v.toNat / 4096 * 4096)
  let hi (w : Nat) (b : BitVec w) : BitVec w := BitVec.ofNat w (b.toNat % 2 ^ 32 + v.toNat * 2 ^ 32)
  match o with
  | 0x00 => tmeCtlWrite v s
  | 0x08 => { s with tme := { t with etype := fieldOf v 0 16 } }
  | 0x0C => { s with tme := { t with rto := fieldOf v 0 16, retry := fieldOf v 16 8 } }
  | 0x10 => { s with tme := { t with macpfx := lo 48 t.macpfx } }
  | 0x14 => { s with tme := { t with macpfx := hi 48 t.macpfx } }
  | 0x20 => { s with tme := { t with txbase := lo 53 t.txbase } }
  | 0x24 => { s with tme := { t with txbase := hi 53 t.txbase } }
  | 0x28 => { s with tme := { t with txsize := fieldOf v 0 4 } }
  | 0x30 => txtailWrite v s
  | 0x40 => { s with tme := { t with rxbase := lo 53 t.rxbase } }
  | 0x44 => { s with tme := { t with rxbase := hi 53 t.rxbase } }
  | 0x48 => { s with tme := { t with rxsize := fieldOf v 0 4 } }
  | 0x50 => { s with tme := { t with rxtail := fieldOf v 0 12 } }
  | 0x6C => failClr v s
  | 0x70 => { s with tme := { t with rxdrop := fieldOf v 0 16 } }
  | 0x80 => tbxStart v s
  | o =>
    if h : 0x100 ≤ o ∧ o < 0x180 then
      let i : Fin 8 := ⟨(o - 0x100) / 0x10, by omega⟩
      { s with tme := { t with win := t.win.set i.val (t.win[i.val].write (o % 0x10) v 0x0FFF_FFFF) } }
    else if 0x400 ≤ o && o < 0x600 then { s with tme := { t with reach := setField t.reach ((o - 0x400) / 4 * 32) 32 v.toNat } }
    else s

/-! ### SLC (R444; WZ_REG_BASE + 0x060_0000) -/

/-- SLC_CTL as read (R444). -/
def slcCtl (d : Slice) : W32 :=
  BitVec.ofNat 32 (d.state.toNat + (if d.s2en then 8 else 0) + d.qpol.toNat * 16 + (if d.logovf then 64 else 0) + d.dloglim.toNat * 65536)

/-- A descriptor register (R444). -/
def slcField (d : Slice) (i : Nat) : W32 :=
  match i with
  | 0x00 => slcCtl d
  | 0x04 => d.bw
  | 0x08 => lo32 d.cores | 0x0C => hi32 d.cores
  | 0x10 => lo32 d.groups | 0x14 => hi32 d.groups
  | 0x18 => lo32 d.tmrch | 0x1C => hi32 d.tmrch
  | 0x40 => lo32 d.s2root | 0x44 => hi32 d.s2root
  | 0x48 => lo32 d.heb | 0x4C => hi32 d.heb
  | 0x50 => lo32 d.dlog | 0x54 => hi32 d.dlog
  | 0x58 => if d.qwin then 1 else 0
  | i => if 0x20 ≤ i && i < 0x40 && i % 4 == 0 then fieldOf d.banks ((i - 0x20) / 4 * 32) 32 else 0

/-- A read at an offset of the SLC registers (R444). -/
def slcRead (m : Master) (o : Nat) (s : State) : W32 :=
  if h : o < 0x2000 then
    let n : SliceId := ⟨o / 0x80, by omega⟩
    let mine : Bool := match m with
      | .core c pl => pl == 1 && (s.core c).slice.toNat == n.val
      | _ => false
    if plOf m == 0 || mine then slcField s.slices[n.val] (o % 0x80) else 0
  else if plOf m != 0 then 0
  else match o with
    | 0x2000 => lo32 s.smgr.pidtab ||| (if s.smgr.pidtabEn then 1 else 0)
    | 0x2004 => hi32 s.smgr.pidtab
    | 0x2010 => lo32 s.smgr.plog
    | 0x2014 => hi32 s.smgr.plog
    | 0x2018 => BitVec.ofNat 32 ((if s.smgr.plogEn then 1 else 0) + (if s.smgr.plogOvf then 2 else 0))
    | _ => 0

/-- SLC_PIDINV written (R442, R444). -/
def pidInv (v : W32) (s : State) : State :=
  { s with smgr := { s.smgr with
    pidCache := if bitOf v 16 then [] else s.smgr.pidCache.filter (fun e => e.1 != fieldOf v 0 16) } }

/-- SLC_QWIN written (R444). -/
def qwinWrite (m : Master) (n : SliceId) (v : W32) (s : State) : State :=
  let may : Bool := match m with
    | .core c pl => pl == 0 || (pl == 1 && (s.core c).slice.toNat == n.val)
    | _ => true
  if may then s.modSlice n (fun d => { d with qwin := bitOf v 0 }) else s

/-- A write at an offset of the SLC registers (R444): SLC_QWIN and the global registers. -/
def slcWrite (m : Master) (o : Nat) (v : W32) (s : State) : State :=
  if h : o < 0x2000 then
    if o % 0x80 = 0x58 then qwinWrite m ⟨o / 0x80, by omega⟩ v s else s
  else if plOf m != 0 || m == .debug then s
  else match o with
    | 0x2000 => { s with smgr := { s.smgr with
        pidtabEn := bitOf v 0, pidtab := BitVec.ofNat 53 (s.smgr.pidtab.toNat / 2 ^ 32 * 2 ^ 32 + v.toNat / 2 ^ 17 * 2 ^ 17) } }
    | 0x2004 => { s with smgr := { s.smgr with
        pidtab := BitVec.ofNat 53 (s.smgr.pidtab.toNat % 2 ^ 32 + v.toNat % 2 ^ 21 * 2 ^ 32) } }
    | 0x2008 => pidInv v s
    | 0x2010 => { s with smgr := { s.smgr with
        plog := BitVec.ofNat 53 (s.smgr.plog.toNat / 2 ^ 32 * 2 ^ 32 + v.toNat / 2 ^ 12 * 2 ^ 12) } }
    | 0x2014 => { s with smgr := { s.smgr with
        plog := BitVec.ofNat 53 (s.smgr.plog.toNat % 2 ^ 32 + v.toNat % 2 ^ 21 * 2 ^ 32) } }
    | 0x2018 => { s with smgr := { s.smgr with plogEn := bitOf v 0, plogOvf := s.smgr.plogOvf && !bitOf v 1 } }
    | _ => s

/-! ### GDN (R461 to R467, R494; WZ_REG_BASE + 0x000_0000) -/

/-- Whether a master has a queue's registers (R461). -/
def queueMaster (m : Master) (q : Nat) : Bool := match q, m with
  | 0, .host => true
  | 1, .core _ pl => pl == 0
  | 2, .debug => true
  | _, _ => false

/-- The 16-bit field of a packet at an offset. -/
def pktField (l : List Byte) (o n : Nat) : Nat := ofLe ((l.drop o).take n)

/-- OPCODE of a command (R469). -/
def GCmd.opcode (c : GCmd) : Nat := pktField c.pkt 0 2
/-- LEN of a command. -/
def GCmd.len (c : GCmd) : Nat := pktField c.pkt 3 1
/-- SEQ of a command. -/
def GCmd.seq (c : GCmd) : Nat := pktField c.pkt 4 2

/-- Whether a reply is ready (R465). -/
def GCmd.isReady (c : GCmd) : Bool := match c.st with
  | .ready _ _ _ _ => true
  | _ => false

/-- GDN_REPLY as bytes (R465, R470). -/
def replyBytes (q : GQueue) : List Byte :=
  match q.slots.head? with
  | none => leBytes 2 1 ++ leBytes 2 0 ++ [0, 1] ++ List.replicate 250 0
  | some c =>
    let head (st exec len tdone : Nat) : List Byte :=
      leBytes 2 st ++ leBytes 2 c.seq ++ leBytes 1 len ++ leBytes 1 (exec * 2) ++ leBytes 2 c.opcode ++ leBytes 8 tdone
    match c.st with
    | .posted => head 1 0 0 0
    | .executing => head 1 1 0 0
    | .ready st p ex td => head st.toNat (if ex then 1 else 0) p.length td.toNat ++ p.flatMap (fun w => leBytes 8 w.toNat)

/-- GDN_QSTAT as read (R494). -/
def qstat (q : GQueue) : W32 :=
  BitVec.ofNat 32 (16 - q.slots.length + (if q.rej then 32 else 0) + (if q.badack then 64 else 0) + q.lastseq.toNat * 65536)

/-- State with a queue changed. -/
def State.modQueue (s : State) (i : Fin 4) (f : GQueue → GQueue) : State :=
  { s with gdn := { s.gdn with q := s.gdn.q.set i.val (f s.gdn.q[i.val]) } }

/-- GDN_POST (R462). -/
def gdnPost (i : Fin 4) (s : State) : State :=
  s.modQueue i (fun q =>
    if q.slots.length ≥ 16 then { q with rej := true }
    else
      let b := q.req.toList.flatMap (fun w => leBytes 4 w.toNat)
      let n := pktField b 3 1
      let pkt := b.take (if n > 30 then 16 else 16 + 8 * n)
      { q with slots := q.slots ++ [{ pkt := pkt }], lastseq := BitVec.ofNat 16 (pktField b 4 2) })

/-- GDN_REPLY_ACK (R466). -/
def gdnAck (i : Fin 4) (v : W32) (s : State) : State :=
  s.modQueue i (fun q => match q.slots with
    | c :: t => if c.isReady && c.seq == v.toNat % 65536 then { q with slots := t } else { q with badack := true }
    | [] => { q with badack := true })

/-- Whether a master has the attention registers (R494). -/
def attnMaster : Master → Bool
  | .core _ pl => pl == 0
  | .host | .debug => true
  | _ => false

/-- GDN_CAUSE of a subsystem (R484, R494). -/
def causeWord (s : State) (k : Nat) : W32 :=
  wordBits (fun j => decide (j < 16) && (match s.gdn.leaves[k * 16 + j]? with
    | some l => l.set
    | none => false))

/-- GDN_ATTN_SUMMARY (R484, R494). -/
def attnSummary (s : State) : W32 := wordBits (fun k => decide (k < 12) && causeWord s k != 0)

/-- wz_attn (R484). -/
def attnPin (s : State) : Bool := attnSummary s != 0

/-- A leaf as read (R494). -/
def leafWord (l : Leaf) : W32 := BitVec.ofNat 32 ((if l.set then 1 else 0) + l.count.toNat * 2 + l.unit.toNat * 65536)

/-- A leaf's register and index (R494). -/
def leafAt (o : Nat) : Option (Fin 192) :=
  if h : 0x1200 ≤ o ∧ o < 0x1500 then some ⟨(o - 0x1200) / 4, by omega⟩ else none

/-- A write of a leaf (R484). -/
def leafClear (m : Master) (i : Fin 192) (v : W32) (s : State) : State :=
  if attnMaster m && bitOf v 0 then
    { s with gdn := { s.gdn with leaves := s.gdn.leaves.set i.val { s.gdn.leaves[i.val] with set := false, count := 0 } } }
  else s

/-- A queue and the offset in its registers (R494). -/
def queueAt (o : Nat) : Option (Fin 4 × Nat) := if h : o < 0x1000 then some (⟨o / 0x400, by omega⟩, o % 0x400) else none

/-- A read at an offset of the GDN registers (R461, R465, R494). -/
def gdnRead (m : Master) (o : Nat) (s : State) : W32 :=
  match queueAt o with
  | some (i, r) =>
    let q := s.gdn.q[i.val]
    if !queueMaster m i.val then 0
    else if r < 0x100 then (q.req[r / 4]?).getD 0
    else if r == 0x104 then qstat q
    else if 0x200 ≤ r && r < 0x300 then BitVec.ofNat 32 (pktField (replyBytes q) (r - 0x200) 4)
    else 0
  | none =>
    if !attnMaster m then 0
    else if o == 0x1000 then attnSummary s
    else if 0x1100 ≤ o && o < 0x1130 then causeWord s ((o - 0x1100) / 4)
    else match leafAt o with
      | some i => leafWord s.gdn.leaves[i.val]
      | none => 0

/-- A write at an offset of the GDN registers (R461, R462, R466, R484, R494). -/
def gdnWrite (m : Master) (o : Nat) (v : W32) (s : State) : State :=
  match queueAt o with
  | some (i, r) =>
    if !queueMaster m i.val then s
    else if h : r < 0x100 then s.modQueue i (fun q => { q with req := q.req.set (r / 4) v (by omega) })
    else if r = 0x100 then (if bitOf v 0 then gdnPost i s else s)
    else if r = 0x104 then s.modQueue i (fun q => { q with rej := q.rej && !bitOf v 5, badack := q.badack && !bitOf v 6 })
    else if r = 0x300 then gdnAck i v s
    else s
  | none => match leafAt o with
    | some i => leafClear m i v s
    | none => s

/-! ### DBG and WZ_ID -/

/-- Whether a master has the DBG window (R313). -/
def dbgMaster (m : Master) : Bool := plOf m == 0

/-- A read at an offset of the DBG window (R313). -/
def dbgWinRead (m : Master) (o : Nat) (s : State) : W32 :=
  match dbgAt o with
  | some (c, n, hi) => if dbgMaster m && s.hasCore c then getHalf (dbgRead (s.core c) n) hi else 0
  | none => 0

/-- A write at an offset of the DBG window (R313). -/
def dbgWinWrite (m : Master) (o : Nat) (v : W32) (s : State) : State :=
  match dbgAt o with
  | some (c, n, hi) => if dbgMaster m && s.hasCore c then s.modCore c (fun k => dbgWriteHalf k n hi v) else s
  | none => s

/-- WZ_ID_VERSION (R2). -/
def idVersion : W32 := 0x0204_0000

/-- WZ_ID_CONFIG (R2, R3). -/
def idConfig (b : Build) : W32 :=
  BitVec.ofNat 32 (b.regions + (if b.wide then 16 else 0) + b.spmMb * 256 + b.mcChannels * 4096 + b.cpPorts * 65536 +
    (if b.irqIn = 256 then 0 else if b.irqIn = 512 then 1 else 2) * 2 ^ 20)

/-! ### Every register -/

/-- A read of the block register at an offset from WZ_REG_BASE (R9, R26). No read changes a value (R10). -/
def regRead (m : Master) (off : Nat) (s : State) : W32 :=
  let o := off % 0x10_0000
  if off % 4 != 0 then 0
  else match off / 0x10_0000 with
  | 0x0 => gdnRead m o s
  | 0x1 => intcRead m o s
  | 0x2 => tmrRead m o s
  | 0x3 => spmRead m o s
  | 0x4 => mcRead m o s
  | 0x5 => if plOf m ≥ 2 then 0 else if o < 0x8_0000 then cplRead o s else tmeRead (o - 0x8_0000) s
  | 0x6 => slcRead m o s
  | 0x7 => dbgWinRead m o s
  | 0xF => if o == 0 then idVersion else if o == 4 then idConfig s.build else 0
  | _ => 0

/-- A write of the block register at an offset from WZ_REG_BASE (R9, R10, R26). -/
def regWrite (m : Master) (off : Nat) (v : W32) (s : State) : State :=
  let o := off % 0x10_0000
  if off % 4 != 0 then s
  else match off / 0x10_0000 with
  | 0x0 => gdnWrite m o v s
  | 0x1 => intcWrite m o v s
  | 0x2 => tmrWrite m o v s
  | 0x3 => spmRegWrite m o v s
  | 0x4 => mcWrite m o v s
  | 0x5 => if plOf m != 0 then s else if o < 0x8_0000 then cplWrite o v s else tmeWrite (o - 0x8_0000) v s
  | 0x6 => slcWrite m o v s
  | 0x7 => dbgWinWrite m o v s
  | _ => s

/-- Whether an access waits because it names the timer block of a region in NAP (R431). -/
def regWaits (s : State) (off : Nat) : Bool :=
  if off / 0x10_0000 == 2 then (match tmrRegionAt (off % 0x10_0000) with
    | some r => s.hasRegion r && (s.region r).state == 2
    | none => false)
  else false

end Sys2Proof.Machine
end

