-- ==== Sys2Proof/Machine/CoreMonad.lean ====
section
/-!
DEFINITION. Machine/CoreMonad.lean: how a core's instruction runs: over State, stopping early with a Stop. A Stop discards every
change but TLB fills (R37: a precise fault changes no state; R333).
-/
namespace Sys2Proof.Machine

/-- What an event records (R293, R299). -/
structure FaultInfo where
  /-- Cause code (R293). -/
  cause : Nat
  /-- FADDR. -/
  faddr : Word := 0
  /-- FADDR2. -/
  faddr2 : Nat := 0
  /-- DETAIL. -/
  detail : Byte := 0
  /-- EIDX (R211). -/
  eidx : Byte := 0xFF
  /-- A breakpoint: FLAGS.BPSKIP (R315). -/
  bp : Bool := false
  /-- Breakpoints that matched: bits 3:0 instruction, bits 5:4 data (R312). -/
  hits : Byte := 0
  deriving DecidableEq, Repr

/-- A read or atomic that must leave the complex before the instruction can go on. -/
structure ExtAsk where
  /-- Physical address. -/
  addr : Nat
  /-- Bytes. -/
  len : Nat
  /-- Operation of R503: 0 shared, 1 exclusive, 2 uncached, 5 atomic, 6 upgrade; 7: the home's own snoop of remote copies (a length of 65 asks that they go);
  8: an instruction fetch. -/
  op : Nat
  /-- Atomic code and operands. -/
  atom : Option (Nat × Word × Word) := none
  deriving DecidableEq, Repr

/-- Why an instruction does not complete in this step. -/
inductive Stop
  /-- An event is taken at the instruction (R293). -/
  | event (f : FaultInfo)
  /-- The instruction waits, with nothing changed. -/
  | stall
  /-- A request leaves the complex, and the instruction waits for its answer. -/
  | ask (r : ExtAsk)
  /-- A machine check of R267, R339, R362 or R529: MCCAUSE, physical address, and whether R267 holds it at the instruction. -/
  | mcheck (cause : Word) (pa : Nat) (held : Bool)
  /-- A breakpoint with ACTHALT = 1 (R317). -/
  | bpHalt (hits : Byte)
  /-- A window spill fault: AREA, whether the transfer becomes stuck, and the transfer (R166). -/
  | spill (ret : Bool) (mark : Bool) (st : Stuck) (direct : Bool)
  /-- A parity error: the core waits for the repair of a word (R269). -/
  | parity (table : Bool) (idx : Nat)
  deriving DecidableEq, Repr

/-- A computation of a core. -/
abbrev Op := EStateM Stop State

/-- The instruction being executed. -/
structure Ctx where
  /-- The core. -/
  c : CoreId
  /-- Address of the first byte (R68). -/
  pc : Word
  /-- Its bytes. -/
  bytes : List Byte
  /-- The instruction or iteration before it was a store into the youngest store-buffer entry (R229). -/
  merge : Bool := false
  deriving DecidableEq, Repr

/-- Address of the byte after the instruction (R119). -/
def Ctx.next (x : Ctx) : Word := x.pc + BitVec.ofNat 64 x.bytes.length

/-- Where execution goes when an instruction completes. -/
inductive Next
  /-- To the instruction after it. -/
  | seq
  /-- To this address. -/
  | jump (a : Word)
  /-- The instruction is not finished: it stays at its address with its progress kept (R134). -/
  | stay
  /-- The same, at a place that is no event point (R265, R266: a COMMIT with EVT = 0). -/
  | again
  /-- RETX: to this address, with the repeat and the breakpoint suppression it restored (R306). -/
  | resume (a : Word)
  /-- Completed, and then raises SYSCALL (0x20) or HYPCALL (0x21) with a code (R127). -/
  | call (cause : Nat) (code : Byte)
  deriving DecidableEq, Repr

/-- An event without further detail. -/
def raise {α : Type} (cause : Nat) : Op α := throw (.event { cause := cause })

/-- Cause codes of R293. -/
def cIL : Nat := 0x01
def cPV : Nat := 0x02
def cFD : Nat := 0x03
def cVD : Nat := 0x04
def cSB : Nat := 0x05
def cRS : Nat := 0x06
def cFU : Nat := 0x07
def cFO : Nat := 0x08
def cDV : Nat := 0x09
def cAL : Nat := 0x0A
def cRA : Nat := 0x0F
def cAT : Nat := 0x10
def cGT : Nat := 0x11
def cBE : Nat := 0x12
def cWS : Nat := 0x13
def cSA : Nat := 0x14
def cRP : Nat := 0x15

/-- The illegal-instruction fault unless `b` (R69). -/
def legal (b : Bool) : Op Unit := if b then pure () else raise cIL

/-- The core. -/
def core (c : CoreId) : Op Core := do return (← get).core c
/-- The core changed. -/
def updCore (c : CoreId) (f : Core → Core) : Op Unit := modify (fun s => s.modCore c f)

/-- CSTAT.PL (R49). -/
def Core.pl (k : Core) : BitVec 2 := fieldOf k.cstat 0 2
/-- CSTAT.ML (R50). -/
def Core.ml (k : Core) : Nat := (fieldOf k.cstat 2 3).toNat
/-- CSTAT.MET (R238). -/
def Core.met (k : Core) : Bool := bitOf k.cstat 5
/-- CSTAT.VEN (R59). -/
def Core.ven (k : Core) : Bool := bitOf k.cstat 6
/-- CSTAT.FEN (R52). -/
def Core.fen (k : Core) : Bool := bitOf k.cstat 7
/-- CSTAT.SSTEP (R316). -/
def Core.sstep (k : Core) : Bool := bitOf k.cstat 8
/-- WINSTAT.TRAPW (R170). -/
def Core.trapw (k : Core) : Bool := k.trapWin.isSome
/-- WINSTAT.DFW (R171). -/
def Core.dfw (k : Core) : Bool := k.dfWin.isSome

/-- The privileged-operation fault from a level less privileged than `lim` (R49). -/
def needPl (c : CoreId) (lim : Nat) : Op Unit := do
  if (← core c).pl.toNat ≤ lim then pure () else raise cPV

/-- The operand depth of the ring's stack (R151, R162). -/
def OpStk.depth (k : OpStk) : Nat := 16 * k.spilled - k.cut + k.ring.length
/-- Blocks held in the ring: WINSTAT.OCC (R151). -/
def OpStk.occ (k : OpStk) : Nat := if k.ring.isEmpty then 0 else (k.depth - 1) / 16 - k.spilled + 1
/-- The return depth of the ring's stack (R153, R162). -/
def RetStk.depth (k : RetStk) : Nat := 8 * k.spilled - k.cut + k.ring.length
/-- Segments held in the ring: WINSTAT.RSOCC (R153). -/
def RetStk.occ (k : RetStk) : Nat := if k.ring.isEmpty then 0 else (k.depth - 1) / 8 - k.spilled + 1

/-- The reserved window that the code runs on, if any (R170, R171). -/
def Core.win (k : Core) : Option Win := match k.dfWin with
  | some w => some w
  | none => k.trapWin

/-- The core with the reserved window it runs on replaced. -/
def Core.setWin (k : Core) (w : Win) : Core := match k.dfWin with
  | some _ => { k with dfWin := some w }
  | none => { k with trapWin := some w }

/-- Operand depth as the running code sees it. -/
def Core.depth (k : Core) : Nat := match k.win with
  | some w => w.ops.length
  | none => k.stk.depth
/-- Frame base as the running code sees it (R37). -/
def Core.fbase (k : Core) : Nat := match k.win with
  | some w => w.fbase
  | none => k.stk.fbase
/-- The depth of the current frame (R37). -/
def Core.frame (k : Core) : Nat := k.depth - k.fbase
/-- Return depth as the running code sees it. -/
def Core.rdepth (k : Core) : Nat := match k.win with
  | some w => w.rets.length
  | none => k.rstk.depth
/-- Return floor as the running code sees it (R304). -/
def Core.rfloor (k : Core) : Nat := match k.win with
  | some w => w.floor
  | none => k.rstk.floor

/-- The stack-bounds fault when the frame holds fewer than `n` entries (R37, R94). -/
def need (c : CoreId) (n : Nat) : Op Unit := do
  if n ≤ (← core c).frame then pure () else raise cSB

end Sys2Proof.Machine
end

