-- ==== Sys2Proof/Machine/Translate.lean ====
section
/-!
DEFINITION. Machine/Translate.lean: the two translation stages (R319 to R335).
-/
namespace Sys2Proof.Machine

/-- What an access wants of a page (R330). -/
inductive Acc | fetch | load | store
  deriving DecidableEq, Repr

/-- A translated address. -/
structure Tr where
  /-- Physical address. -/
  pa : Nat
  /-- Guest-physical address (R450). -/
  gpa : Nat
  /-- NC at either stage (R326). -/
  nc : Bool
  /-- X = 1 at both stages (R340). -/
  x : Bool
  deriving DecidableEq, Repr

/-- A descriptor's fields (R322). -/
structure Desc where
  v : Bool
  t : Bool
  w : Bool
  x : Bool
  u : Bool
  g : Bool
  nc : Bool
  c : Bool
  oa : Nat
  hi : Nat
  deriving DecidableEq, Repr

/-- A descriptor read from its eight bytes (R322). -/
def descOf (d : Word) : Desc :=
  { v := bitOf d 0, t := bitOf d 1, w := bitOf d 2, x := bitOf d 3, u := bitOf d 4, g := bitOf d 5, nc := bitOf d 6,
    c := bitOf d 7, oa := (fieldOf d 12 41).toNat * 4096, hi := (fieldOf d 53 11).toNat }

/-- Address bits below the index of a level (R321): 39, 30, 21, 12. -/
def levelBits (l : Nat) : Nat := 39 - 9 * l

/-- Whether a valid descriptor read at level `l` for input `a` makes the walk fault (R323). -/
def descFaults (d : Desc) (l a : Nat) : Bool :=
  !d.v || (l == 0 && !d.t) || (l == 3 && !d.t) || d.hi != 0 ||
  (l == 1 && !d.t && d.oa % 2 ^ 30 != 0) || (l == 2 && !d.t && d.oa % 2 ^ 21 != 0) ||
  (l == 3 && d.t && d.c && d.oa / 4096 % 16 != a / 4096 % 16)

/-- Whether a descriptor is a table descriptor at level `l` (R322). -/
def descIsTable (d : Desc) (l : Nat) : Bool := decide (l < 3) && d.t

/-- log2 of the range of a leaf at level `l` (R321, R324). -/
def leafBits (d : Desc) (l : Nat) : Nat := if l == 3 && d.c then 16 else levelBits l

/-- Data read by a walk: local DRAM below installed capacity or a bank the core owns (R332). `none`: a translation fault. -/
def walkRead (c : CoreId) (pa : Nat) : Op (Option Word) := do
  let s ← get
  match target s pa with
  | .dram a =>
    if remoteHolds s (a / 64) false then throw (.ask { addr := a / 64 * 64, len := 64, op := 7 })
    else if s.isPoisoned (a / 64) then throw (.mcheck 0x06 pa true)
    else if a / 64 ∈ s.pattern || a / 64 ∈ s.dramUe then throw (.mcheck 0x08 pa true)
    else if a / 64 ∈ s.lostLines then throw (.event { cause := cBE, faddr2 := pa })
    else
      set (fillL2 s (clusterOf c) (a / 64))
      return some (wordOfLe (memRead s.mem a 8))
  | .spm b a =>
    let k := s.banks[b.val]
    if k.owner != BitVec.ofNat 8 c.val then return none
    else if k.req != 0 then return none
    else if k.pstate != 0 || !k.handoverDone then throw .stall
    else if (spmFirstUe s a 8).isSome then throw (.mcheck 0x07 (alignDown pa 8) true)
    else
      set (spmNoteCe s b a 8)
      return some (wordOfLe (memRead s.mem a 8))
  | _ => return none

/-- A stage-2 leaf, as found. -/
structure Leaf2 where
  pa : Nat
  bits : Nat
  w : Bool
  x : Bool
  nc : Bool
  deriving DecidableEq, Repr

/-- Whether a TLB entry covers an input address. -/
def TlbEntry.covers (e : TlbEntry) (a : Nat) : Bool := a / 2 ^ e.bits == e.inp / 2 ^ e.bits

/-- The smaller of two candidate entries (R335). -/
def pickSmaller (l : List TlbEntry) : Option TlbEntry :=
  l.foldl (fun best e => match best with
    | some b => if e.bits < b.bits then some e else some b
    | none => some e) none

/-- The set of an L2 TLB entry (R334). -/
def TlbEntry.set (e : TlbEntry) : Nat := e.inp / 2 ^ e.bits % 256

/-- Whether two entries carry the same tags and range. -/
def TlbEntry.same (a b : TlbEntry) : Bool :=
  a.kind == b.kind && a.slice == b.slice && a.pid == b.pid && a.glob == b.glob && a.bits == b.bits && a.inp == b.inp

/-- The L2 TLB with an entry added as most recently used: 4 ways in each of 256 sets (R334). -/
def l2tlbAdd (l : List TlbEntry) (e : TlbEntry) : List TlbEntry :=
  let l := l.filter (fun x => !x.same e)
  if (l.filter (fun x => x.set == e.set)).length < 4 then e :: l
  else match pluck (fun x => x.set == e.set) l.reverse with
    | some (_, r) => e :: r.reverse
    | none => e :: l

/-- A fully associative TLB of `n` entries with an entry added as most recently used; a reserved entry is not replaced (R334). -/
def tlbAdd (n : Nat) (l : List TlbEntry) (e : TlbEntry) : List TlbEntry :=
  let l := l.filter (fun x => !x.same e)
  if l.length < n then e :: l
  else match pluck (fun x => !x.rsv) l.reverse with
    | some (_, r) => e :: r.reverse
    | none => l

/-- The DTLB with an entry added (R213, R334): the instruction that holds a reservation fills its 16 entries, and every other access
the remaining 32. -/
def dtlbAdd (k : Core) (e : TlbEntry) : List TlbEntry := match k.vgs with
  | none => tlbAdd 48 k.dtlb e
  | some _ =>
    let mine := k.dtlb.filter (fun x => x.rsv)
    let rest := k.dtlb.filter (fun x => !x.rsv)
    if k.vgsOn then ((({ e with rsv := true } : TlbEntry) :: mine.filter (fun x => !x.same e)).take 16) ++ rest
    else mine ++ tlbAdd 32 rest e

/-- An entry moved to the front of a TLB. -/
def tlbTouch (l : List TlbEntry) (e : TlbEntry) : List TlbEntry := e :: l.filter (· != e)

/-- The stage-2 leaf for a guest-physical address, by the L2 TLB or a walk from the slice's root (R321 to R324, R331).
`Except.error` is a stage-2 translation fault. New entries are returned, and entered only when the whole walk succeeds (R333). -/
def stage2 (c : CoreId) (slice : BitVec 6) (gpa : Nat) : Op (Option (Leaf2 × List TlbEntry)) := do
  let s ← get
  let k := s.core c
  let sl := s.slice slice
  if !sl.s2en then return some ({ pa := gpa, bits := 53, w := true, x := true, nc := false }, [])
  match pickSmaller (k.l2tlb.filter (fun e => e.kind == .stage2 && e.slice == slice && e.covers gpa)) with
  | some e =>
    updCore c (fun k => { k with l2tlb := tlbTouch k.l2tlb e })
    return some ({ pa := e.pa + gpa % 2 ^ e.bits, bits := e.bits, w := e.w2, x := e.x2, nc := e.nc }, [])
  | none =>
    let rec walk (table : Nat) : Nat → Nat → Op (Option (Leaf2 × List TlbEntry))
      | 0, _ => return none
      | fuel + 1, l => do
        let idx := if l = 0 then gpa / 2 ^ 39 % 16384 else gpa / 2 ^ levelBits l % 512
        match (← walkRead c (table + idx * 8)) with
        | none => return none
        | some w =>
          let d := descOf w
          if descFaults d l gpa then return none
          else if descIsTable d l then walk d.oa fuel (l + 1)
          else
            let b := leafBits d l
            let base := d.oa / 2 ^ b * 2 ^ b
            let e : TlbEntry := { kind := .stage2, slice := slice, pid := 0, glob := true, bits := b, inp := gpa / 2 ^ b * 2 ^ b,
                                  gpa := 0, pa := base, w1 := true, x1 := true, u1 := true, w2 := d.w, x2 := d.x, nc := d.nc }
            return some ({ pa := base + gpa % 2 ^ b, bits := b, w := d.w, x := d.x, nc := d.nc }, [e])
    walk sl.s2root.toNat 4 0

/-- The cause of a translation fault of a stage for an access (R293). -/
def trCause (stage : Nat) (a : Acc) : Nat :=
  match stage, a with
  | 1, .fetch => 0x0B
  | 1, _ => 0x0C
  | _, .fetch => 0x0D
  | _, _ => 0x0E

/-- A translation fault of stage 1. -/
def fault1 {α : Type} (a : Acc) (va : Word) : Op α := throw (.event { cause := trCause 1 a, faddr := va })
/-- A translation fault of stage 2 at a guest-physical address. -/
def fault2 {α : Type} (a : Acc) (va : Word) (gpa : Nat) : Op α :=
  throw (.event { cause := trCause 2 a, faddr := va, faddr2 := gpa })

/-- Whether a stage-1 leaf allows an access (R330). -/
def stage1Allows (k : Core) (a : Acc) (w x u : Bool) : Bool :=
  (k.pl.toNat < 2 || u) && (match a with | .fetch => x | .load => true | .store => w)

/-- The permission checks of R330 on an entry, stage 1 first. -/
def permCheck (k : Core) (a : Acc) (va : Word) (e : TlbEntry) : Op Unit := do
  let ok1 := stage1Allows k a e.w1 e.x1 e.u1
  let ok2 := match a with | .fetch => e.x2 | .load => true | .store => e.w2
  if !ok1 then fault1 a va
  else if !ok2 then fault2 a va (e.gpa + va.toNat % 2 ^ e.bits)
  else pure ()

/-- The result of an entry for an address. -/
def trOf (e : TlbEntry) (va : Word) : Tr :=
  { pa := e.pa + va.toNat % 2 ^ e.bits, gpa := e.gpa + va.toNat % 2 ^ e.bits, nc := e.nc, x := e.x1 && e.x2 }

/-- The stage-1 leaf walk of R331: the combined entry for `va` and the entries to enter. -/
def stage1 (c : CoreId) (a : Acc) (va : Word) : Op (TlbEntry × List TlbEntry) := do
  let s ← get
  let k := s.core c
  let pid := fieldOf k.pid 0 16
  let mk (b base gpa pa : Nat) (d : Desc) (f : Leaf2) : TlbEntry :=
    { kind := .combined, slice := k.slice, pid := pid, glob := d.g, bits := b, inp := base, gpa := gpa, pa := pa,
      w1 := d.w, x1 := d.x, u1 := d.u, w2 := f.w, x2 := f.x, nc := d.nc || f.nc }
  let leaf (d : Desc) (b : Nat) (es : List TlbEntry) : Op (TlbEntry × List TlbEntry) := do
    let gpa := d.oa / 2 ^ b * 2 ^ b + va.toNat % 2 ^ b
    if !stage1Allows k a d.w d.x d.u then fault1 a va
    match (← stage2 c k.slice gpa) with
    | none => fault2 a va gpa
    | some (f, es2) =>
      let m := min b f.bits
      return (mk m (va.toNat / 2 ^ m * 2 ^ m) (gpa / 2 ^ m * 2 ^ m) (f.pa / 2 ^ m * 2 ^ m) d f, es ++ es2)
  if !bitOf k.ptroot 0 then
    leaf { v := true, t := true, w := true, x := true, u := true, g := false, nc := false, c := false, oa := 0, hi := 0 } 53 []
  else
    let rec walk (table : Nat) (es : List TlbEntry) : Nat → Nat → Op (TlbEntry × List TlbEntry)
      | 0, _ => fault1 a va
      | fuel + 1, l => do
        let da := table + va.toNat / 2 ^ levelBits l % 512 * 8
        match (← stage2 c k.slice da) with
        | none => fault2 a va table
        | some (f, es2) =>
          match (← walkRead c f.pa) with
          | none => fault1 a va
          | some w =>
            let d := descOf w
            if descFaults d l va.toNat then fault1 a va
            else if descIsTable d l then
              let e : TlbEntry := { kind := .table (l + 1), slice := k.slice, pid := pid, glob := false, bits := levelBits l,
                                    inp := va.toNat / 2 ^ levelBits l * 2 ^ levelBits l, gpa := d.oa, pa := d.oa,
                                    w1 := true, x1 := true, u1 := true, w2 := true, x2 := true, nc := false }
              walk d.oa (es ++ es2 ++ [e]) fuel (l + 1)
            else leaf d (leafBits d l) (es ++ es2)
    let held := k.l2tlb.filter (fun e => e.slice == k.slice && e.pid == pid && e.covers va.toNat &&
      (match e.kind with | .table _ => true | _ => false))
    match pickSmaller held with
    | some e => match e.kind with
      | .table l => walk e.gpa [] (4 - l) l
      | _ => walk ((fieldOf k.ptroot 12 41).toNat * 4096) [] 4 0
    | none => walk ((fieldOf k.ptroot 12 41).toNat * 4096) [] 4 0

/-- Translation of a virtual address for an access (R319, R320, R330 to R335). -/
def translate (c : CoreId) (a : Acc) (va : Word) : Op Tr := do
  let s ← get
  let k := s.core c
  let en := bitOf k.ptroot 0
  let pid := fieldOf k.pid 0 16
  if en && (sx (fieldOf va 0 48) != va) then fault1 a va
  else if !en && (fieldOf va 53 11 != 0) then fault1 a va
  else if !en && !(s.slice k.slice).s2en then return { pa := va.toNat, gpa := va.toNat, nc := false, x := true }
  else
    let hit (e : TlbEntry) : Bool :=
      e.kind == .combined && e.slice == k.slice && (e.pid == pid || e.glob) && e.covers va.toNat
    let isF := a == .fetch
    match pickSmaller ((if isF then k.itlb else k.dtlb).filter (fun e => hit e && (!e.rsv || k.vgsOn))) with
    | some e =>
      permCheck k a va e
      updCore c (fun k => if isF then { k with itlb := tlbTouch k.itlb e } else { k with dtlb := tlbTouch k.dtlb e })
      return trOf e va
    | none =>
      match pickSmaller (k.l2tlb.filter hit) with
      | some e =>
        permCheck k a va e
        updCore c (fun k => { k with l2tlb := tlbTouch k.l2tlb e })
        updCore c (fun k => if isF then { k with itlb := tlbAdd 32 k.itlb e } else { k with dtlb := dtlbAdd k e })
        return trOf e va
      | none =>
        let (e, es) ← stage1 c a va
        permCheck k a va e
        updCore c (fun k => { k with l2tlb := (es ++ [e]).foldl l2tlbAdd k.l2tlb })
        updCore c (fun k => if isF then { k with itlb := tlbAdd 32 k.itlb e } else { k with dtlb := dtlbAdd k e })
        return trOf e va

end Sys2Proof.Machine
end

