-- ==== Sys2Proof/Machine/Access.lean ====
section
/-!
DEFINITION. Machine/Access.lean: a core's loads, stores and fetches: the checks in the order of R95, data breakpoints (R314),
the store buffer (R229 to R232), and performing an access at its target (R326 to R329).
-/
namespace Sys2Proof.Machine

/-- An access's part in one page, translated. -/
structure Part where
  va : Word
  len : Nat
  tr : Tr
  deriving DecidableEq, Repr

/-- The parts of an access by page, lower page first (R109). -/
def splitPages (va : Word) (n : Nat) : List (Word × Nat) :=
  let r := 4096 - va.toNat % 4096
  if n ≤ r then [(va, n)] else [(va, r), (va + BitVec.ofNat 64 r, n - r)]

/-- How an access uses memory. -/
inductive Use | fetch | load | store | atomic
  deriving DecidableEq, Repr

/-- The descriptor bits an access needs (R330). -/
def Use.acc : Use → Acc
  | .fetch => .fetch
  | .load => .load
  | _ => .store

/-- A fault with the virtual and the physical address (R293). -/
def faultAt {α : Type} (cause : Nat) (va : Word) (pa : Nat) : Op α :=
  throw (.event { cause := cause, faddr := va, faddr2 := pa })

/-- A core's access to a local bank (R364, R366, R376, R377): a bus error, or a wait, or nothing. -/
def checkBank (c : CoreId) (b : BankId) (va : Word) (pa : Nat) : Op Unit := do
  let k := (← get).banks[b.val]
  if k.owner != BitVec.ofNat 8 c.val then faultAt cBE va pa
  else if k.req != 0 then faultAt cBE va pa
  else if k.pstate != 0 || !k.handoverDone then throw .stall
  else pure ()

/-- The checks of R95 item 6 after translation: remote-access, atomic-target, then a bus error (R25, R111, R113, R122, R329, R356). -/
def checkTarget (c : CoreId) (u : Use) (p : Part) (total : Nat) : Op Unit := do
  let s ← get
  let pa := p.tr.pa
  match target s pa with
  | .bad => faultAt cBE p.va pa
  | .dram a =>
    if u != .store && (linesOf a p.len).any (fun l => l ∈ s.lostLines) then faultAt cBE p.va pa else pure ()
  | .spm b _ => checkBank c b p.va pa
  | .regs off =>
    if u == .fetch then faultAt cBE p.va pa
    else if u == .atomic then faultAt cAT p.va pa
    else if total != 4 || p.len != 4 || off % 4 != 0 then faultAt cBE p.va pa
    else if u == .load && regWaits s off then throw .stall
    else pure ()
  | .host _ => if u == .atomic then faultAt cAT p.va pa else pure ()
  | .board _ off =>
    if off < 0x40_0000_0000 then pure ()
    else if u == .fetch && decide (off < 0xD0_0000_0000) then faultAt cBE p.va pa
    else if u == .atomic then faultAt cAT p.va pa
    else pure ()
  | .leaving => throw .stall
  | .tme _ _ => if u == .store then pure () else faultAt cRA p.va pa

/-- Translation and checks of one access (R95 item 6, R109). An address of the complex's own DRAM or scratchpad is taken on by its local form
(R22). -/
def checkAccess (c : CoreId) (u : Use) (va : Word) (n : Nat) : Op (List Part) := do
  let ps ← (splitPages va n).mapM (fun (v, m) => do return ({ va := v, len := m, tr := ← translate c u.acc v } : Part))
  ps.forM (fun p => checkTarget c u p n)
  let s ← get
  return ps.map (fun p => { p with tr := { p.tr with pa := localAddr s p.tr.pa } })

/-- Whether data breakpoint `i` matches an access of bytes [va, va + n), and its first matching byte (R314). -/
def dbpMatch (k : Core) (i : Fin 2) (ld st : Bool) (va : Word) (n : Nat) : Option Word :=
  let cfg := fieldOf k.dbpcfg (8 * i.val) 6
  let kind := cfg.toNat % 4
  let ign := if cfg.toNat / 4 > 12 then 12 else cfg.toNat / 4
  let base := k.dbp[i.val].toNat / 2 ^ ign * 2 ^ ign
  let lo := max va.toNat base
  let hi := min (va.toNat + n) (base + 2 ^ ign)
  if bitOf k.dbgctl (4 + i.val) && ((ld && kind != 2) || (st && kind != 1)) && decide (lo < hi) then some (BitVec.ofNat 64 lo)
  else none

/-- The first byte of an access that either data breakpoint matches (R293, R314). -/
def dbpByte (k : Core) (ld st : Bool) (va : Word) (n : Nat) : Option Word :=
  match dbpMatch k 0 ld st va n, dbpMatch k 1 ld st va n with
  | some a, some b => some (if a.toNat ≤ b.toNat then a else b)
  | some a, none => some a
  | none, r => r

/-- The first matching byte of the lowest-addressed access of a list that matches (R95 item 7). -/
def dbpLowest (k : Core) (l : List (Word × Nat × Bool × Bool)) : Option (Word × Word) :=
  l.foldl (fun best x => match dbpByte k x.2.2.1 x.2.2.2 x.1 x.2.1, best with
    | none, b => b
    | some f, none => some (x.1, f)
    | some f, some (v, g) => if x.1.toNat < v.toNat || (x.1 == v && decide (f.toNat < g.toNat)) then some (x.1, f) else some (v, g)) none

/-- The data-breakpoint check of an instruction's accesses, those of `sts` being stores (R95 item 7, R297, R315, R317). -/
def dbpCheck (c : CoreId) (accs : List (Word × Nat)) (ld st : Bool) (eidx : Byte := 0xFF) (sts : List (Word × Nat) := []) : Op Unit := do
  let k ← core c
  let halt := bitOf k.dbgctl 6
  if k.bpSkip || (!halt && k.ml == 7) then pure ()
  else
    let l := accs.map (fun x => (x.1, x.2, ld, st)) ++ sts.map (fun x => (x.1, x.2, false, true))
    let hit (i : Fin 2) : Bool := l.any (fun x => (dbpMatch k i x.2.2.1 x.2.2.2 x.1 x.2.1).isSome)
    let hits : Byte := (if hit 0 then 0x10 else 0) ||| (if hit 1 then 0x20 else 0)
    if hits == 0 then pure ()
    else if halt then throw (.bpHalt hits)
    else throw (.event { cause := 0x19, faddr := ((dbpLowest k l).map Prod.snd).getD 0, bp := true, hits := hits, eidx := eidx })

/-! ### The store buffer -/

/-- The byte an entry holds at a physical address, if any. -/
def SbEntry.at? (e : SbEntry) (a : Nat) : Option Byte :=
  if e.addr ≤ a && decide (a < e.addr + 16) && e.mop.isNone then (e.bytes[a - e.addr]?).join else none

/-- Whether an entry holds any byte of [a, a + n). -/
def SbEntry.touches (e : SbEntry) (a n : Nat) : Bool := (List.range n).any (fun i => (e.at? (a + i)).isSome)

/-- The memory type of a translated address (R326). -/
def memType (s : State) (t : Tr) : MemType := match target s t.pa with
  | .dram _ => if t.nc then .uncached else .cacheable
  | .spm _ _ => .direct
  | .board _ off => if off < 0x40_0000_0000 then (if t.nc then .uncached else .cacheable)
      else if 0x80_0000_0000 ≤ off && decide (off < 0x80_0200_0000) then .direct else .device
  | .tme _ _ => .posted
  | _ => .device

/-- The home's snoops of the remote copies of a local line (R344): SNP_SHARE for a read, SNP_INV for a write. -/
def homeSnoop (s : State) (line : Nat) (write : Bool) : State :=
  match s.dir.find? (fun d => d.line == line) with
  | some d => d.holders.foldl (fun s n =>
      if s.cplWait.any (fun w => w.node == n && w.op / 32 == 2 && w.addr % 2 ^ 40 == line * 64) then s
      else boardSend .none (2 ^ 52 + n.toNat * 2 ^ 40 + line * 64) (if write then 64 else 65) [] 0 s) s
  | none => s

/-- Before DC.INV recalls a line that another complex may have modified: DRAM's copy is kept, so that what comes home is discarded (R341). -/
def keepCopy (s : State) (line : Nat) : State :=
  if s.dirty.any (fun d => d.line == line) then s
  else { s with dirty := { line := line, copy := memRead s.mem (line * 64) 64 } :: s.dirty }

/-- The cache operation of an entry performed (R341). -/
def performMop (s : State) (m : CacheMop) (addr : Nat) : State :=
  let line := addr / 64
  match m with
  | .dcClean => dcCleanLine s line
  | .dcInv => dcInvLine s line
  | .dcClinv => dcClinvLine s line
  | .icInv => icInvLine s line

/-- The first byte that an entry holds, as an address. -/
def SbEntry.first (e : SbEntry) : Nat := e.addr + (e.bytes.findIdx Option.isSome)

/-- A read whose line or word is bad stops as a machine check (R339, R343, R529): its MCCAUSE. -/
def badLine (s : State) (c : CoreId) (line : Nat) : Option Word :=
  if (.l1d c, line) ∈ s.poisoned then some 0x05
  else match s.poisoned.find? (fun p => p.2 == line) with
    | some (.l1d _, _) => some 0x05
    | some (.l2 _, _) => some 0x06
    | none => if line ∈ s.pattern || line ∈ s.dramUe then some 0x08 else none

/-- The oldest entry of core `c` reaches its C (R230, R348), or starts what its C awaits; the Bool says whether it left the buffer. -/
def drainOldest (s : State) (c : CoreId) : State × Bool :=
  match (s.core c).sb with
  | [] => (s, true)
  | e :: rest =>
    let pop (s : State) : State × Bool := (s.modCore c (fun k => { k with sb := rest }), true)
    let mark (s : State) : State × Bool := (s.modCore c (fun k => { k with sb := { e with sent := true } :: rest }), false)
    if e.sent then (s, false)
    else match e.mop with
    | some m =>
      if target s e.addr == .leaving then (s, false)
      else if remoteHolds s (e.addr / 64) (m != .dcClean) then
        (homeSnoop (if m == .dcInv then keepCopy s (e.addr / 64) else s) (e.addr / 64) (m != .dcClean), false)
      else pop (performMop s m e.addr)
    | none =>
      match target s e.addr with
      | .dram a =>
        if remoteHolds s (a / 64) true then (homeSnoop s (a / 64) true, false)
        else if s.isPoisoned (a / 64) then
          pop (addMcheck c { cause := (badLine s c (a / 64)).getD 0x05, pa := a / 64 * 64 } s)
        else
          let s := if e.mtype == .uncached then cohWrite s a e.bytes else cacheWrite s c a e.bytes
          pop (logGuest s ⟨e.slice.toNat, e.slice.isLt⟩ e.gpa)
      | .spm b a => pop (spmWrite s b a e.bytes)
      | .regs off =>
        let o := alignDown (off + (e.first - e.addr)) 4
        let w : W32 := BitVec.ofNat 32 (ofLe (((e.bytes.drop (o - off)).take 4).map (fun x => x.getD 0)))
        if regWaits s o then (s, false)
        else
          let (s, d) := pop s
          (regWrite (.core c e.pl) o w s, d)
      | .host pa =>
        if smCanSend s then
          mark { s with smOut := s.smOut ++ [{ id := BitVec.ofNat 10 c.val, addr := pa, write := true, len := 0,
                                               data := e.bytes, who := .store c }] }
        else (s, false)
      | .board _ _ =>
        let line := e.addr / 64
        if e.mtype == .cacheable then
          match s.remote.find? (fun r => r.line == line) with
          | some r =>
            if s.isPoisoned line then
              pop (addMcheck c { cause := (badLine s c line).getD 0x05, pa := line * 64 } s)
            else if r.excl then
              let d := memRead (memWriteMask (memWrite [] (line * 64) r.data) e.addr e.bytes) (line * 64) 64
              let s := { s with remote := updFirst (fun x => x.line == line) (fun x => { x with data := d, modified := true }) s.remote }
              pop (fillL1d s c line)
            else mark (boardSend (.store c) (line * 64) 6 [] 0 s)
          | none => mark (boardSend (.store c) (line * 64) 1 [] 64 s)
        else mark (boardSend (.store c) e.addr 4 e.bytes 0 s)
      | .tme _ _ =>
        match tmePost e.addr e.bytes s with
        | some s => pop s
        | none => (s, false)
      | .leaving => (s, false)
      | .bad => pop (lateError s c e.addr)

/-- The `n` oldest entries drained, stopping where one must wait. -/
def drainN (s : State) (c : CoreId) : Nat → State × Bool
  | 0 => (s, true)
  | n + 1 =>
    if (s.core c).sb.isEmpty then (s, true)
    else match drainOldest s c with
      | (s', true) => drainN s' c n
      | (s', false) => (s', false)

/-- The instruction waits until the `n` oldest entries have drained. -/
def drainOp (c : CoreId) (n : Nat) : Op Unit := do
  let (s, ok) := drainN (← get) c n
  if ok then set s else throw .stall

/-- The instruction waits until the whole buffer has drained (R233). -/
def drainAll (c : CoreId) : Op Unit := do drainOp c (← core c).sb.length

/-- The position, counted from the oldest, of the youngest entry that holds any byte of [a, a + n). -/
def youngest (sb : List SbEntry) (a n : Nat) : Option Nat :=
  (List.range sb.length).reverse.find? (fun i => match sb[i]? with
    | some e => e.touches a n
    | none => false)

/-- Store-buffer service of a load (R231): forwarded bytes, or none once every overlapping entry has drained. -/
def forward (c : CoreId) (a n : Nat) : Op (Option (List Byte)) := do
  let k ← core c
  match youngest k.sb a n with
  | none => return none
  | some i =>
    match (k.sb[i]?).bind (fun e => (List.range n).mapM (fun j => e.at? (a + j))) with
    | some d => return some d
    | none =>
      drainOp c (i + 1)
      return none

/-- The words of the block that an entry's bytes lie in. -/
def SbEntry.words (e : SbEntry) : List Nat :=
  (((List.range 16).filter (fun i => ((e.bytes[i]?).join).isSome)).map (· / 4)).dedup

/-- Whether a store merges into the youngest entry, given that it issued directly after it (R229). -/
def sbFits (s : State) (y e : SbEntry) : Bool :=
  y.addr == e.addr && y.mtype == e.mtype && y.mop.isNone && !y.sent && y.slice == e.slice && y.pl == e.pl &&
  (match target s e.addr with
   | .regs _ => decide ((y.words ++ e.words).dedup.length ≤ 1)
   | _ => true)

/-- The youngest entry with a later store's bytes laid over its own. -/
def sbMerge (y e : SbEntry) : SbEntry :=
  { y with bytes := List.zipWith (fun o n => match n with
      | some v => some v
      | none => o) y.bytes e.bytes }

/-- The new entry, or the merge into the youngest (R229); with eight entries held the store waits for the oldest (R232).
`past`: a later element of one scatter, whose own earlier elements fill the buffer, does not stop half-way (R212). -/
def sbPut (c : CoreId) (merge : Bool) (e : SbEntry) (past : Bool := false) : Op Unit := do
  let s ← get
  let k := s.core c
  match k.sb.getLast? with
  | some y =>
    if merge && sbFits s y e then
      updCore c (fun k => { k with sb := k.sb.dropLast ++ [sbMerge y e], sbOpen := true })
    else
      if k.sb.length ≥ 8 then
        let (s, ok) := drainN s c (k.sb.length - 7)
        if ok || past then set s else throw .stall
      updCore c (fun k => { k with sb := k.sb ++ [e], sbOpen := true })
  | none => updCore c (fun k => { k with sb := k.sb ++ [e], sbOpen := true })

/-- A store of bytes at a checked part, entered into the store buffer by aligned 16-byte blocks (R229, R232); only a store whose bytes all lie
in one block merges. -/
def storePart (c : CoreId) (merge : Bool) (p : Part) (d0 : List Byte) (past : Bool := false) : Op Unit := do
  let s ← get
  let k := s.core c
  let mt := memType s p.tr
  let rec go (pa gpa : Nat) : Nat → List Byte → Op Unit
    | 0, _ => pure ()
    | _, [] => pure ()
    | fuel + 1, d => do
      let o := pa % 16
      let now := d.take (16 - o)
      let bytes := List.replicate o none ++ now.map some ++ List.replicate (16 - o - now.length) none
      sbPut c (merge && decide (p.tr.pa % 16 + d0.length ≤ 16)) { addr := pa - o, bytes := bytes, mtype := mt, gpa := gpa - o, pl := k.pl, slice := k.slice } past
      go (pa - o + 16) (gpa - o + 16) fuel (d.drop (16 - o))
  go p.tr.pa p.tr.gpa 6 d0

/-- Checked parts with the bytes that belong to each. -/
def storeParts (c : CoreId) (merge : Bool) : List Part → List Byte → Op Unit
  | [], _ => pure ()
  | p :: t, d => do
    storePart c merge p (d.take p.len)
    storeParts c merge t (d.drop p.len)

/-! ### Performing reads -/

/-- The answer that a core already holds for a read or atomic that left the complex. -/
def extAnswer (k : Core) (a n : Nat) : Option ExtReq := k.ext.find? (fun r => r.addr == a && r.len == n)

/-- A read served outside: the answer if it has come, a precise bus error if it failed (R111), else the request goes out. -/
def outside (c : CoreId) (va : Word) (pa n op : Nat) : Op (List Byte) := do
  match extAnswer (← core c) pa n with
  | some { answer := some (.bytes d), .. } => return d
  | some { answer := some .error, .. } => faultAt cBE va pa
  | some { answer := some .poison, .. } => throw (.mcheck 0x08 (pa / 64 * 64) true)
  | some _ => throw .stall
  | none => throw (.ask { addr := pa, len := n, op := op })

/-- A read served outside by aligned 16-byte blocks, each a request of its own (R504, R561). -/
def outsideBytes (c : CoreId) (va : Word) (pa n : Nat) : Op (List Byte) := do
  let hi := pa + n
  let ds ← (List.range ((hi - 1) / 16 - pa / 16 + 1)).mapM (fun i : Nat => do
    let lo := max pa ((pa / 16 + i) * 16)
    outside c (va + BitVec.ofNat 64 (lo - pa)) lo (min hi ((pa / 16 + i + 1) * 16) - lo) 2)
  return ds.flatten

/-- The bytes of a checked part, read at its target (R326 to R329). -/
def loadPart (c : CoreId) (fetch : Bool) (p : Part) : Op (List Byte) := do
  let s ← get
  let pa := p.tr.pa
  let dev : Bool := memType s p.tr == .device
  if dev && !fetch then drainAll c
  let fw ← if dev || fetch then pure none else forward c pa p.len
  match fw with
  | some d => return d
  | none =>
    let s ← get
    match target s pa with
    | .dram a =>
      let ls := linesOf a p.len
      match ls.find? (fun l => remoteHolds s l p.tr.nc) with
      | some l => throw (.ask { addr := l * 64, len := if p.tr.nc then 65 else 64, op := 7 })
      | none =>
        match ls.findSome? (fun l => (badLine s c l).map (fun m => (m, l))) with
        | some (m, l) => throw (.mcheck m (l * 64) true)
        | none =>
          if p.tr.nc then
            let s := ls.foldl (fun s l => dropCopies (cleanLine s l) none l) s
            set s
            return memRead s.mem a p.len
          else if fetch then
            let s := ls.foldl (fun s l => fillL2 s (clusterOf c) l) s
            set (ls.foldl (fun s l => s.modCore c (fun k => { k with l1i := (l1Fill (fun _ => false) k.l1i l).1 })) s)
            return memRead s.mem a p.len
          else
            let (d, s) := cacheRead s c a p.len
            set s
            return d
    | .spm b a =>
      match spmFirstUe s a p.len with
      | some w => throw (.mcheck 0x07 w true)
      | none =>
        set (spmNoteCe s b a p.len)
        return memRead s.mem a p.len
    | .regs off =>
      return leBytes 4 (regRead (.core c (s.core c).pl) off s).toNat
    | .host h =>
      if fetch then
        let _ ← outside c p.va (alignDown h 64) 64 8
        return []
      else outsideBytes c p.va pa p.len
    | .board _ off =>
      if off < 0x40_0000_0000 && !p.tr.nc then
        let ls := linesOf pa p.len
        match ls.find? (fun l => !s.remote.any (fun r => r.line == l)) with
        | some l =>
          match extAnswer (← core c) (l * 64) 64 with
          | some { answer := some .error, .. } => faultAt cBE p.va pa
          | some { answer := some .poison, .. } => throw (.mcheck 0x08 (l * 64) true)
          | some { answer := some (.bytes _), .. } => throw (.ask { addr := l * 64, len := 64, op := 0 })
          | some _ => throw .stall
          | none => throw (.ask { addr := l * 64, len := 64, op := 0 })
        | none =>
          match ls.findSome? (fun l => (badLine s c l).map (fun m => (m, l))) with
          | some (m, l) => throw (.mcheck m (l * 64) true)
          | none =>
            set (if fetch then ls.foldl (fun s l =>
                (fillL2 s (clusterOf c) l).modCore c (fun k => { k with l1i := (l1Fill (fun _ => false) k.l1i l).1 })) s
              else ls.foldl (fun s l => fillL1d s c l) s)
            let m := ls.foldl (fun m l => match s.remote.find? (fun r => r.line == l) with
              | some r => memWrite m (l * 64) r.data
              | none => m) ([] : List Host.Cell)
            return memRead m pa p.len
      else if fetch then
        let _ ← outside c p.va (alignDown pa 64) 64 2
        return []
      else outsideBytes c p.va pa p.len
    | .leaving => throw .stall
    | _ => faultAt cBE p.va pa

/-- The bytes of checked parts, in ascending order. -/
def loadParts (c : CoreId) (ps : List Part) : Op (List Byte) := do
  let ds ← ps.mapM (loadPart c false)
  return ds.flatten

/-- A checked load: checks, data breakpoint, then the read (R95, R107, R111). -/
def load (c : CoreId) (va : Word) (n : Nat) : Op (List Byte) := do
  let ps ← checkAccess c .load va n
  dbpCheck c [(va, n)] true false
  loadParts c ps

/-- A checked store (R95, R108, R111). -/
def store (c : CoreId) (merge : Bool) (va : Word) (d : List Byte) : Op Unit := do
  let ps ← checkAccess c .store va d.length
  dbpCheck c [(va, d.length)] false true
  storeParts c (merge && ps.length == 1) ps d

/-- The fetch of an instruction's bytes (R90, R329): a fault on any byte is taken at the instruction. -/
def fetchCheck (x : Ctx) : Op Unit := do
  let ps ← (splitPages x.pc x.bytes.length).mapM (fun (v, m) => do
    return ({ va := v, len := m, tr := ← translate x.c .fetch v } : Part))
  ps.forM (fun p => do
    checkTarget x.c .fetch p x.bytes.length
    let _ ← loadPart x.c true p)

end Sys2Proof.Machine
end

