-- ==== Sys2Proof/Machine/Windows.lean ====
section
/-!
DEFINITION. Machine/Windows.lean: the operand stack, the return stack and the barrow (R36 to R42, R151 to R171, R246).
-/
namespace Sys2Proof.Machine

/-- The outcome of a computation, kept instead of stopping. -/
def attempt {α : Type} (f : Op α) : Op (Except Stop α) := fun s =>
  match f s with
  | .ok a s' => .ok (.ok a) s'
  | .error e s' => .ok (.error e) s'

/-- Where a barrow transfer goes, or the WHY of its fault (R157, R158, R167). -/
def barrowTarget (c : CoreId) (st : Bool) (va : Word) : Op (Except (BitVec 2) Tr) := do
  match (← attempt (translate c (if st then .store else .load) va)) with
  | .error (.event f) =>
    return .error (if f.cause == 0x0C then 0b00 else if f.cause == 0x0E then 0b01 else 0b10)
  | .error e => throw e
  | .ok t =>
    let s ← get
    match target s t.pa with
    | .dram a => return .ok { t with pa := a }
    | .spm b a =>
      let k := s.banks[b.val]
      if k.owner != BitVec.ofNat 8 c.val || k.req != 0 then return .error 0b10
      else if k.pstate != 0 || !k.handoverDone then throw .stall
      else return .ok { t with pa := a }
    | _ => return .error 0b10

/-- Overlapping store-buffer entries drain before the barrow touches their bytes (log entry 15). -/
def drainOver (c : CoreId) (a n : Nat) : Op Unit := do
  match youngest (← core c).sb a n with
  | some i => drainOp c (i + 1)
  | none => pure ()

/-- A barrow write where a poisoned line is in the way: each access to that line raises a machine check (R339), and its bytes stay. -/
def barrowPast (c : CoreId) (nc : Bool) (a : Nat) (d : List Byte) (s : State) : State :=
  (linesOf a d.length).foldl (fun s l =>
    if s.isPoisoned l then addMcheck c { cause := (badLine s c l).getD 0x05, pa := l * 64 } s
    else
      let lo := max a (l * 64)
      let b := ((d.drop (lo - a)).take (l * 64 + 64 - lo)).map some
      if nc then cohWrite s lo b else cacheWrite s c lo b) s

/-- A write straight to a translated address, as the barrow, a save or an event entry makes it (R157), logged for a slice: the current one
unless another is named (R301, R450). -/
def barrowWrite (c : CoreId) (t : Tr) (d : List Byte) (slice : Option (BitVec 6) := none) : Op Unit := do
  drainOver c t.pa d.length
  let s ← get
  match target s t.pa with
  | .dram a =>
    match (linesOf a d.length).find? (fun l => remoteHolds s l true) with
    | some l => throw (.ask { addr := l * 64, len := 65, op := 7 })
    | none =>
      let s := if (linesOf a d.length).any s.isPoisoned then barrowPast c t.nc a d s
        else if t.nc then cohWrite s a (d.map some) else cacheWrite s c a (d.map some)
      let sl := slice.getD (s.core c).slice
      set (logGuest s ⟨sl.toNat, sl.isLt⟩ t.gpa)
  | .spm b a => set (spmWrite s b a (d.map some))
  | _ => pure ()

/-- The lines of a barrow transfer out of L1D of a metered core, which the barrow serves from L2 (R165); a lock stays as a reservation. -/
def leaveL1d (c : CoreId) (t : Tr) (n : Nat) : Op Unit := do
  let s ← get
  match target s t.pa with
  | .dram a => if (s.core c).met && !t.nc then
      set ((linesOf a n).foldl (fun s l => s.modCore c (fun k => { k with l1d := l1Drop k.l1d l })) s) else pure ()
  | _ => pure ()

/-- A barrow read at a translated address (R157, R362). -/
def barrowRead (c : CoreId) (va : Word) (t : Tr) (n : Nat) : Op (List Byte) := do
  drainOver c t.pa n
  loadPart c false { va := va, len := n, tr := t }

/-- A return-stack entry in memory (R153). -/
def retBytes : RetEntry → List Byte
  | .call a b => leBytes 8 (a.toNat % 2 ^ 48 + 0x01 * 2 ^ 48) ++ leBytes 8 b.toNat
  | .loop a n => leBytes 8 (a.toNat % 2 ^ 48 + 0x02 * 2 ^ 48) ++ leBytes 8 n.toNat
  | .invalid => leBytes 16 0

/-- A return-stack entry read from memory (R153, R154). -/
def retOfBytes (d : List Byte) : RetEntry :=
  let w := wordOfLe (d.take 8)
  let v := wordOfLe (d.drop 8)
  let a := sx (fieldOf w 0 48)
  if fieldOf w 48 8 == 0x01 then .call a v
  else if fieldOf w 48 8 == 0x02 then .loop a v
  else .invalid

/-- A list cut into pieces of `n`. -/
def chunks {α : Type} (n : Nat) : Nat → List α → List (List α)
  | 0, _ => []
  | k + 1, l => l.take n :: chunks n k (l.drop n)

/-- One operand spill (R155, R61): the lowest block in the ring to SPILLBASE. -/
def spillOp (c : CoreId) : Op (Except Stuck Unit) := do
  let k ← core c
  let va := k.spillbase
  if va.toNat + 128 > k.spilllim.toNat then return .error { why := 0b11, refill := false, va := va }
  match (← barrowTarget c true va) with
  | .error w => return .error { why := w, refill := false, va := va }
  | .ok t =>
    let low := (k.stk.ring.drop (k.stk.ring.length - 16)).reverse
    barrowWrite c t (low.flatMap (fun w => leBytes 8 w.toNat))
    leaveL1d c t 128
    updCore c (fun k => { k with
      spillbase := va + 128,
      stk := { k.stk with ring := k.stk.ring.take (k.stk.ring.length - 16), spilled := k.stk.spilled + 1 } })
    return .ok ()

/-- One operand refill (R155): the highest spilled block into the ring. -/
def refillOp (c : CoreId) : Op (Except Stuck Unit) := do
  let k ← core c
  let va := k.spillbase - 128
  match (← barrowTarget c false va) with
  | .error w => return .error { why := w, refill := true, va := va }
  | .ok t =>
    let d ← barrowRead c va t 128
    let ws := (chunks 8 16 d).map wordOfLe
    updCore c (fun k => { k with
      spillbase := va,
      stk := { k.stk with ring := k.stk.ring ++ (ws.take (16 - k.stk.cut)).reverse, spilled := k.stk.spilled - 1, cut := 0 } })
    return .ok ()

/-- One return spill (R155): the lowest segment in the ring to RSSPILL. -/
def spillRet (c : CoreId) : Op (Except Stuck Unit) := do
  let k ← core c
  let va := k.rsspill
  if va.toNat + 128 > k.rslim.toNat then return .error { why := 0b11, refill := false, va := va }
  match (← barrowTarget c true va) with
  | .error w => return .error { why := w, refill := false, va := va }
  | .ok t =>
    let low := (k.rstk.ring.drop (k.rstk.ring.length - 8)).reverse
    barrowWrite c t (low.flatMap retBytes)
    leaveL1d c t 128
    updCore c (fun k => { k with
      rsspill := va + 128,
      rstk := { k.rstk with ring := k.rstk.ring.take (k.rstk.ring.length - 8), spilled := k.rstk.spilled + 1 } })
    return .ok ()

/-- One return refill (R155): the highest spilled segment into the ring. -/
def refillRet (c : CoreId) : Op (Except Stuck Unit) := do
  let k ← core c
  let va := k.rsspill - 128
  match (← barrowTarget c false va) with
  | .error w => return .error { why := w, refill := true, va := va }
  | .ok t =>
    let d ← barrowRead c va t 128
    let ws := (chunks 16 8 d).map retOfBytes
    updCore c (fun k => { k with
      rsspill := va,
      rstk := { k.rstk with ring := k.rstk.ring ++ (ws.take (8 - k.rstk.cut)).reverse, spilled := k.rstk.spilled - 1, cut := 0 } })
    return .ok ()

/-- The instruction waits for a transfer of the operand stack (R160, R161, R166). -/
def awaitOp (c : CoreId) (f : CoreId → Op (Except Stuck Unit)) : Op Unit := do
  match (← core c).opStuck with
  | some st => throw (.spill false false st false)
  | none => match (← f c) with
    | .error st => throw (.spill false true st false)
    | .ok _ => pure ()

/-- The instruction waits for a transfer of the return stack (R160, R161, R166). -/
def awaitRet (c : CoreId) (f : CoreId → Op (Except Stuck Unit)) : Op Unit := do
  match (← core c).rsStuck with
  | some st => throw (.spill true false st false)
  | none => match (← f c) with
    | .error st => throw (.spill true true st false)
    | .ok _ => pure ()

/-- The top `n` entries are brought into the ring (R161). -/
def holdTop (c : CoreId) (n : Nat) : Op Unit := do
  let k ← core c
  if k.win.isSome || n ≤ k.stk.ring.length || k.stk.spilled = 0 then pure ()
  else
    awaitOp c refillOp
    let k ← core c
    if n ≤ k.stk.ring.length || k.stk.spilled = 0 then pure ()
    else
      awaitOp c refillOp
      let k ← core c
      if n ≤ k.stk.ring.length || k.stk.spilled = 0 then pure () else awaitOp c refillOp

/-- The operand entries that the running code can reach without the spill area, top first. -/
def Core.ops (k : Core) : List Word := match k.win with
  | some w => w.ops
  | none => k.stk.ring

/-- The core with those entries replaced. -/
def Core.setOps (k : Core) (l : List Word) : Core := match k.win with
  | some w => k.setWin { w with ops := l }
  | none => { k with stk := { k.stk with ring := l } }

/-- Pushes an entry, with the waits of R160 and the limit of R171. -/
def push (c : CoreId) (v : Word) : Op Unit := do
  let k ← core c
  match k.win with
  | some w =>
    if w.ops.length ≥ 16 then raise cSB
    else updCore c (fun k => k.setOps (v :: w.ops))
  | none =>
    if k.stk.cut != 0 then awaitOp c refillOp
    else if k.stk.occ ≥ 8 && k.stk.depth % 16 == 0 then awaitOp c spillOp
    else pure ()
    updCore c (fun k => k.setOps (v :: k.ops))

/-- Pushes a list, its last element ending on top. -/
def pushAll (c : CoreId) : List Word → Op Unit
  | [] => pure ()
  | v :: t => do
    push c v
    pushAll c t

/-- Removes the top `n` entries without reading them; a spilled block that this empties is discarded (R162). -/
def OpStk.removeTop (k : OpStk) (n : Nat) : OpStk :=
  if n ≤ k.ring.length then { k with ring := k.ring.drop n }
  else
    let d := k.depth - n
    let sp := (d + 15) / 16
    { k with ring := [], spilled := sp, cut := 16 * sp - d }

/-- Removes the top `n` entries of the current stack without reading them (R162). -/
def dropTop (c : CoreId) (n : Nat) : Op Unit :=
  updCore c (fun k => match k.win with
    | some w => k.setWin { w with ops := w.ops.drop n }
    | none =>
      let t := k.stk.removeTop n
      { k with stk := t, spillbase := k.spillbase - BitVec.ofNat 64 (128 * (k.stk.spilled - t.spilled)) })

/-- The top `n` entries, top first, without removing them; the frame must hold them (R94). -/
def peek (c : CoreId) (n : Nat) : Op (List Word) := do
  need c n
  holdTop c n
  return (← core c).ops.take n

/-- Pops the top `n` entries, top first. -/
def popN (c : CoreId) (n : Nat) : Op (List Word) := do
  let l ← peek c n
  updCore c (fun k => k.setOps (k.ops.drop n))
  return l

/-- Pops one entry. -/
def pop1 (c : CoreId) : Op Word := do
  match (← popN c 1) with
  | a :: _ => return a
  | [] => raise cSB

/-- Pops two entries: ( a b -- ). -/
def pop2 (c : CoreId) : Op (Word × Word) := do
  match (← popN c 2) with
  | b :: a :: _ => return (a, b)
  | _ => raise cSB

/-- Pops three entries: ( a b d -- ). -/
def pop3 (c : CoreId) : Op (Word × Word × Word) := do
  match (← popN c 3) with
  | d :: b :: a :: _ => return (a, b, d)
  | _ => raise cSB

/-- Pops four entries. -/
def pop4 (c : CoreId) : Op (Word × Word × Word × Word) := do
  match (← popN c 4) with
  | d :: b2 :: b :: a :: _ => return (a, b, b2, d)
  | _ => raise cSB

/-- How an entry `i` places below the top is reached (R161): in the ring, after a refill, or in place in the spill area. -/
def entryPlace (c : CoreId) (i : Nat) (st : Bool) : Op (Option (Word × Tr)) := do
  let k ← core c
  if k.win.isSome || i < k.stk.ring.length then return none
  else
    let p := k.stk.depth - 1 - i
    if p / 16 + 1 = k.stk.spilled && k.stk.occ < 8 then
      awaitOp c refillOp
      return none
    else
      let va := k.spillbase - BitVec.ofNat 64 (128 * (k.stk.spilled - p / 16)) + BitVec.ofNat 64 (8 * (p % 16))
      match (← barrowTarget c st va) with
      | .error w => throw (.spill false false { why := w, refill := !st, va := va } true)
      | .ok t => return some (va, t)

/-- Reads the entry `i` places below the top (R161). -/
def entryRead (c : CoreId) (i : Nat) : Op Word := do
  match (← entryPlace c i false) with
  | none => return (← core c).ops[i]?.getD 0
  | some (va, t) => return wordOfLe (← barrowRead c va t 8)

/-- Writes the entry `i` places below the top (R161). -/
def entryWrite (c : CoreId) (i : Nat) (v : Word) : Op Unit := do
  match (← entryPlace c i true) with
  | none => updCore c (fun k => k.setOps (k.ops.set i v))
  | some (_, t) => barrowWrite c t (leBytes 8 v.toNat)

/-- Pushes a return entry, with the waits of R160 and the limit of R171. -/
def pushRet (c : CoreId) (e : RetEntry) : Op Unit := do
  let k ← core c
  match k.win with
  | some w =>
    if w.rets.length ≥ 4 then raise cRS
    else updCore c (fun k => k.setWin { w with rets := e :: w.rets })
  | none =>
    if k.rstk.cut != 0 then awaitRet c refillRet
    else if k.rstk.occ ≥ 4 && k.rstk.depth % 8 == 0 then awaitRet c spillRet
    else pure ()
    updCore c (fun k => { k with rstk := { k.rstk with ring := e :: k.rstk.ring } })

/-- The top return entry, brought into the ring (R161); none at the floor or on an empty stack (R42, R304). -/
def topRet (c : CoreId) : Op (Option RetEntry) := do
  let k ← core c
  if k.rdepth ≤ k.rfloor then return none
  else match k.win with
  | some w => return w.rets.head?
  | none =>
    if k.rstk.ring.isEmpty then awaitRet c refillRet
    return (← core c).rstk.ring.head?

/-- The top return entry replaced, or removed. -/
def setTopRet (c : CoreId) (e : Option RetEntry) : Op Unit :=
  updCore c (fun k => match k.win with
    | some w => k.setWin { w with rets := e.toList ++ w.rets.drop 1 }
    | none => { k with rstk := { k.rstk with ring := e.toList ++ k.rstk.ring.drop 1 } })

/-- Sets the frame base of the running code. -/
def setFbase (c : CoreId) (b : Nat) : Op Unit :=
  updCore c (fun k => match k.win with
    | some w => k.setWin { w with fbase := b }
    | none => { k with stk := { k.stk with fbase := b } })

/-- The transfer that R155 and R156 call for next: return stack first, spill before refill. -/
def barrowDue (k : Core) : Option (Bool × Bool) :=
  if k.rsStuck.isNone && k.rstk.occ ≥ 3 then some (true, false)
  else if k.rsStuck.isNone && k.rstk.occ ≤ 1 && k.rstk.spilled > 0 then some (true, true)
  else if k.opStuck.isNone && k.stk.occ ≥ 6 then some (false, false)
  else if k.opStuck.isNone && k.stk.occ ≤ 2 && k.stk.spilled > 0 then some (false, true)
  else none

/-- One transfer of the barrow; a fault marks it stuck and raises nothing (R166). -/
def barrowStep (c : CoreId) (ret refill : Bool) : Op Unit := do
  let r ← match ret, refill with
    | true, false => spillRet c
    | true, true => refillRet c
    | false, false => spillOp c
    | false, true => refillOp c
  match r with
  | .ok _ => pure ()
  | .error st => updCore c (fun k => if ret then { k with rsStuck := some st } else { k with opStuck := some st })

/-- In metered mode every transfer due is made after the instruction (R246). -/
def barrowSettle (c : CoreId) : Nat → Op Unit
  | 0 => pure ()
  | n + 1 => do
    match barrowDue (← core c) with
    | none => pure ()
    | some (ret, refill) =>
      match (← attempt (barrowStep c ret refill)) with
      | .ok _ => barrowSettle c n
      | .error _ => pure ()

/-- FLUSHW: every block but the top one spilled (R176). -/
def flushOps (c : CoreId) : Nat → Op Unit
  | 0 => pure ()
  | n + 1 => do
    if (← core c).stk.occ ≤ 1 then pure ()
    else
      awaitOp c spillOp
      flushOps c n

/-- FLUSHR: every segment but the top one spilled (R176). -/
def flushRets (c : CoreId) : Nat → Op Unit
  | 0 => pure ()
  | n + 1 => do
    if (← core c).rstk.occ ≤ 1 then pure ()
    else
      awaitRet c spillRet
      flushRets c n

end Sys2Proof.Machine
end

