-- ==== Sys2Proof/Machine/Operands.lean ====
section
/-!
DEFINITION. Machine/Operands.lean: the operand forms: mode bytes (R72), address forms (R106) and streaming updates (R43, R44).
-/
namespace Sys2Proof.Machine

/-- The memory mode byte (R72). -/
structure Mode where
  /-- Bytes accessed. -/
  n : Nat
  /-- Sign extension. -/
  s : Bool
  /-- XSTEP or YSTEP instead of the element size. -/
  step : Bool
  deriving DecidableEq, Repr

/-- Width in bytes of a width code (R72). -/
def widthBytes (w : Nat) : Nat := 2 ^ (w % 4)

/-- A mode byte read, or the illegal-instruction fault (R69, R72). -/
def modeOf (m : Byte) (st stream : Bool) : Op Mode := do
  let w := m.toNat % 4
  let s := bitOf m 2
  let step := bitOf m 3
  legal (decide (m.toNat < 16) && !(s && st) && !(s && w == 3) && (stream || !step))
  return { n := widthBytes w, s := s, step := step }

/-- A loaded value in 64 bits (R107). -/
def extend (d : List Byte) (s : Bool) : Word :=
  let v := wordOfLe d
  if s then exts v 0 (8 * d.length) else v

/-- XP or YP (R43). -/
def streamPtr (k : Core) (y : Bool) : Word := if y then k.yp else k.xp

/-- The register after a completed streaming access (R43). -/
def advance (y : Bool) (m : Mode) (k : Core) : Core :=
  if y then { k with yp := k.yp + (if m.step then k.ystep else BitVec.ofNat 64 m.n) }
  else { k with xp := k.xp + (if m.step then k.xstep else BitVec.ofNat 64 m.n) }

end Sys2Proof.Machine
end

