-- ==== Sys2Proof/Machine/Integer.lean ====
section
/-!
DEFINITION. Machine/Integer.lean: stack manipulation, literals, integer arithmetic, logic and bit fields (R98 to R105).
-/
namespace Sys2Proof.Machine

/-- Pops `n` entries and pushes a list of results, deepest first. -/
def stackEffect (c : CoreId) (n : Nat) (f : List Word → List Word) : Op Next := do
  let l ← popN c n
  pushAll c (f l)
  return .seq

/-- The results of a stack manipulation, from its operands top first, deepest first (R98). -/
def stkResult (o : StkOp) (l : List Word) : List Word := match o, l with
  | .dup, [a] => [a, a]
  | .drop, _ => []
  | .swap, [b, a] => [b, a]
  | .over, [b, a] => [a, b, a]
  | .rot, [d, b, a] => [b, d, a]
  | .nrot, [d, b, a] => [d, a, b]
  | .nip, [b, _] => [b]
  | .tuck, [b, a] => [b, a, b]
  | .dup2, [b, a] => [a, b, a, b]
  | .drop2, _ => []
  | .swap2, [e, d, b, a] => [d, e, a, b]
  | .over2, [e, d, b, a] => [a, b, d, e, a, b]
  | _, l => l.reverse

/-- Entries a stack manipulation needs (R94, R98). -/
def stkNeed : StkOp → Nat
  | .dup | .drop => 1
  | .swap | .over | .nip | .tuck | .dup2 | .drop2 => 2
  | .rot | .nrot => 3
  | .swap2 | .over2 => 4

/-- Stack manipulation (R98). DROP, DROP2 and NIP read nothing that they remove (R162). -/
def runStk (c : CoreId) (o : StkOp) : Op Next := do
  match o with
  | .drop => do
    need c 1
    dropTop c 1
    return .seq
  | .drop2 => do
    need c 2
    dropTop c 2
    return .seq
  | .nip => do
    need c 2
    let l ← peek c 1
    dropTop c 2
    pushAll c l
    return .seq
  | o => stackEffect c (stkNeed o) (stkResult o)

/-- PICK (R71, R99). -/
def runPick (c : CoreId) (k : Byte) : Op Next := do
  legal (decide (k.toNat < 32))
  need c (k.toNat + 1)
  push c (← entryRead c k.toNat)
  return .seq

/-- DEPTH (R99). -/
def runDepth (c : CoreId) : Op Next := do
  push c (BitVec.ofNat 64 (← core c).frame)
  return .seq

/-- A literal (R100). -/
def runLit (c : CoreId) (v : Word) : Op Next := do
  push c v
  return .seq

/-- Integer operations without an operand byte (R101 to R105). -/
def runAlu (c : CoreId) (o : AluOp) : Op Next := do
  if aluArity o = 1 then
    let a ← pop1 c
    push c (unary o a)
    return .seq
  else if aluArity o = 3 then
    let (a, b, s) ← pop3 c
    push c (if s != 0 then a else b)
    return .seq
  else
    let (a, b) ← pop2 c
    if isDivide o && b == 0 then raise cDV
    else
      push c (binary o a b)
      return .seq

/-- Integer operations with an operand byte (R69, R71, R101, R104). -/
def runAluB (c : CoreId) (o : AluBOp) (i : Byte) : Op Next := do
  legal (o == .addi8 || decide (i.toNat < 64))
  let a ← pop1 c
  push c (withByte o a i)
  return .seq

/-- ADDI32 and ANDI32 (R101, R104). -/
def runAluW (c : CoreId) (o : AluWOp) (i : W32) : Op Next := do
  let a ← pop1 c
  push c (match o with
    | .addi32 => a + sx i
    | .andi32 => a &&& sx i)
  return .seq

/-- EXTU, EXTS and INS (R69, R71, R105). -/
def runField (c : CoreId) (o : FieldOp) (p l : Byte) : Op Next := do
  legal (decide (p.toNat < 64) && decide (l.toNat < 64) && decide (p.toNat + l.toNat + 1 ≤ 64))
  let n := l.toNat + 1
  match o with
  | .extu => do
    let a ← pop1 c
    push c (extu a p.toNat n)
    return .seq
  | .exts => do
    let a ← pop1 c
    push c (exts a p.toNat n)
    return .seq
  | .ins => do
    let (a, b) ← pop2 c
    push c (insField a b p.toNat n)
    return .seq

end Sys2Proof.Machine
end

