-- ==== Sys2Proof/Machine/LoadStore.lean ====
section
/-!
DEFINITION. Machine/LoadStore.lean: loads, stores, frame access and atomics (R39, R43, R44, R106 to R114, R121 to R123).
-/
namespace Sys2Proof.Machine

/-- A load from an address already formed: checks, access, push (R107). -/
def loadPush (c : CoreId) (va : Word) (m : Mode) : Op Next := do
  let d ← load c va m.n
  push c (extend d m.s)
  return .seq

/-- Popped-address loads (R106, R107). -/
def runLd (c : CoreId) (w : Fin 4) (s : Bool) : Op Next := do
  let a ← pop1 c
  loadPush c a { n := widthBytes w.val, s := s, step := false }

/-- Streaming loads (R43, R44, R107). -/
def runLdStream (c : CoreId) (y : Bool) (m : Mode) : Op Next := do
  let d ← load c (streamPtr (← core c) y) m.n
  updCore c (advance y m)
  push c (extend d m.s)
  return .seq

/-- Displaced loads (R68, R106). -/
def runLdd (c : CoreId) (m : Byte) (d : Word) : Op Next := do
  let md ← modeOf m false false
  let a ← pop1 c
  loadPush c (a + d) md

/-- LDPC and LDA64 (R68, R106). -/
def runLdAt (c : CoreId) (m : Byte) (va : Word) : Op Next := do
  let md ← modeOf m false false
  loadPush c va md

/-- Popped-address stores ( x addr -- ) (R106, R108). -/
def runSt (x : Ctx) (n : Nat) (d : Word) : Op Next := do
  let (v, a) ← pop2 x.c
  store x.c x.merge (a + d) (leBytes n v.toNat)
  return .seq

/-- Streaming stores (R43, R44, R108). -/
def runStStream (x : Ctx) (y : Bool) (m : Mode) : Op Next := do
  let v ← pop1 x.c
  store x.c x.merge (streamPtr (← core x.c) y) (leBytes m.n v.toNat)
  updCore x.c (advance y m)
  return .seq

/-- Displaced stores (R68, R106). -/
def runStd (x : Ctx) (m : Byte) (d : Word) : Op Next := do
  let md ← modeOf m true false
  runSt x md.n d

/-- STPC (R68, R106). -/
def runStpc (x : Ctx) (m : Byte) (d : W32) : Op Next := do
  let md ← modeOf m true false
  let v ← pop1 x.c
  store x.c x.merge (x.pc + sx d) (leBytes md.n v.toNat)
  return .seq

/-- LDL (R39, R71). -/
def runLdl (c : CoreId) (k : Byte) : Op Next := do
  legal (decide (k.toNat < 32))
  let f := (← core c).frame
  if k.toNat ≥ f then raise cSB
  else
    push c (← entryRead c (f - 1 - k.toNat))
    return .seq

/-- STL (R39, R71): the test is applied after the pop. -/
def runStl (c : CoreId) (k : Byte) : Op Next := do
  legal (decide (k.toNat < 32))
  let f := (← core c).frame
  if k.toNat + 1 ≥ f then raise cSB
  else
    let v ← pop1 c
    entryWrite c (f - 2 - k.toNat) v
    return .seq

/-- The read-modify-write of an atomic at its target (R122, R123, R327). -/
def atomAccess (c : CoreId) (o : AtomOp) (wide : Bool) (p : Part) (a b : Word) : Op Word := do
  let n := if wide then 8 else 4
  drainAll c
  let s ← get
  match target s p.tr.pa with
  | .dram d =>
    match (linesOf d n).find? (fun l => remoteHolds s l true) with
    | some l => throw (.ask { addr := l * 64, len := 65, op := 7 })
    | none =>
      let old := wordOfLe (← loadPart c false p)
      match atomResult o wide old a b with
      | some v =>
        let s ← get
        let by_ := (leBytes n v.toNat).map some
        let s := if p.tr.nc then cohWrite s d by_ else cacheWrite s c d by_
        let sl := (s.core c).slice
        set (logGuest s ⟨sl.toNat, sl.isLt⟩ p.tr.gpa)
      | none => pure ()
      return old
  | .spm bk d =>
    let old := wordOfLe (← loadPart c false p)
    match atomResult o wide old a b with
    | some v => set (spmWrite (← get) bk d ((leBytes n v.toNat).map some))
    | none => pure ()
    return old
  | .board _ _ =>
    let line := p.tr.pa / 64
    let s ← get
    if p.tr.nc then
      let code := (match o with | .cas => 0 | .xchg => 2 | .xadd => 4) + (if wide then 1 else 0)
      match extAnswer (s.core c) p.tr.pa n with
      | some { answer := some (.bytes d), .. } => return wordOfLe d
      | some { answer := some .error, .. } => faultAt cBE p.va p.tr.pa
      | some { answer := some .poison, .. } => throw (.mcheck 0x08 (p.tr.pa / 64 * 64) true)
      | some _ => throw .stall
      | none => throw (.ask { addr := p.tr.pa, len := n, op := 5, atom := some (code, a, b) })
    else match s.remote.find? (fun r => r.line == line && r.excl) with
      | some r =>
        match badLine s c line with
        | some m => throw (.mcheck m (line * 64) true)
        | none =>
          let old := wordOfLe ((r.data.drop (p.tr.pa % 64)).take n)
          match atomResult o wide old a b with
          | some v =>
            let d := memRead (memWrite (memWrite [] (line * 64) r.data) p.tr.pa (leBytes n v.toNat)) (line * 64) 64
            let rem := updFirst (fun q : RemLine => q.line == line) (fun q => { q with data := d, modified := true }) s.remote
            set (fillL1d { s with remote := rem } c line)
          | none => set (fillL1d s c line)
          return old
      | none =>
        match extAnswer (s.core c) (line * 64) 64 with
        | some { answer := some .error, .. } => faultAt cBE p.va p.tr.pa
        | some { answer := some .poison, .. } => throw (.mcheck 0x08 (line * 64) true)
        | some { answer := some (.bytes _), .. } => throw (.ask { addr := line * 64, len := 64, op := 1 })
        | some _ => throw .stall
        | none => throw (.ask { addr := line * 64, len := 64, op := 1 })
  | _ => faultAt cBE p.va p.tr.pa

/-- CAS, XCHG and XADD (R121 to R123). -/
def runAtom (c : CoreId) (o : AtomOp) (wide : Bool) : Op Next := do
  let n := if wide then 8 else 4
  let (va, a, b) ← match o with
    | .cas => pop3 c
    | _ => do
      let (va, a) ← pop2 c
      pure (va, a, 0)
  if va.toNat % n != 0 then throw (.event { cause := cAL, faddr := va })
  else
    let ps ← checkAccess c .atomic va n
    dbpCheck c [(va, n)] true true
    match ps with
    | p :: _ => do
      push c (← atomAccess c o wide p a b)
      return .seq
    | [] => throw .stall

end Sys2Proof.Machine
end

