-- ==== Sys2Proof/Machine/Control.lean ====
section
/-!
DEFINITION. Machine/Control.lean: branches, counted loops, calls, returns and jumps (R38 to R42, R115 to R120, R304).
-/
namespace Sys2Proof.Machine

/-- A branch (R115): its operands are popped whether or not it is taken. -/
def runBranch (x : Ctx) (k : Cond) (d : Word) : Op Next := do
  let go (a b : Word) : Next := if taken k a b then .jump (x.pc + d) else .seq
  if condArity k = 0 then return go 0 0
  else if condArity k = 1 then
    let a ← pop1 x.c
    return go a 0
  else
    let (a, b) ← pop2 x.c
    return go a b

/-- DO (R116). -/
def runDo (x : Ctx) (d : Word) : Op Next := do
  let n ← pop1 x.c
  if n == 0 then return .jump (x.pc + d)
  else
    pushRet x.c (.loop x.next n)
    return .seq

/-- LOOP (R116, R304). -/
def runLoop (c : CoreId) : Op Next := do
  match (← topRet c) with
  | some (.loop start n) =>
    if n - 1 != 0 then
      setTopRet c (some (.loop start (n - 1)))
      return .jump start
    else
      setTopRet c none
      return .seq
  | _ => raise cRS

/-- LEAVE (R116, R304). -/
def runLeave (c : CoreId) : Op Next := do
  match (← topRet c) with
  | some (.loop _ _) =>
    setTopRet c none
    return .seq
  | _ => raise cRS

/-- Opens a frame of `n` arguments and goes to `target` (R38, R119). -/
def openFrame (x : Ctx) (n : Nat) (target : Word) : Op Next := do
  need x.c n
  let k ← core x.c
  pushRet x.c (.call x.next (BitVec.ofNat 64 k.fbase))
  setFbase x.c (k.depth - n)
  return .jump target

/-- CALL and CALL.L (R38, R71, R118). -/
def runCall (x : Ctx) (n : Nat) (d : Word) : Op Next := openFrame x n (x.pc + d)

/-- CALL.L with its operand byte (R71). -/
def runCallL (x : Ctx) (n : Byte) (d : W32) : Op Next := do
  legal (decide (n.toNat < 8))
  runCall x n.toNat (sx d)

/-- CALLI (R71, R119): the target is popped first, so n + 1 entries are needed. -/
def runCalli (x : Ctx) (n : Byte) : Op Next := do
  legal (decide (n.toNat < 8))
  need x.c (n.toNat + 1)
  let a ← pop1 x.c
  openFrame x n.toNat a

/-- RET m (R40, R42, R163, R304). -/
def runRet (c : CoreId) (m : Nat) : Op Next := do
  let l ← peek c m
  match (← topRet c) with
  | some (.call a base) =>
    let k ← core c
    dropTop c k.frame
    setTopRet c none
    setFbase c base.toNat
    pushAll c l.reverse
    return .jump a
  | _ => raise cRS

/-- RET m with its operand byte (R71). -/
def runRetB (c : CoreId) (m : Byte) : Op Next := do
  legal (decide (m.toNat < 8))
  runRet c m.toNat

/-- JMPI (R118). -/
def runJmpi (c : CoreId) : Op Next := do
  let a ← pop1 c
  return .jump a

end Sys2Proof.Machine
end

