-- ==== Sys2Proof/Machine/Event.lean ====
section
/-!
DEFINITION. Machine/Event.lean: control registers, the effect of CWR (R51 to R56), taking an event (R293 to R311) and RETX
(R305, R306), each as one shared operation.
-/
namespace Sys2Proof.Machine

/-! ### Slice selection and control registers -/

/-- The PID table entry of a PID, from the slice manager's cache or from the table (R440, R442). -/
def pidEntry (s : State) (pid : BitVec 16) : BitVec 16 × State :=
  match pluck (fun e => e.1 == pid) s.smgr.pidCache with
  | some (e, r) => (e.2, { s with smgr := { s.smgr with pidCache := e :: r } })
  | none =>
    let a := localAddr s (s.smgr.pidtab.toNat + 2 * pid.toNat)
    let v : BitVec 16 := BitVec.ofNat 16 (ofLe (memRead s.mem a 2))
    (v, { s with smgr := { s.smgr with pidCache := ((pid, v) :: s.smgr.pidCache).take 256 } })

/-- SLICE after `pid` takes effect on core `c` (R440, R441): the slice the usable entry names, or the slice it had. -/
def sliceFor (s : State) (c : CoreId) (pid : BitVec 16) (trusted : Bool) : BitVec 6 × State :=
  if !s.smgr.pidtabEn then (0, s)
  else
    let (e, s) := pidEntry s pid
    let n : BitVec 6 := e.setWidth 6
    let sl := s.slice n
    let usable := bitOf e 15 && (n == 0 || (bitOf sl.cores c.val && (sl.state == 1 || sl.state == 2))) &&
      (trusted || n == (s.core c).slice)
    (if usable then n else (s.core c).slice, s)

/-- PID takes effect, and SLICE with it (R56, R441). -/
def setPid (s : State) (c : CoreId) (pid : Word) (trusted : Bool) : State :=
  let (n, s) := sliceFor s c (fieldOf pid 0 16) trusted
  s.modCore c (fun k => { k with pid := pid &&& 0xFFFF, slice := n })

/-- The value CSTAT takes when a write lands (R53, R58): PL 0b11 leaves PL, no write makes PL more privileged, and IMPRECISE is
read-only. -/
def cstatWritten (old v : Word) : Word :=
  let pl := if fieldOf v 0 2 == 0b11 || (fieldOf v 0 2).toNat < (fieldOf old 0 2).toNat then fieldOf old 0 2 else fieldOf v 0 2
  (v &&& 0x1FC) ||| zx pl ||| (old &&& 0x200)

/-- A control-register write takes effect (R54, R58). -/
def landCwr (s : State) (c : CoreId) (n : BitVec 12) (v : Word) (pl0 : Bool) : State :=
  match n.toNat with
  | 0x000 => s.modCore c (fun k => { k with cstat := cstatWritten k.cstat v })
  | 0x040 => s.modCore c (fun k => { k with ptroot := v &&& 0x1F_FFFF_FFFF_F001 })
  | 0x041 => setPid s c v pl0
  | 0x004 => s.modCore c (fun k => { k with vecbase := v &&& 0xFFFF_FFFF_FFFF_F000 })
  | _ => s

/-- Every CWR still to take effect lands now (R55). -/
def landAll (s : State) (c : CoreId) : State :=
  let s' := (s.core c).pend.foldl (fun s p => landCwr s c p.reg p.val p.pl0) s
  s'.modCore c (fun k => { k with pend := [] })

/-- One more instruction has completed: the CWRs whose point is reached land (R54), and the next instruction
folds with none before it (R91). -/
def landDue (s : State) (c : CoreId) : State :=
  let ps := (s.core c).pend.map (fun p => { p with left := p.left - 1 })
  let s' := (ps.filter (fun p => p.left == 0)).foldl (fun s p => landCwr s c p.reg p.val p.pl0) s
  s'.modCore c (fun k => { k with
    pend := ps.filter (fun p => p.left != 0), lastIssue := if ps.any (fun p => p.left == 0) then none else k.lastIssue })

/-- WINSTAT (R58, R151, R170). -/
def winstat (k : Core) : Word :=
  let occ := k.stk.occ
  let d := k.stk.depth
  let top := if k.stk.ring.isEmpty then 0 else (d - 1) / 16 % 8
  let fill := if k.stk.ring.isEmpty then 0 else (d - 1) % 16 + 1
  let fd := d - k.stk.fbase
  BitVec.ofNat 64 (top + occ * 2 ^ 4 + fill * 2 ^ 8 + (if fd > 63 then 63 else fd) * 2 ^ 16 + k.rstk.occ * 2 ^ 24)
    ||| (ofB k.trapw <<< 30) ||| (ofB k.dfw <<< 31)

/-- VCTL as read (R58). -/
def vctlRead (s : State) (k : Core) : Word :=
  k.vctl ||| (ofB s.build.wide <<< 8) ||| (BitVec.ofNat 64 k.fstk.length <<< 16)

/-- CORE_ID of core `c` (R18, R19). -/
def coreId (s : State) (c : CoreId) : Word := BitVec.ofNat 64 c.val ||| (zx s.node <<< 16)

/-! ### The task-state block -/

/-- A task-state block before it is laid out (R299). -/
structure Tsb where
  pc : Word
  cstat : Word
  cause : Nat
  level : Nat
  detail : Byte := 0
  eidx : Byte := 0xFF
  flags : Nat := 0
  code : Byte := 0
  rptcnt : Word := 0
  faddr : Word := 0
  faddr2 : Nat := 0
  fbase : Nat := 0
  entdepth : Nat := 0
  rsfloor : Nat := 0
  rsentry : Nat := 0
  ibytes : Word := 0
  mccause : Word := 0
  gPtroot : Word := 0
  gPid : Word := 0
  gVecbase : Word := 0
  gTsbp : Word := 0
  gTsbceil : Word := 0
  deriving DecidableEq, Repr

/-- The 256 bytes of a TSB (R299). -/
def Tsb.bytes (t : Tsb) : List Byte :=
  leBytes 8 t.pc.toNat ++ leBytes 8 t.cstat.toNat ++ leBytes 1 t.cause ++ leBytes 1 t.level ++ [t.detail, t.eidx] ++
  leBytes 2 t.flags ++ [t.code, 0] ++ leBytes 8 t.rptcnt.toNat ++ leBytes 8 t.faddr.toNat ++ leBytes 8 t.faddr2 ++
  leBytes 8 t.fbase ++ leBytes 8 t.entdepth ++ leBytes 4 t.rsfloor ++ leBytes 4 t.rsentry ++ leBytes 8 t.ibytes.toNat ++
  leBytes 8 t.mccause.toNat ++ leBytes 8 0 ++ leBytes 8 t.gPtroot.toNat ++ leBytes 8 t.gPid.toNat ++
  leBytes 8 t.gVecbase.toNat ++ leBytes 8 t.gTsbp.toNat ++ leBytes 8 t.gTsbceil.toNat ++ List.replicate 120 0

/-- The field of `n` bytes at offset `o` of a block. -/
def blockField (d : List Byte) (o n : Nat) : Nat := ofLe ((d.drop o).take n)

/-- The TSB that 256 bytes hold (R299). -/
def Tsb.ofBytes (d : List Byte) : Tsb :=
  let w (o : Nat) : Word := BitVec.ofNat 64 (blockField d o 8)
  { pc := w 0, cstat := w 8, cause := blockField d 0x10 1, level := blockField d 0x11 1, flags := blockField d 0x14 2,
    rptcnt := w 0x18, fbase := blockField d 0x30 8, entdepth := blockField d 0x38 8, rsfloor := blockField d 0x40 4,
    rsentry := blockField d 0x44 4, gPtroot := w 0x60, gPid := w 0x68, gVecbase := w 0x70, gTsbp := w 0x78, gTsbceil := w 0x80 }

/-- Where a TSB access goes: stage 2 of a slice applied to a guest-physical address (R60), then a local target that the core may
use; otherwise the cause of the access fault (R303). -/
def tsbTarget (c : CoreId) (slice : BitVec 6) (gpa : Nat) (st : Bool) : Op (Except Nat Tr) := do
  match (← attempt (stage2 c slice gpa)) with
  | .error (.event f) => return .error f.cause
  | .error e => throw e
  | .ok none => return .error 0x0E
  | .ok (some (f, es)) =>
    if st && !f.w then return .error 0x0E
    else
      updCore c (fun k => { k with l2tlb := es.foldl l2tlbAdd k.l2tlb })
      let s ← get
      match target s f.pa with
      | .dram a =>
        if (linesOf a 256).any (fun l => l ∈ s.lostLines) && !st then return .error cBE
        else return .ok { pa := a, gpa := gpa, nc := f.nc, x := f.x }
      | .spm b a =>
        let k := s.banks[b.val]
        if k.owner != BitVec.ofNat 8 c.val || k.req != 0 then return .error cBE
        else if k.pstate != 0 || !k.handoverDone then throw .stall
        else return .ok { pa := a, gpa := gpa, nc := f.nc, x := f.x }
      | _ => return .error cBE

/-- What an event brings to its entry. -/
structure EventIn where
  /-- Cause, FADDR, FADDR2, DETAIL, EIDX, breakpoint. -/
  f : FaultInfo
  /-- Level (R293). -/
  level : Nat
  /-- PC recorded. -/
  pc : Word
  /-- PL of the handler, before R307. -/
  pl : BitVec 2
  /-- SYSCALL or HYPCALL code. -/
  code : Byte := 0
  /-- IBYTES. -/
  ibytes : Word := 0
  /-- MCCAUSE and MCLOST. -/
  mc : Option (Word × Bool) := none
  deriving DecidableEq, Repr

/-- The PL of the handler under the Fault rule (R294). -/
def faultPl (k : Core) : BitVec 2 := if k.pl == 0 then 0 else 1

/-- The host entry block of a slice (R301): PTROOT, PID, VECBASE, TSBP, TSBCEIL; none when it cannot be read (R303). -/
def readHeb (c : CoreId) (slice : BitVec 6) : Op (Option (Word × Word × Word × Word × Word)) := do
  let s ← get
  let a := (s.slice slice).heb.toNat
  let ok : Bool ← match target s a with
    | .dram d => pure (!s.lineBad (d / 64))
    | .spm b _ => do
      let k := s.banks[b.val]
      if k.owner == BitVec.ofNat 8 c.val && k.req == 0 && (k.pstate != 0 || !k.handoverDone) then throw .stall
      pure (k.owner == BitVec.ofNat 8 c.val && k.req == 0 && (spmFirstUe s (localAddr s a) 64).isNone)
    | _ => pure false
  if !ok then return none
  else
    let d := memRead s.mem (localAddr s a) 64
    let w (o : Nat) : Word := BitVec.ofNat 64 (blockField d o 8)
    return some (w 0 &&& 0x1F_FFFF_FFFF_F001, w 8 &&& 0xFFFF, w 0x10 &&& 0xFFFF_FFFF_FFFF_F000, w 0x18 &&& 0x1F_FFFF_FFFF_FF00,
      w 0x20 &&& 3)

/-- The core enters a triple fault: it stops, and resets once its store buffer has drained (R303, R308). -/
def startTriple (k : Core) : Core := { k with run := .tripling, rep := none, mid := false, micro := none, begun := false, ext := [], stepOne := false, stepDue := false }

/-- TSBCEIL after a load of `v`: a CEIL of 0b11 leaves CEIL as it is (R58). -/
def ceilLoaded (old v : Word) : Word := if v &&& 3 == 3 then old else v &&& 3

/-- A host entry's register loads (R301): all but PID, which brings SLICE with it. -/
def loadHeb (c : CoreId) (b : Word × Word × Word × Word × Word) : Op Unit := do
  set (setPid (← get) c b.2.1 true)
  updCore c (fun k => { k with ptroot := b.1, vecbase := b.2.2.1, tsbp := b.2.2.2.1, tsbceil := ceilLoaded k.tsbceil b.2.2.2.2 })

/-- CSTAT after an entry (R295, R300). -/
def entryCstat (old : Word) (pl : BitVec 2) (ml : Nat) (late : Bool) : Word :=
  (old &&& 0xE0) ||| zx pl ||| (BitVec.ofNat 64 ml <<< 2) ||| (ofB late <<< 9)

/-- The FLAGS common to entries (R299). -/
def entryFlags (k : Core) (e : EventIn) (held host : Bool) : Nat :=
  (if k.trapw then 1 else 0) + (if held then 2 else 0) + (if e.f.cause == 0x41 then 4 else 0) + (if host then 8 else 0) +
  (if e.f.bp then 16 else 0) + (match e.mc with | some (_, true) => 64 | _ => 0)

/-- The TSB of an event on a core whose pushes are done (R299, R300). -/
def tsbOf (k : Core) (e : EventIn) (held : Option Word) (host : Bool) : Tsb :=
  { pc := e.pc, cstat := k.cstat, cause := e.f.cause, level := e.level, detail := e.f.detail, eidx := e.f.eidx,
    flags := entryFlags k e held.isSome host, code := e.code, rptcnt := held.getD 0, faddr := e.f.faddr, faddr2 := e.f.faddr2,
    fbase := k.fbase, entdepth := k.depth, rsfloor := k.rfloor, rsentry := k.rdepth, ibytes := e.ibytes,
    mccause := (e.mc.map Prod.fst).getD 0,
    gPtroot := if host then k.ptroot else 0, gPid := if host then k.pid else 0, gVecbase := if host then k.vecbase else 0,
    gTsbp := if host then k.tsbp else 0, gTsbceil := if host then k.tsbceil else 0 }

/-- The slice that a host entry block's PID selects (R301). -/
def hebSlice (c : CoreId) (b : Word × Word × Word × Word × Word) : Op (BitVec 6) := do
  let (n, s) := sliceFor (← get) c (fieldOf b.2.1 0 16) true
  set s
  return n

/-- Double-fault entry (R171, R307), or the triple fault that a failure in it is (R303). `esc` is the escalating cause. -/
def enterDouble (c : CoreId) (e : EventIn) (esc : Nat) (tsbacc : Bool) : Op Unit := do
  let k ← core c
  if k.dfw then updCore c startTriple
  else
    let host := k.pl != 0
    let blk ← if host then readHeb c k.slice else pure none
    if host && blk.isNone then updCore c startTriple
    else
      let sl ← match blk with
        | some b => hebSlice c b
        | none => pure k.slice
      let ev : EventIn := { e with f := { e.f with cause := 0x30, detail := BitVec.ofNat 8 esc }, level := 7, code := 0, mc := none }
      let t := tsbOf k ev (k.rep.map Rep.left) host
      let t := { t with flags := t.flags + (if tsbacc then 32 else 0) }
      match (← tsbTarget c sl (k.dftsbp.toNat) true) with
      | .error _ => updCore c startTriple
      | .ok tr =>
        barrowWrite c tr t.bytes (some sl)
        match blk with
        | some b => loadHeb c b
        | none => pure ()
        updCore c (fun k => { k with
          cstat := entryCstat k.cstat 0 7 false, dfWin := some {}, rep := none, stepDue := false, bpSkip := false, ext := [],
          mid := false, micro := none, begun := false,
          lastIssue := none, sbOpen := false, run := .run, pc := k.vecbase + 0x300 })

/-- Taking an event (R300, R301, R303, R307): a level-7 event escalates if it arose while ML = 7 (R54, R297); CWRs in flight land (R55), a repeat's count is pushed or held (R80, R311), the TSB
is written, CSTAT changes and the handler starts. -/
def enterEvent (c : CoreId) (e : EventIn) : Op Unit := do
  let fault : Bool := e.level == 7
  let masked := (← core c).ml == 7
  set (landAll (← get) c)
  let k0 ← core c
  if k0.dfw && fault then updCore c startTriple
  else if fault && (k0.trapw || masked) then enterDouble c e e.f.cause false
  else
    let wspill := e.f.cause == cWS
    -- the repeat count: held or pushed
    let held ← match k0.rep with
      | none => pure none
      | some r =>
        if r.fixed || wspill then pure (some r.left)
        else if k0.win.isNone && k0.opStuck.isSome && ((k0.stk.occ ≥ 8 && k0.stk.depth % 16 == 0) || k0.stk.cut != 0) then
          pure (some r.left)
        else
          push c r.left
          pure none
    let k ← core c
    let host := e.pl == 0 && k.pl != 0
    let blk ← if host then readHeb c k.slice else pure none
    if host && blk.isNone then updCore c startTriple
    else
      let sl ← match blk with
        | some b => hebSlice c b
        | none => pure k.slice
      let tsbp := match blk with
        | some b => b.2.2.2.1
        | none => k.tsbp
      let t := tsbOf k e held host
      match (← tsbTarget c sl tsbp.toNat true) with
      | .error cause => do
        updCore c (fun k => { k with stk := k0.stk, trapWin := k0.trapWin, dfWin := k0.dfWin, spillbase := k0.spillbase })
        enterDouble c e cause true
      | .ok tr =>
        barrowWrite c tr t.bytes (some sl)
        match blk with
        | some b => loadHeb c b
        | none => pure ()
        let ml := if fault then 7 else if e.level == 6 then 6 else e.level
        updCore c (fun k => { k with
          cstat := entryCstat k.cstat e.pl ml (e.f.cause == 0x41), rep := none, stepDue := false, bpSkip := false, ext := [],
          mid := false, micro := none, begun := false,
          lastIssue := none, sbOpen := false, run := .run, pc := k.vecbase + BitVec.ofNat 64 (e.f.cause * 16) })
        if wspill then updCore c (fun k => { k with trapWin := some {} })
        else
          let k ← core c
          setFbase c k.depth
          updCore c (fun k => match k.win with
            | some w => k.setWin { w with floor := w.rets.length }
            | none => { k with rstk := { k.rstk with floor := k.rstk.depth } })

/-! ### RETX -/

/-- The ring's operand stack brought to a depth (R306). Entries above are discarded, entries of 0 are pushed. -/
def OpStk.toDepth (k : OpStk) (d : Nat) : OpStk := k.removeTop (k.depth - d)

/-- Removes the top `n` return entries without reading them (R162). -/
def RetStk.removeTop (k : RetStk) (n : Nat) : RetStk :=
  if n ≤ k.ring.length then { k with ring := k.ring.drop n }
  else
    let d := k.depth - n
    let sp := (d + 7) / 8
    { k with ring := [], spilled := sp, cut := 8 * sp - d }

/-- RETX's changes of the ring's stacks (R306). -/
def retxStacks (c : CoreId) (t : Tsb) : Op Unit := do
  updCore c (fun k =>
    let st := k.stk.removeTop (k.stk.depth - t.entdepth)
    let rt := k.rstk.removeTop (k.rstk.depth - t.rsentry)
    { k with
      spillbase := k.spillbase - BitVec.ofNat 64 (128 * (k.stk.spilled - st.spilled)),
      rsspill := k.rsspill - BitVec.ofNat 64 (128 * (k.rstk.spilled - rt.spilled)), stk := st, rstk := rt })
  let k ← core c
  pushAll c (List.replicate (t.entdepth - k.stk.depth) 0)
  let rec pads : Nat → Op Unit
    | 0 => pure ()
    | n + 1 => do
      pushRet c .invalid
      pads n
  pads (t.rsentry - k.rstk.depth)
  updCore c (fun k => { k with stk := { k.stk with fbase := t.fbase }, rstk := { k.rstk with floor := t.rsfloor } })

/-- RETX (R173, R305, R306). -/
def retx (c : CoreId) : Op Next := do
  let k ← core c
  if k.pl.toNat ≥ 2 then raise cPV
  else
    let gpa := if k.dfw then k.dftsbp.toNat else k.tsbp.toNat
    match (← tsbTarget c k.slice gpa false) with
    | .error cause =>
      -- a triple fault with DFW = 1, a double fault otherwise (R303)
      if k.dfw then do
        updCore c startTriple
        return .stay
      else do
        set (landAll (← get) c)
        enterDouble c { f := { cause := cause }, level := 7, pc := k.pc, pl := 0, ibytes := 0xC4 } cause true
        return .stay
    | .ok tr =>
      let t := Tsb.ofBytes (← barrowRead c 0 tr 256)
      let pl := fieldOf t.cstat 0 2
      let ceil := max (k.tsbceil.toNat % 4) k.pl.toNat
      if t.flags / 8 % 2 = 1 && k.pl != 0 then raise cRP
      else if pl == 0b11 || decide (pl.toNat < ceil) then raise cRP
      else
        if t.flags / 8 % 2 = 1 then
          set (setPid (← get) c t.gPid true)
          updCore c (fun k => { k with
            ptroot := t.gPtroot &&& 0x1F_FFFF_FFFF_F001, vecbase := t.gVecbase &&& 0xFFFF_FFFF_FFFF_F000,
            tsbp := t.gTsbp &&& 0x1F_FFFF_FFFF_FF00, tsbceil := ceilLoaded k.tsbceil t.gTsbceil })
        updCore c (fun k => { k with cstat := t.cstat &&& 0x1FF })
        let onTrap : Bool := t.flags % 2 = 1
        if k.dfw then
          updCore c (fun k => { k with dfWin := none })
          if onTrap then
            updCore c (fun k => { k with trapWin := k.trapWin.map (fun w => { w with
              ops := List.replicate (t.entdepth - w.ops.length) 0 ++ w.ops.drop (w.ops.length - t.entdepth),
              rets := List.replicate (t.rsentry - w.rets.length) .invalid ++ w.rets.drop (w.rets.length - t.rsentry),
              fbase := t.fbase, floor := t.rsfloor }) })
          else
            updCore c (fun k => { k with trapWin := none })
            retxStacks c t
        else
          if k.trapw then
            updCore c (fun k => { k with trapWin := none, opStuck := none, rsStuck := none })
          retxStacks c t
        updCore c (fun k => { k with
          rep := if t.flags / 2 % 2 = 1 then some { left := t.rptcnt, fixed := true } else none,
          bpSkip := decide (t.flags / 16 % 2 = 1) })
        return .resume t.pc

end Sys2Proof.Machine
end

