-- ==== Sys2Proof/Machine/Block.lean ====
section
/-!
DEFINITION. Machine/Block.lean: the microcoded operations of row 0xE_, one unit of R134 at a time (R130 to R135).
-/
namespace Sys2Proof.Machine

/-- The three operands left on the stack after a unit, or removed when nothing remains (R134). -/
def unitDone (c : CoreId) (a b n : Word) : Op Next := do
  if n == 0 then
    dropTop c 3
    return .seq
  else
    updCore c (fun k => k.setOps (n :: b :: a :: k.ops.drop 3))
    return .stay

/-- Reads `n` bytes at `src` and writes what `f` makes of them at `dst`, checked in ascending address order (R95, R135). -/
def copyUnit (c : CoreId) (src dst : Word) (n : Nat) : Op Unit := do
  let (lp, sp) ← if src.toNat ≤ dst.toNat then do
      let lp ← checkAccess c .load src n
      let sp ← checkAccess c .store dst n
      pure (lp, sp)
    else do
      let sp ← checkAccess c .store dst n
      let lp ← checkAccess c .load src n
      pure (lp, sp)
  dbpCheck c [(src, n)] true false 0xFF [(dst, n)]
  let d ← loadParts c lp
  storeParts c false sp d

/-- One unit of MOVE (R131, R134). -/
def runMove (c : CoreId) : Op Next := do
  match (← peek c 3) with
  | [n, src, dst] =>
    if n == 0 then unitDone c dst src 0
    else if src.toNat < dst.toNat && decide (dst.toNat < src.toNat + n.toNat) then
      let e := (dst.toNat + n.toNat) % 16
      let u := min n.toNat (if e = 0 then 16 else e)
      let o : Word := n - BitVec.ofNat 64 u
      copyUnit c (src + o) (dst + o) u
      unitDone c dst src o
    else
      let u := min n.toNat (16 - dst.toNat % 16)
      let k := BitVec.ofNat 64 u
      copyUnit c src dst u
      unitDone c (dst + k) (src + k) (n - k)
  | _ => raise cSB

/-- One unit of FILL (R131, R134). -/
def runFill (c : CoreId) : Op Next := do
  match (← peek c 3) with
  | [n, b, dst] =>
    if n == 0 then unitDone c dst b 0
    else
      let u := min n.toNat (16 - dst.toNat % 16)
      let k := BitVec.ofNat 64 u
      store c false dst (List.replicate u (fieldOf b 0 8))
      unitDone c (dst + k) b (n - k)
  | _ => raise cSB

/-- One unit of CRC32 (R132, R134). -/
def runCrc32 (c : CoreId) : Op Next := do
  match (← peek c 3) with
  | [n, a, v] =>
    if n == 0 then
      updCore c (fun k => k.setOps (zx (fieldOf v 0 32) :: k.ops.drop 3))
      return .seq
    else
      let u := min n.toNat (16 - a.toNat % 16)
      let k := BitVec.ofNat 64 u
      let d ← load c a u
      let r : Word := zx (crcBytes (fieldOf v 0 32) d)
      if n - k == 0 then
        updCore c (fun q => q.setOps (r :: q.ops.drop 3))
        return .seq
      else unitDone c r (a + k) (n - k)
  | _ => raise cSB

/-- How two byte strings compare as unsigned bytes: the first difference decides (R131). -/
def cmpBytes : List Byte → List Byte → Word
  | x :: xs, y :: ys => if x == y then cmpBytes xs ys else if x.ult y then -1 else 1
  | _, _ => 0

/-- One unit of CMPS (R131, R134). -/
def runCmps (c : CoreId) : Op Next := do
  match (← peek c 3) with
  | [n, b, a] =>
    let finish (r : Word) : Op Next := do
      updCore c (fun k => k.setOps (r :: k.ops.drop 3))
      return .seq
    if n == 0 then finish 0
    else
      let u := min n.toNat (16 - a.toNat % 16)
      let k := BitVec.ofNat 64 u
      let (pa, pb) ← if a.toNat ≤ b.toNat then do
          let pa ← checkAccess c .load a u
          let pb ← checkAccess c .load b u
          pure (pa, pb)
        else do
          let pb ← checkAccess c .load b u
          let pa ← checkAccess c .load a u
          pure (pa, pb)
      dbpCheck c (if a.toNat ≤ b.toNat then [(a, u), (b, u)] else [(b, u), (a, u)]) true false
      let da ← loadParts c pa
      let db ← loadParts c pb
      let r := cmpBytes da db
      if r != 0 || n - k == 0 then finish r else unitDone c (a + k) (b + k) (n - k)
  | _ => raise cSB

/-- XLAT (R133): a single access at base + i × the width. -/
def runXlat (c : CoreId) (m : Byte) : Op Next := do
  let md ← modeOf m false false
  let (base, i) ← pop2 c
  loadPush c (base + i * BitVec.ofNat 64 md.n) md

end Sys2Proof.Machine
end

