-- ==== Sys2Proof/Machine/Context.lean ====
section
/-!
DEFINITION. Machine/Context.lean: ALLOC, FREE, FLUSHW, FLUSHR and the context half-saves (R175 to R185, R580).
-/
namespace Sys2Proof.Machine

/-- ALLOC (R71, R176). -/
def runAlloc (c : CoreId) (k : Byte) : Op Next := do
  legal (decide (k.toNat < 32))
  pushAll c (List.replicate k.toNat 0)
  return .seq

/-- FREE (R71, R162, R176). -/
def runFree (c : CoreId) (k : Byte) : Op Next := do
  legal (decide (k.toNat < 32))
  need c k.toNat
  dropTop c k.toNat
  return .seq

/-- Size of the upper area (R175). -/
def upperSize (b : Build) : Nat := if b.wide then 2304 else 1280

/-- Bytes of an F-stack entry (R46). -/
def fBytes (b : Build) : Nat := b.vlen / 8

/-- A list of bytes brought to a length with zeros. -/
def padTo (n : Nat) (l : List Byte) : List Byte := l.take n ++ List.replicate (n - l.length) 0

/-- The save-area header (R178). -/
def areaHeader (link : Word) (typ size vlen : Nat) : List Byte :=
  leBytes 8 link.toNat ++ leBytes 4 typ ++ leBytes 4 size ++ leBytes 4 vlen ++ List.replicate 44 0

/-- A till in its 16 bytes: sign-extended (SAVEL area). -/
def tillBytes (t : Till) : List Byte := leBytes 16 (t.signExtend 128).toNat

/-- The SAVEL area of a core's lower half (R178, R181). -/
def lowerArea (k : Core) : List Byte :=
  areaHeader k.savehead 1 1536 0 ++
  (List.finRange 4).flatMap (fun i => tillBytes k.tills[i.val]) ++
  leBytes 8 k.xp.toNat ++ leBytes 8 k.yp.toNat ++ leBytes 8 k.xstep.toNat ++ leBytes 8 k.ystep.toNat ++
  leBytes 8 k.spillbase.toNat ++ leBytes 8 k.spilllim.toNat ++ leBytes 8 k.rsspill.toNat ++ leBytes 8 k.rslim.toNat ++
  leBytes 8 k.stk.depth ++ leBytes 8 k.stk.spilled ++ leBytes 8 k.stk.fbase ++ leBytes 4 k.rstk.depth ++ leBytes 4 k.rstk.spilled ++
  List.replicate 32 0 ++
  padTo 768 (k.stk.ring.reverse.flatMap (fun w => leBytes 8 w.toNat)) ++
  padTo 512 (k.rstk.ring.reverse.flatMap retBytes)

/-- The SAVEU area of a core's upper half (R178). -/
def upperArea (b : Build) (k : Core) (vctl : Word) : List Byte :=
  areaHeader k.savehead 2 (upperSize b) b.vlen ++
  (List.finRange 7).flatMap (fun i => leBytes 8 k.masks[i.val].toNat) ++
  leBytes 8 k.fxctl.toNat ++ leBytes 8 k.fpctl.toNat ++ leBytes 8 vctl.toNat ++ List.replicate 48 0 ++
  padTo (32 * fBytes b) (k.fstk.reverse.flatMap (fun e => leBytes (fBytes b) e.toNat)) ++ List.replicate 64 0

/-- Checks of an area (R177): alignment, translation of every page, then a local target the core may use. -/
def checkArea (c : CoreId) (va : Word) (n : Nat) (st : Bool) : Op (List Part) := do
  if va.toNat % 64 != 0 then throw (.event { cause := cAL, faddr := va })
  else
    let ps ← (splitPages va n).mapM (fun (v, m) => do
      return ({ va := v, len := m, tr := ← translate c (if st then .store else .load) v } : Part))
    ps.forM (fun p => do
      let s ← get
      match target s p.tr.pa with
      | .dram a => if !st && (linesOf a p.len).any (fun l => l ∈ s.lostLines) then faultAt cBE p.va p.tr.pa else pure ()
      | .spm b _ => checkBank c b p.va p.tr.pa
      | _ => faultAt cBE p.va p.tr.pa)
    return ps

/-- Bytes written straight to checked parts of an area. -/
def writeArea (c : CoreId) : List Part → List Byte → Op Unit
  | [], _ => pure ()
  | p :: t, d => do
    barrowWrite c p.tr (d.take p.len)
    writeArea c t (d.drop p.len)

/-- Bytes read straight from checked parts of an area. -/
def readArea (c : CoreId) (ps : List Part) : Op (List Byte) := do
  let ds ← ps.mapM (fun p => barrowRead c p.va p.tr p.len)
  return ds.flatten

/-- SAVEL's spills until OCC ≤ 6 (R181). -/
def spillTo6 (c : CoreId) : Nat → Op Unit
  | 0 => pure ()
  | n + 1 => do
    if (← core c).stk.occ ≤ 6 then pure ()
    else
      awaitOp c spillOp
      spillTo6 c n

/-- The address popped by a save: from the window in use or from the ring (R175, R183). -/
def saveAddr (c : CoreId) : Op Word := do
  needPl c 1
  pop1 c

/-- SAVEL (R177, R178, R181, R183). The accesses of a half-save match no data breakpoint (R314). -/
def runSavel (c : CoreId) : Op Next := do
  let va ← saveAddr c
  let ps ← checkArea c va 1536 true
  spillTo6 c 4
  let k ← core c
  if k.stk.cut != 0 then awaitOp c refillOp
  let k ← core c
  if k.rstk.cut != 0 then awaitRet c refillRet
  let k ← core c
  writeArea c ps (lowerArea k)
  updCore c (fun k => { k with savehead := va })
  return .seq

/-- SAVEU (R177, R178). -/
def runSaveu (c : CoreId) : Op Next := do
  let va ← saveAddr c
  let s ← get
  let n := upperSize s.build
  let ps ← checkArea c va n true
  let s ← get
  let k := s.core c
  writeArea c ps (upperArea s.build k (vctlRead s k))
  updCore c (fun k => { k with savehead := va })
  return .seq

/-- The save-area fault (R179). -/
def saFault {α : Type} (c : CoreId) : Op α := do
  throw (.event { cause := cSA, faddr := (← core c).savehead })

/-- The 64-bit field of an area at an offset. -/
def areaWord (d : List Byte) (o : Nat) : Word := BitVec.ofNat 64 (blockField d o 8)

/-- RESTL's checks of the counts (R180). -/
def lowerOk (d : List Byte) : Bool :=
  let dep := blockField d 0xC0 8
  let sp := blockField d 0xC8 8
  let fb := blockField d 0xD0 8
  let rd := blockField d 0xD8 4
  let rs := blockField d 0xDC 4
  decide (sp * 16 ≤ dep) && decide (dep ≤ sp * 16 + 96) && decide (fb ≤ dep) && decide (rs * 8 ≤ rd) && decide (rd ≤ rs * 8 + 32)

/-- The core with its lower half replaced from an area (R179, R181, R580). -/
def loadLower (k : Core) (d : List Byte) : Core :=
  let n := blockField d 0xC0 8 - 16 * blockField d 0xC8 8
  let rn := blockField d 0xD8 4 - 8 * blockField d 0xDC 4
  let ring := ((chunks 8 96 ((d.drop 0x100).take 768)).map wordOfLe).take n
  let rring := ((chunks 16 32 ((d.drop 0x400).take 512)).map retOfBytes).take rn
  let till (i : Nat) : Till := BitVec.ofNat 80 (blockField d (0x40 + 16 * i) 10)
  { k with
    tills := #v[till 0, till 1, till 2, till 3],
    xp := areaWord d 0x80, yp := areaWord d 0x88, xstep := areaWord d 0x90, ystep := areaWord d 0x98,
    spillbase := areaWord d 0xA0 &&& 0xFFFF_FFFF_FFFF_FF80, spilllim := areaWord d 0xA8 &&& 0xFFFF_FFFF_FFFF_FF80,
    rsspill := areaWord d 0xB0 &&& 0xFFFF_FFFF_FFFF_FF80, rslim := areaWord d 0xB8 &&& 0xFFFF_FFFF_FFFF_FF80,
    stk := { ring := ring.reverse, spilled := blockField d 0xC8 8, cut := 0, fbase := blockField d 0xD0 8 },
    rstk := { ring := rring.reverse, spilled := blockField d 0xDC 4, cut := 0, floor := min k.rstk.floor (blockField d 0xD8 4) } }

/-- The core with its upper half replaced from an area (R179). -/
def loadUpper (b : Build) (k : Core) (d : List Byte) : Core :=
  let vc := areaWord d 0x88
  let n := (fieldOf vc 16 6).toNat
  let ent := ((chunks (fBytes b) 32 (d.drop 0xC0)).map (fun l => (BitVec.ofNat 512 (ofLe l) : FEntry))).take n
  let m (i : Nat) : Word := areaWord d (0x40 + 8 * i)
  { k with
    masks := #v[m 0, m 1, m 2, m 3, m 4, m 5, m 6], fxctl := areaWord d 0x78 &&& 0xF, fpctl := areaWord d 0x80 &&& 0x1F03,
    vctl := vc &&& 0xF, fstk := ent.reverse }

/-- RESTL (R177, R179 to R181, R183). -/
def runRestl (c : CoreId) : Op Next := do
  needPl c 1
  let va := (← core c).savehead
  if va == 0 then saFault c
  else
    let ps ← checkArea c va 1536 false
    let d ← readArea c ps
    if blockField d 8 4 != 1 || blockField d 12 4 != 1536 || blockField d 16 4 != 0 || !lowerOk d then saFault c
    else
      updCore c (fun k => { loadLower k d with savehead := areaWord d 0 &&& 0xFFFF_FFFF_FFFF_FFC0 })
      return .seq

/-- RESTU (R177, R179). -/
def runRestu (c : CoreId) : Op Next := do
  needPl c 1
  let va := (← core c).savehead
  let s ← get
  let n := upperSize s.build
  if va == 0 then saFault c
  else
    let ps ← checkArea c va n false
    let d ← readArea c ps
    if blockField d 8 4 != 2 || blockField d 12 4 != n || blockField d 16 4 != s.build.vlen ||
        decide ((fieldOf (areaWord d 0x88) 16 6).toNat > 32) then saFault c
    else
      updCore c (fun k => { loadUpper s.build k d with savehead := areaWord d 0 &&& 0xFFFF_FFFF_FFFF_FFC0 })
      return .seq

/-- FLUSHW and FLUSHR (R176). -/
def runFlush (c : CoreId) (ret : Bool) : Op Next := do
  if ret then flushRets c 4 else flushOps c 8
  return .seq

/-- Window and context instructions (R175). -/
def runWin (c : CoreId) (o : WinOp) : Op Next := match o with
  | .savel => runSavel c
  | .saveu => runSaveu c
  | .restl => runRestl c
  | .restu => runRestu c
  | .flushw => runFlush c false
  | .flushr => runFlush c true

end Sys2Proof.Machine
end

