-- ==== Sys2Proof/Machine/Encode.lean ====
section
/-!
DEFINITION. Machine/Encode.lean: the bytes of each core instruction (R65 to R75, R83 to R88), its dispatch entry (R257) and its
place in the repeatable set (R78) and the fold classes (R91).
-/
namespace Sys2Proof.Machine

/-- Little-endian bytes of an immediate (R65). -/
def immBytes {w : Nat} (n : Nat) (x : BitVec w) : List Byte := (List.range n).map (fun i => BitVec.extractLsb' (8 * i) 8 x)

/-- Opcode byte of a stack manipulation (R98). -/
def stkCode : StkOp → Byte
  | .dup => 0x01 | .drop => 0x02 | .swap => 0x03 | .over => 0x04 | .rot => 0x05 | .nrot => 0x06 | .nip => 0x07
  | .tuck => 0x08 | .dup2 => 0x09 | .drop2 => 0x0A | .swap2 => 0x0B | .over2 => 0x0C

/-- Bytes of an integer operation (R101, R104). -/
def aluCode : AluOp → List Byte
  | .add => [0x20] | .sub => [0x21] | .neg => [0x22] | .inc => [0x23] | .dec => [0x24] | .mul => [0x26] | .mulhs => [0x27]
  | .mulhu => [0x28] | .divs => [0x29] | .divu => [0x2A] | .rems => [0x2B] | .remu => [0x2C] | .min => [0x2D] | .max => [0x2E]
  | .abs => [0x2F] | .and => [0x30] | .or => [0x31] | .xor => [0x32] | .not => [0x33] | .shl => [0x34] | .shr => [0x35]
  | .sar => [0x36] | .rol => [0x37] | .clz => [0x3E] | .popc => [0x3F]
  | .sx8 => [0xF8, 0x00] | .sx16 => [0xF8, 0x01] | .sx32 => [0xF8, 0x02] | .zx8 => [0xF8, 0x03] | .zx16 => [0xF8, 0x04]
  | .zx32 => [0xF8, 0x05] | .bswap => [0xF8, 0x06] | .ctz => [0xF8, 0x07] | .ror => [0xF8, 0x08] | .bitrev => [0xF8, 0x09]
  | .sel => [0xF8, 0x0A]

/-- Bytes before the operand byte of an integer operation that has one (R101, R104). -/
def aluBCode : AluBOp → List Byte
  | .addi8 => [0x25] | .shli => [0x38] | .shri => [0x39] | .sari => [0x3A]
  | .bset => [0xF8, 0x40] | .bclr => [0xF8, 0x41] | .btst => [0xF8, 0x42] | .rori => [0xF8, 0x43]

/-- Opcode byte of a bit-field operation (R104). -/
def fieldCode : FieldOp → Byte
  | .extu => 0x3B | .exts => 0x3C | .ins => 0x3D

/-- Position of a branch condition in rows 0x6_ and 0x7_ (R115). -/
def condCode : Cond → Nat
  | .eq => 0 | .ne => 1 | .lt => 2 | .ge => 3 | .ltu => 4 | .geu => 5 | .z => 6 | .nz => 7 | .ltz => 8 | .gez => 9
  | .gtz => 10 | .lez => 11 | .always => 12

/-- Opcode byte of an atomic (R121). -/
def atomCode : AtomOp → Bool → Byte
  | .cas, false => 0xD0 | .cas, true => 0xD1 | .xchg, false => 0xD2 | .xchg, true => 0xD3 | .xadd, false => 0xD4
  | .xadd, true => 0xD5

/-- Position in row 0x9_ (R70). -/
def fracCode : FracOp → Nat
  | .tclr => 0 | .tmac => 1 | .tmsu => 2 | .trd => 3 | .tshl => 4 | .tshr => 5 | .tmov => 6 | .tld => 7 | .qmul => 8
  | .qadd => 9 | .qsub => 10 | .qneg => 11 | .qabs => 12 | .qrnd => 13 | .fmacxy => 14 | .fmsuxy => 15

/-- Position in row 0xA_ (R70). -/
def fpCode : FpOp → Nat
  | .fadd => 0 | .fsub => 1 | .fmul => 2 | .fdiv => 3 | .fsqrt => 4 | .fma => 5 | .fmin => 6 | .fmax => 7 | .fneg => 8
  | .fabs => 9 | .fcmp => 10 | .fcvt => 11 | .fld => 12 | .fst => 13 | .fstk => 14 | .fmov => 15

/-- Opcode byte of a window instruction (R175). -/
def winCode : WinOp → Byte
  | .savel => 0xB0 | .saveu => 0xB1 | .restl => 0xB2 | .restu => 0xB3 | .flushw => 0xB4 | .flushr => 0xB7

/-- Vector-page opcode (R85). -/
def vecCode : VecOp → Nat
  | .vadd => 0x00 | .vsub => 0x01 | .vmul => 0x02 | .vmulh => 0x03 | .vfma => 0x04 | .vfms => 0x05 | .vdiv => 0x06
  | .vsqrt => 0x07 | .vmin => 0x08 | .vmax => 0x09 | .vabs => 0x0A | .vneg => 0x0B
  | .vand => 0x10 | .vor => 0x11 | .vxor => 0x12 | .vnot => 0x13 | .vshl => 0x14 | .vshr => 0x15 | .vsar => 0x16
  | .vshls => 0x17 | .vshrs => 0x18 | .vsars => 0x19
  | .vcmpEq => 0x20 | .vcmpNe => 0x21 | .vcmpLt => 0x22 | .vcmpLe => 0x23 | .vcmpGt => 0x24 | .vcmpGe => 0x25 | .vcmpUn => 0x26
  | .mtail => 0x27 | .mand => 0x28 | .mor => 0x29 | .mxor => 0x2A | .mandn => 0x2B | .mpop => 0x2C | .mmov => 0x2D
  | .mrd => 0x2E | .mwr => 0x2F
  | .vcvt => 0x30 | .vbcast => 0x31 | .vperm => 0x32 | .vslideup => 0x33 | .vslidedn => 0x34 | .vziplo => 0x35
  | .vziphi => 0x36 | .vcompress => 0x37 | .vextr => 0x38 | .vins => 0x39
  | .vredadd => 0x40 | .vredmin => 0x41 | .vredmax => 0x42 | .vredand => 0x43 | .vredor => 0x44 | .vredxor => 0x45 | .vdot => 0x46
  | .vld => 0x50 | .vst => 0x51 | .vlds => 0x52 | .vsts => 0x53 | .vldx => 0x54 | .vstx => 0x55 | .vldy => 0x56
  | .vsty => 0x57 | .vgather => 0x58 | .vscatter => 0x59

/-- Opcode byte of a popped-address load: width code and sign extension (R107). -/
def ldCode (w : Fin 4) (s : Bool) : Byte :=
  if w.val = 3 then 0x46 else BitVec.ofNat 8 (0x40 + 2 * w.val + (if s then 1 else 0))

/-- The bytes of an instruction without a repeat prefix. -/
def opBytes : CoreOp → List Byte
  | .nop => [0x00] | .ill => [0x0F] | .depth => [0x0E]
  | .stk o => [stkCode o]
  | .pick k => [0x0D, k]
  | .litM1 => [0x10] | .lit k => [BitVec.ofNat 8 (0x11 + k.val)] | .lit8 i => [0x1C, i] | .lit16 i => 0x1D :: immBytes 2 i
  | .lit32 i => 0x1E :: immBytes 4 i | .lit64 i => 0x1F :: immBytes 8 i | .litpc d => [0xF8, 0x82] ++ immBytes 4 d
  | .alu o => aluCode o
  | .aluB o i => aluBCode o ++ [i]
  | .aluW .addi32 i => [0xF8, 0x80] ++ immBytes 4 i | .aluW .andi32 i => [0xF8, 0x81] ++ immBytes 4 i
  | .fld o p l => [fieldCode o, p, l]
  | .ld w s => [ldCode w s]
  | .ldS16 y => [if y then 0x49 else 0x48] | .ldS y m => [if y then 0x4B else 0x4A, m]
  | .ldd8 m d => [0x4C, m, d] | .ldd16 m d => [0x4D, m] ++ immBytes 2 d | .ldpc m d => [0x4E, m] ++ immBytes 4 d
  | .lda64 a => [0xF8, 0xC1] ++ immBytes 8 a
  | .ldl k => [0x47, k] | .stl k => [0x54, k]
  | .st w => [BitVec.ofNat 8 (0x50 + w.val)]
  | .stS16 y => [if y then 0x56 else 0x55] | .stS y m => [if y then 0x58 else 0x57, m]
  | .std8 m d => [0x59, m, d] | .std16 m d => [0x5A, m] ++ immBytes 2 d | .stpc m d => [0x5B, m] ++ immBytes 4 d
  | .br k d => [BitVec.ofNat 8 (0x60 + condCode k), d] | .brW k d => BitVec.ofNat 8 (0x70 + condCode k) :: immBytes 2 d
  | .doLoop d => [0x6D, d] | .doW d => 0x7D :: immBytes 2 d | .loop => [0x6E] | .leave => [0x6F]
  | .call n d => BitVec.ofNat 8 (0x80 + n.val) :: immBytes 2 d | .callL n d => [0x88, n] ++ immBytes 4 d | .calli n => [0x89, n]
  | .ret012 m => [BitVec.ofNat 8 (0x8A + m.val)] | .ret m => [0x8D, m] | .jmpL d => 0x8E :: immBytes 4 d | .jmpi => [0x8F]
  | .jmpa a => [0xF8, 0xC0] ++ immBytes 8 a
  | .atom o w => [atomCode o w]
  | .crd n => 0xC0 :: immBytes 2 n | .cwr n => 0xC1 :: immBytes 2 n | .syscall k => [0xC2, k] | .hypcall k => [0xC3, k]
  | .retx => [0xC4] | .wait => [0xC5] | .fenceO => [0xC6] | .fenceS => [0xC7] | .fenceI => [0xC8] | .tlbi k => [0xC9, k]
  | .cache k => [0xCA, k] | .brk => [0xCB]
  | .move => [0xE0] | .fill => [0xE1] | .crc32 => [0xE2] | .cmps => [0xE3] | .xlat m => [0xE4, m]
  | .frac o x => [BitVec.ofNat 8 (0x90 + fracCode o), x]
  | .fp o x => [BitVec.ofNat 8 (0xA0 + fpCode o), x]
  | .win o => [winCode o] | .alloc k => [0xB5, k] | .free k => [0xB6, k]
  | .vec o t none => [0xF4, BitVec.ofNat 8 (vecCode o), t]
  | .vec o t (some m) => [0xF5, BitVec.ofNat 8 (vecCode o), t, m]
  | .reserved b => b

/-- Whether an opcode byte of the vector page is assigned (R85). -/
def vecAssigned (b : Nat) : Bool :=
  b ≤ 0x0B || (0x10 ≤ b && b ≤ 0x19) || (0x20 ≤ b && b ≤ 0x39) || (0x40 ≤ b && b ≤ 0x46) || (0x50 ≤ b && b ≤ 0x59)

/-- Whether an EXT1 opcode byte is assigned (R87). -/
def ext1Assigned (b : Nat) : Bool :=
  b ≤ 0x0A || (0x40 ≤ b && b ≤ 0x43) || (0x80 ≤ b && b ≤ 0x82) || b == 0xC0 || b == 0xC1

/-- Whether a primary opcode byte is reserved, prefixes apart (R70). -/
def primReserved (b : Nat) : Bool :=
  b == 0x4F || (0x5C ≤ b && b ≤ 0x5F) || b == 0x7E || b == 0x7F || (0xB8 ≤ b && b ≤ 0xBF) || (0xCC ≤ b && b ≤ 0xCF) ||
  (0xD6 ≤ b && b ≤ 0xDF) || (0xE5 ≤ b && b ≤ 0xEF)

/-- The byte count of an extension instruction (R86). -/
def extLen (e : Byte) : Nat := match e.toNat / 64 with
  | 0 => 2 | 1 => 3 | 2 => 6 | _ => 10

/-- Whether bytes spell a reserved encoding, in the length R88 gives it, or a fault of R76, R77, R578 or R75. -/
def isReserved (l : List Byte) : Bool := match l.map BitVec.toNat with
  | [] => false
  | [b] => (primReserved b && !(0xE5 ≤ b && b ≤ 0xEF)) || b == 0xF2 || b == 0xF3 || b == 0xF6 || b == 0xF7 || 0xFA ≤ b
  | b :: e :: t =>
    let len := t.length + 2
    if 0xE5 ≤ b && b ≤ 0xEF then len == 2
    else if b == 0xC9 then len == 2 && 5 ≤ e
    else if b == 0xCA then len == 2 && 8 ≤ e
    else if b == 0xF0 then t.isEmpty && (e == 0xF0 || e == 0xF1)
    else if b == 0xF1 then (match t with | [e2] => e2 == 0xF0 || e2 == 0xF1 | _ => false)
    else if b == 0xF4 || b == 0xF5 then
      if 0xF0 ≤ e then t.isEmpty else len == (if b == 0xF4 then 3 else 4) && !vecAssigned e
    else if b == 0xF8 || b == 0xF9 then
      if 0xF0 ≤ e then t.isEmpty else len == extLen (BitVec.ofNat 8 e) && (b == 0xF9 || !ext1Assigned e)
    else false

/-- The dispatch table and opcode of an instruction's bytes (R257); none where the hardware decodes alone (R89, R259). -/
def dispatchOf (l : List Byte) : Option (Fin 4 × Byte) := match l with
  | [] => none
  | b :: t =>
    if b == 0xF4 || b == 0xF5 || b == 0xF8 || b == 0xF9 then
      match t with
      | e :: _ =>
        if 0xF0 ≤ e.toNat then none
        else some (if b == 0xF8 then 2 else if b == 0xF9 then 3 else 1, e)
      | [] => none
    else if b == 0x0F || 0xF0 ≤ b.toNat then none
    else some (0, b)

/-- The operand bytes of an instruction: OPB of R262. -/
def operandBytes (l : List Byte) : List Byte := match (match l with
    | 0xF0 :: t => t
    | 0xF1 :: _ :: t => t
    | l => l) with
  | b :: t => if b == 0xF4 || b == 0xF5 || b == 0xF8 || b == 0xF9 then t.drop 1 else t
  | [] => []

/-- Whether the encoding has hardwired logic (R258). -/
def hardwired : CoreOp → Bool
  | .move | .fill | .crc32 | .cmps | .xlat _ => false
  | .win .savel | .win .saveu | .win .restl | .win .restu => false
  | .vec .vlds _ _ | .vec .vsts _ _ | .vec .vgather _ _ | .vec .vscatter _ _ => false
  | .reserved _ => false
  | _ => true

/-- The repeatable set (R78). -/
def repeatable : CoreOp → Bool
  | .alu .mul | .alu .mulhs | .alu .mulhu | .alu .divs | .alu .divu | .alu .rems | .alu .remu => false
  | .alu _ | .aluB _ _ | .aluW _ _ | .fld _ _ _ => true
  | .ldS16 _ | .ldS _ _ | .stS16 _ | .stS _ _ => true
  | .frac .tmac _ | .frac .tmsu _ | .frac .fmacxy _ | .frac .fmsuxy _ => true
  | .vec o _ _ => !(0x27 ≤ vecCode o && vecCode o ≤ 0x2F)
  | _ => false

end Sys2Proof.Machine
end

