-- ==== Sys2Proof/Machine/CoreRun.lean ====
section
/-!
DEFINITION. Machine/CoreRun.lean: one instruction of a core from fetch to retirement, and what a Stop does (R90 to R96, R298,
R314 to R317).
-/
namespace Sys2Proof.Machine

/-- Fold class of an instruction (R91); a prefix, a page or a microcoded encoding belongs to none. -/
def foldClass : CoreOp → FoldClass
  | .litM1 | .lit _ | .lit8 _ | .ldl _ | .stk .dup | .stk .over => .producer
  | .alu .add | .alu .sub | .alu .min | .alu .max | .alu .and | .alu .or | .alu .xor | .alu .shl | .alu .shr | .alu .sar => .binAlu
  | .alu .not | .alu .inc | .alu .dec | .alu .neg | .alu .abs | .aluB .addi8 _ | .aluB .shli _ | .aluB .shri _ | .aluB .sari _ => .alu1
  | .br .eq _ | .br .ne _ | .br .lt _ | .br .ge _ | .br .ltu _ | .br .geu _ => .cmp2
  | .br .z _ | .br .nz _ | .br .ltz _ | .br .gez _ | .br .gtz _ | .br .lez _ => .cmp1
  | .stl _ => .stl
  | _ => .other

/-- Whether two classes appear together in the fold table (R91). -/
def foldPair : FoldClass → FoldClass → Bool
  | .producer, .binAlu | .producer, .cmp2 | .producer, .stl => true
  | .binAlu, .cmp1 | .alu1, .cmp1 | .binAlu, .stl | .alu1, .stl => true
  | _, _ => false

/-- Whether the instruction at the PC is the second of a folded pair whose first issued last (R91, R92). -/
def foldsWithLast (k : Core) (cls : FoldClass) (len : Nat) : Bool := match k.lastIssue with
  | none => false
  | some l =>
    !l.second && foldPair l.cls cls && l.pc.toNat / 16 == (k.pc.toNat + len - 1) / 16 && !k.sstep &&
    !((List.finRange 4).any (fun i => bitOf k.dbgctl i.val && k.ibp[i.val] == k.pc))

/-- Whether core `c` stands at an event point with an event to take before its next instruction (R296). -/
def eventDue (s : State) (c : CoreId) : Bool :=
  let k := s.core c
  k.stepDue ||
  (!k.trapw && decide (k.ml < 6) && (k.mcheck.isSome || !k.late.isEmpty)) ||
  (!k.trapw && (intrDue s c k.ml).isSome)

/-- Whether the core is inside an RPTN, which has no event point (R81). -/
def inRptn (k : Core) : Bool := k.mid && (match k.rep with
  | some r => r.fixed
  | none => false)

/-- Whether the instruction at the PC has begun and has no event point before its next one: an RPTN (R81), a microcoded stretch before
its COMMIT with EVT = 1 (R265, R266), or an instruction that waits in the
complex or for an answer from outside (R111, R296). -/
def inStretch (k : Core) : Bool := k.begun || inRptn k || !k.ext.isEmpty || (match k.micro with
  | some m => m.cc != 0
  | none => false)

/-- Whether core `c` can act at all: present, clocked, not halted, and waiting for no repair or answer. A
retired core goes on to its next event point (R481). -/
def coreLive (s : State) (c : CoreId) : Bool :=
  let k := s.core c
  s.hasCore c && coreClocked s c && !k.halted && (!k.retired || inStretch k) && k.repairWait.isNone &&
  k.ext.all (fun r => r.answer.isSome)

/-- Whether core `c` executes its next instruction now, rather than an event, a halt, a stop or a wait (R81, R93, R237,
R282, R296). -/
def canRun (s : State) (c : CoreId) (cls : FoldClass) (len : Nat) : Bool :=
  let k := s.core c
  coreLive s c && k.run == .run &&
  (match k.mcheck with | some { at? := some a, .. } => a != k.pc | _ => true) &&
  (inStretch k || (foldsWithLast k cls len && !k.stepDue) || (!k.quiesced && !k.haltReq && !eventDue s c))

/-- TLB fills of a stopped instruction are kept (R333). -/
def keepTlb (c : CoreId) (s0 s1 : State) : State :=
  s0.modCore c (fun k => { k with itlb := (s1.core c).itlb, dtlb := (s1.core c).dtlb, l2tlb := (s1.core c).l2tlb })

/-- A request of a stopped instruction goes out (R24, R25, R111, R344). -/
def sendAsk (c : CoreId) (r : ExtAsk) (s : State) : State :=
  if r.op == 7 then homeSnoop s (r.addr / 64) (r.len == 65)
  else match target s r.addr with
  | .host _ =>
    if smCanSend s then
      let id : BitVec 10 := if r.op == 8 then BitVec.ofNat 10 (0x100 + c.val) else BitVec.ofNat 10 c.val
      let s := { s with smOut := s.smOut ++ [({ id := id, addr := r.addr, write := false, len := r.len, data := [], who := .load c } : SmReq)] }
      s.modCore c (fun k => { k with ext := k.ext ++ [({ addr := r.addr, len := r.len } : ExtReq)] })
    else s
  | _ =>
    let d := match r.atom with
      | some (code, a, b) => (leBytes 8 a.toNat ++ leBytes 8 b.toNat ++ [BitVec.ofNat 8 code]).map some
      | none => []
    let s := boardSend (.load c) r.addr r.op d r.len s
    s.modCore c (fun k => { k with ext := k.ext.filter (fun q => !(q.addr == r.addr && q.len == r.len)) ++ [({ addr := r.addr, len := r.len, atom := r.atom } : ExtReq)] })

/-- The first eight bytes of an instruction: IBYTES (R299). -/
def ibytesOf (l : List Byte) : Word := wordOfLe (l.take 8)

/-- An entry is made (true), or waits with nothing but TLB fills changed (false). -/
def tryEntry (c : CoreId) (e : EventIn) (s : State) : State × Bool :=
  match (enterEvent c e) s with
  | .ok _ s' => (if (s'.core c).stepOne && (s'.core c).run == .run then s'.modCore c (fun k => haltCore k 3) else s', true)
  | .error (.ask r) s' => (sendAsk c r (keepTlb c s s'), false)
  | .error _ s' => (keepTlb c s s', false)

/-- An entry is made, or waits. -/
def runEntry (c : CoreId) (e : EventIn) (s : State) : State := (tryEntry c e s).1

/-- Whether bytes spell VLDS, VSTS, VGATHER or VSCATTER, under a repeat prefix or not. -/
def vgsBytes (l : List Byte) : Bool :=
  let l := match l with
    | 0xF0 :: t => t
    | 0xF1 :: _ :: t => t
    | l => l
  match l with
  | p :: o :: _ => (p == 0xF4 || p == 0xF5) && (o == 0x52 || o == 0x53 || o == 0x58 || o == 0x59)
  | _ => false

/-- A translation fault of such an instruction reserves 16 DTLB entries for its address (R213); the other 32 keep the entries used
most recently. -/
def reserveVgs (x : Ctx) (cause : Nat) (s : State) : State :=
  if vgsBytes x.bytes && (cause == 0x0C || cause == 0x0E) then
    s.modCore x.c (fun k => if k.vgs == some x.pc then k else
      { k with vgs := some x.pc, dtlb := (k.dtlb.map (fun e => { e with rsv := false })).take 32 })
  else s

/-- The core halts at an event point (R317): an RPT between iterations pushes its remaining count (R80); a count that no transfer lets
the stack take stays with the repeat. -/
def haltPoint (c : CoreId) (why : Word) (s : State) : State :=
  let k := s.core c
  let s : State := match k.rep with
    | some r => if r.fixed then s else match (push c r.left) s with
      | .ok _ s' => s'.modCore c (fun k => { k with rep := none })
      | .error _ _ => s
    | none => s
  s.modCore c (fun k => haltCore { k with mid := k.mid && k.rep.isSome } why)

/-- What a Stop does to the state before the instruction (R37, R95, R166, R267, R269, R315, R317). -/
def applyStop (x : Ctx) (fetch : Bool) (st : Stop) (s : State) : State :=
  let c : CoreId := x.c
  let ib : Word := if fetch then 0 else ibytesOf x.bytes
  match st with
  | .stall => if fetch then s else s.modCore c (fun k => { k with begun := true })
  | .ask r => sendAsk c r s
  | .mcheck cause pa held =>
    let s : State := s.modCore c (fun k => { k with ext := [], micro := none, begun := false, lastIssue := none })
    let s : State := if cause == 0x07 then (match target s pa with
      | .spm b _ => spmUeFound s b
      | _ => s)
      else if cause == 0x08 && pa / 64 ∈ s.dramUe && pa / 64 ∉ s.pattern then dramUeFound (pa / 64) s else s
    addMcheck c { cause := cause, pa := pa, at? := if held then some x.pc else none } s
  | .bpHalt hits => haltPoint c 2 (s.modCore c (fun k => { k with dbgstat := k.dbgstat ||| zx hits }))
  | .parity tab idx =>
    addMcheck c { cause := if tab then 0x02 ||| (BitVec.ofNat 64 (idx / 256) <<< 8) ||| (BitVec.ofNat 64 (idx % 256) <<< 16)
                           else 0x01 ||| (BitVec.ofNat 64 idx <<< 16), pa := 0 }
      (s.modCore c (fun k => { k with repairWait := some (tab, idx), micro := none, ext := [], begun := false, lastIssue := none }))
  | .spill ret mark f direct =>
    let s := if mark then s.modCore c (fun k => if ret then { k with rsStuck := some f } else { k with opStuck := some f }) else s
    let det : Byte := BitVec.ofNat 8 (f.why.toNat + (if ret then 4 else 0) + (if f.refill then 8 else 0) + (if direct then 16 else 0))
    let pl := if f.why == 0b01 then 0 else faultPl (s.core c)
    runEntry c { f := { cause := cWS, faddr := f.va, detail := det }, level := 7, pc := x.pc, pl := pl, ibytes := ib } s
  | .event f =>
    let s := reserveVgs x f.cause (s.modCore c (fun k => { k with dbgstat := k.dbgstat ||| zx f.hits }))
    let pl := if f.cause == 0x0D || f.cause == 0x0E then 0 else faultPl (s.core c)
    runEntry c { f := f, level := 7, pc := x.pc, pl := pl, ibytes := ib } s

/-- Instruction breakpoints at an address (R314). -/
def ibpHits (k : Core) (pc : Word) : Byte :=
  BitVec.ofNat 8 ((List.finRange 4).foldl (fun n i => if bitOf k.dbgctl i.val && k.ibp[i.val] == pc then n + 2 ^ i.val else n) 0)

/-- The instruction-breakpoint check (R95 item 1, R297, R315, R317). -/
def ibpCheck (x : Ctx) : Op Unit := do
  let k ← core x.c
  let halt := bitOf k.dbgctl 6
  if k.bpSkip || k.mid || k.begun || (!halt && k.ml == 7) then pure ()
  else
    let h := ibpHits k x.pc
    if h == 0 then pure ()
    else if halt then throw (.bpHalt h)
    else throw (.event { cause := 0x18, faddr := x.pc, bp := true, hits := h })

/-- After an instruction of a core has completed, or a unit of it (R54, R92, R134, R246, R315 to R317). -/
def retire (x : Ctx) (cls : FoldClass) (second stepped : Bool) (n : Next) (s : State) : State :=
  let c := x.c
  let partly : State := s.modCore c (fun k =>
    { k with ext := [], begun := false, bpSkip := k.bpSkip && (k.rep.isSome || n == .again), mid := k.pc == x.pc && k.run == .run })
  let whole (pc' : Word) (res seq : Bool) : State :=
    let s := s.modCore c (fun k => { k with
      pc := pc', ext := [], begun := false, bpSkip := res && k.bpSkip, rep := if res then k.rep else none, stepDue := stepped,
      mid := false, micro := none, lastIssue := if seq then some { cls := cls, pc := x.pc, second := second } else none })
    let s := landDue s c
    if (s.core c).met then (match (barrowSettle c 16) s with | .ok _ s' => s' | .error _ s' => s') else s
  let rehalt (s : State) : State := if (s.core c).stepOne && !(s.core c).halted then s.modCore c (fun k => haltCore k 3) else s
  match n with
  | .stay | .again => partly
  | .seq => rehalt (whole x.next false true)
  | .jump a => rehalt (whole a false false)
  | .resume a => rehalt (whole a true false)
  | .call cause code =>
    let t := whole x.next false false
    match tryEntry c { f := { cause := cause }, level := 7, pc := x.next, pl := if cause == 0x21 then 0 else faultPl (t.core c), code := code }
        (t.modCore c (fun k => { k with stepDue := false })) with
    | (t, true) => t
    | (t, false) => t.modCore c (fun k => { s.core c with itlb := k.itlb, dtlb := k.dtlb, l2tlb := k.l2tlb })

/-- How far one stretch of an instruction came. -/
inductive Progress
  /-- It completed, stopped or could not start. -/
  | over
  /-- It stands at an event point with units still to do. -/
  | point
  /-- It has committed changes and goes on without an event point. -/
  | onward
  deriving DecidableEq, Repr

/-- One stretch of an instruction: fetch (R90), breakpoint, body, retirement. -/
def runWith (c : CoreId) (cls : FoldClass) (bytes : List Byte) (body : Ctx → Op Next) (s : State) : State × Progress :=
  let k := s.core c
  let x : Ctx := { c := c, pc := k.pc, bytes := bytes, merge := k.sbOpen }
  let second := foldsWithLast k cls bytes.length
  let s0 := s.modCore c (fun k => { k with sbOpen := false })
  match (do fetchCheck x; ibpCheck x : Op Unit) s0 with
  | .error st s1 => (applyStop x (match st with | .event f => f.cause != 0x18 | _ => true) st (keepTlb c s0 s1), .over)
  | .ok _ s1 =>
    match body x s1 with
    | .error st s2 => (applyStop x false st (keepTlb c s1 s2), .over)
    | .ok n s2 =>
      let here := (s2.core c).pc == k.pc && (s2.core c).run == .run
      (retire x cls second (k.sstep && decide (k.ml < 7)) n s2,
        if n == .stay && here then .point else if n == .again && here then .onward else .over)

end Sys2Proof.Machine
end

