-- ==== Sys2Proof/Machine/System.lean ====
section
/-!
DEFINITION. Machine/System.lean: the system instructions (R51 to R58, R124 to R129, R336, R340, R341).
-/
namespace Sys2Proof.Machine

/-- UCODE_ID of a core's cluster (R58, R280, R281). -/
def ucodeId (s : State) (c : CoreId) : Word :=
  let k := s.ctl[(clusterOf c).val]
  zx k.pkg ||| (zx k.gen <<< 32)

/-- A control register's access rule: number, least privileged reader, least privileged writer (3: read-only) (R51). -/
def cregRule (n : Nat) : Option (Nat × Nat) :=
  if n = 0x000 then some (2, 1)
  else if n = 0x001 || n = 0x002 || n = 0x004 || n = 0x005 then some (1, 1)
  else if n = 0x003 then some (1, 0)
  else if n = 0x010 then some (1, 3)
  else if 0x011 ≤ n && n ≤ 0x014 then some (1, 1)
  else if 0x020 ≤ n && n ≤ 0x023 then some (2, 2)
  else if 0x030 ≤ n && n ≤ 0x032 then some (2, 2)
  else if n = 0x040 || n = 0x041 then some (1, 1)
  else if n = 0x042 then some (1, 3)
  else if n = 0x050 || n = 0x051 || n = 0x060 then some (2, 3)
  else if 0x070 ≤ n && n ≤ 0x07F then some (0, 0)
  else none

/-- The value that a control register reads as (R58). -/
def cregRead (s : State) (c : CoreId) (n : Nat) : Word :=
  let k := s.core c
  match n with
  | 0x000 => k.cstat | 0x001 => k.tsbp | 0x002 => k.tsbceil | 0x003 => k.dftsbp | 0x004 => k.vecbase | 0x005 => k.savehead
  | 0x010 => winstat k
  | 0x011 => k.spillbase | 0x012 => k.spilllim | 0x013 => k.rsspill | 0x014 => k.rslim
  | 0x020 => k.xp | 0x021 => k.yp | 0x022 => k.xstep | 0x023 => k.ystep
  | 0x030 => k.fxctl | 0x031 => k.fpctl | 0x032 => vctlRead s k
  | 0x040 => k.ptroot | 0x041 => k.pid | 0x042 => zx k.slice
  | 0x050 => s.sys.count | 0x051 => coreId s c | 0x060 => ucodeId s c
  | n => dbgRead k n

/-- TSBCEIL as written from a PL (R53, R58). -/
def tsbceilWritten (old v : Word) (pl : Nat) : Word :=
  let x := v.toNat % 4
  if x = 3 then old else if x < pl then BitVec.ofNat 64 pl else BitVec.ofNat 64 x

/-- A control-register write whose effect is at the next instruction (R54, R58). -/
def cregWriteNow (k : Core) (n : Nat) (v : Word) (pl : Nat) : Core :=
  match n with
  | 0x001 => { k with tsbp := v &&& 0x1F_FFFF_FFFF_FF00 }
  | 0x002 => { k with tsbceil := tsbceilWritten k.tsbceil v pl }
  | 0x003 => { k with dftsbp := v &&& 0x1F_FFFF_FFFF_FF00 }
  | 0x005 => { k with savehead := v &&& 0xFFFF_FFFF_FFFF_FFC0 }
  | 0x011 => { k with spillbase := v &&& 0xFFFF_FFFF_FFFF_FF80 }
  | 0x012 => { k with spilllim := v &&& 0xFFFF_FFFF_FFFF_FF80 }
  | 0x013 => { k with rsspill := v &&& 0xFFFF_FFFF_FFFF_FF80 }
  | 0x014 => { k with rslim := v &&& 0xFFFF_FFFF_FFFF_FF80 }
  | 0x020 => { k with xp := v } | 0x021 => { k with yp := v }
  | 0x022 => { k with xstep := v } | 0x023 => { k with ystep := v }
  | 0x030 => { k with fxctl := v &&& 0xF }
  | 0x031 => { k with fpctl := v &&& 0x1F03 }
  | 0x032 => { k with vctl := v &&& 0xF }
  | n => if 0x070 ≤ n && n ≤ 0x078 then dbgWrite k n v else k

/-- How many instructions after the CWR still run under the old value (R54); none for an effect at the next instruction. -/
def cwrDelay (n : Nat) : Option Nat :=
  if n = 0x000 then some 2 else if n = 0x040 || n = 0x041 || n = 0x004 then some 4 else none

/-- The write of a control register once it is allowed (R54). `past`: the write is no instruction that is still to complete, so the count
starts after it. -/
def cregWrite (c : CoreId) (n : Nat) (v : Word) (past : Bool := false) : Op Unit := do
  let k ← core c
  match cwrDelay n with
  | some d =>
    let p : PendCwr := { reg := BitVec.ofNat 12 n, val := v, left := if past then d else d + 1, pl0 := k.pl == 0 }
    updCore c (fun k => { k with pend := k.pend ++ [p] })
  | none => updCore c (fun k => cregWriteNow k n v k.pl.toNat)

/-- The enable checks of FPCTL and VCTL (R52). -/
def cregEnabled (k : Core) (n : Nat) : Op Unit :=
  if n = 0x031 && !k.fen then raise cFD else if n = 0x032 && !k.ven then raise cVD else pure ()

/-- CRD (R51, R52, R75). -/
def runCrd (c : CoreId) (n : Half) : Op Next := do
  let k ← core c
  match cregRule n.toNat with
  | none => raise cIL
  | some (rd, _) =>
    needPl c rd
    cregEnabled k n.toNat
    push c (cregRead (← get) c n.toNat)
    return .seq

/-- CWR (R51 to R54, R75). A write to a read-only register from a level that may read it is ignored. -/
def runCwr (c : CoreId) (n : Half) : Op Next := do
  let k ← core c
  match cregRule n.toNat with
  | none => raise cIL
  | some (rd, wr) =>
    needPl c (if wr = 3 then rd else wr)
    cregEnabled k n.toNat
    need c 1
    let v ← pop1 c
    if n = 0x000 && decide (v.toNat % 4 < k.pl.toNat) then raise cPV
    else if wr = 3 then return .seq
    else
      cregWrite c n.toNat v
      return .seq

/-- FENCE.O and FENCE.S: every earlier store and cache operation is performed (R125, R233, R341). -/
def runFence (c : CoreId) : Op Next := do
  drainAll c
  return .seq

/-- FENCE.I: FENCE.O, and earlier CWRs take effect (R55, R126). -/
def runFenceI (c : CoreId) : Op Next := do
  drainAll c
  set (landAll (← get) c)
  return .seq

/-- WAIT (R128): ends at once when a wake condition already holds. -/
def runWait (c : CoreId) : Op Next := do
  needPl c 1
  let s ← get
  let k := s.core c
  if viewAny s c || k.mcheck.isSome || !k.late.isEmpty || k.haltReq then return .seq
  else
    updCore c (fun k => { k with run := .wait })
    return .seq

/-- BRK (R127): the breakpoint event, or a halt where the debug registers select halting (R317). -/
def runBrk (c : CoreId) : Op Next := do
  let k ← core c
  if bitOf k.dbgctl 6 && !k.bpSkip then throw (.bpHalt 0)
  else if bitOf k.dbgctl 6 then return .seq
  else throw (.event { cause := 0x1B })

/-! ### TLBI -/

/-- The L2 TLB, ITLB or DTLB without the entries that meet a test. -/
def tlbDrop (c : CoreId) (p : TlbEntry → Bool) : Op Unit :=
  updCore c (fun k => { k with
    itlb := k.itlb.filter (fun e => !p e), dtlb := k.dtlb.filter (fun e => !p e), l2tlb := k.l2tlb.filter (fun e => !p e) })

/-- A stage-1 table entry (R334). -/
def TlbEntry.isTable (e : TlbEntry) : Bool := match e.kind with
  | .table _ => true
  | _ => false

/-- Whether TLBI with a selector removes an entry of slice `n` (R336). -/
def tlbiHits (sel : Nat) (n : BitVec 6) (va : Word) (pid : BitVec 16) (e : TlbEntry) : Bool :=
  e.slice == n &&
  (match sel with
   | 0 => e.kind == .combined || e.isTable
   | 1 => (e.kind == .combined && e.covers va.toNat) || e.isTable
   | 2 => (e.kind == .combined && e.pid == pid && !e.glob) || e.isTable
   | 3 => (e.kind == .combined && e.covers va.toNat && (e.pid == pid || e.glob)) || e.isTable
   | _ => true)

/-- TLBI (R75, R129, R336). -/
def runTlbi (c : CoreId) (sel : Byte) : Op Next := do
  legal (decide (sel.toNat < 5))
  needPl c (if sel == 4 then 0 else 1)
  let n := (← core c).slice
  match sel.toNat with
  | 1 => do
    let va ← pop1 c
    tlbDrop c (tlbiHits 1 n va 0)
  | 2 => do
    let pid ← pop1 c
    tlbDrop c (tlbiHits 2 n 0 (fieldOf pid 0 16))
  | 3 => do
    let (va, pid) ← pop2 c
    tlbDrop c (tlbiHits 3 n va (fieldOf pid 0 16))
  | k => tlbDrop c (tlbiHits k n 0 0)
  return .seq

/-! ### CACHE -/

/-- Whether a translated address is DRAM, on which DC operations act whatever its NC value (R129, R341). -/
def dramLine (s : State) (t : Tr) : Bool := match target s t.pa with
  | .dram _ => true
  | .board _ off => decide (off < 0x40_0000_0000)
  | _ => false

/-- A cache operation enters the store buffer in an entry of its own (R341, R232). -/
def mopPut (c : CoreId) (m : CacheMop) (t : Tr) : Op Unit := do
  let k ← core c
  if k.sb.length ≥ 8 then drainOp c (k.sb.length - 7)
  let e : SbEntry := { addr := alignDown t.pa 64, bytes := [], mtype := .cacheable, gpa := t.gpa, pl := k.pl, slice := k.slice, mop := some m }
  updCore c (fun k => { k with sb := k.sb ++ [e] })

/-- Whether a line may be locked: local cacheable DRAM (R340). -/
def lockable (s : State) (t : Tr) : Bool := match target s t.pa with
  | .dram _ => !t.nc
  | _ => false

/-- The line read for a lock or a fill, as a load or fetch reads it (R340). -/
def fillLine (c : CoreId) (va : Word) (t : Tr) (fetch : Bool) : Op Unit := do
  let s ← get
  if dramLine s t && !t.nc then
    drainOver c (alignDown t.pa 64) 64
    let _ ← loadPart c fetch { va := va, len := 1, tr := t }
  else pure ()

/-- L1.LOCK (R340). -/
def l1Lock (c : CoreId) (va : Word) (t : Tr) : Op Unit := do
  fillLine c va t t.x
  let s ← get
  let line := t.pa / 64
  if lockable s t then
    updCore c (fun k =>
      let l := if t.x then k.l1i else k.l1d
      let used := (l.filter (fun e => e.locked && e.line % 128 == line % 128 && e.line != line)).length
      if used < 2 then
        let l' := updFirst (fun e => e.line == line) (fun e => { e with locked := true }) l
        if t.x then { k with l1i := l' } else { k with l1d := l' }
      else k)
  else pure ()

/-- L2.LOCK (R340): at most 3 locked lines of the core and 12 of the cluster in a set. -/
def l2Lock (c : CoreId) (va : Word) (t : Tr) : Op Unit := do
  let s ← get
  let line := t.pa / 64
  let j := coreSlot c
  if lockable s t then
    match badLine s c line with
    | some m => throw (.mcheck m (line * 64) true)
    | none =>
      if remoteHolds s line false then throw (.ask { addr := line * 64, len := 64, op := 7 })
      else
        let s := fillL2 s (clusterOf c) line
        let l := s.l2[(clusterOf c).val]
        let same := l.filter (fun e => e.line % 1024 == line % 1024 && e.line != line)
        let mine := (same.filter (fun e => j ∈ e.lockers)).length
        let all := (same.filter (fun e => !e.lockers.isEmpty)).length
        if mine < 3 && all < 12 then
          let l' := updFirst (fun e : L2Line => e.line == line) (fun e => { e with lockers := insertNew j e.lockers }) l
          set { s with l2 := s.l2.set (clusterOf c).val l' }
        else set s
  else fillLine c va t false

/-- UNLOCK (R340): the core's locks in L1I, L1D and L2; a reservation without a line goes. -/
def unlockLine (c : CoreId) (t : Tr) : Op Unit := do
  let line := t.pa / 64
  let f (l : List L1Line) : List L1Line :=
    l.filterMap (fun e => if e.line == line then (if e.held then some { e with locked := false } else none) else some e)
  updCore c (fun k => { k with l1i := f k.l1i, l1d := f k.l1d })
  let s ← get
  let g (e : L2Line) : Option L2Line :=
    if e.line == line then
      let e' := { e with lockers := e.lockers.filter (· != coreSlot c) }
      if e'.held || !e'.lockers.isEmpty then some e' else none
    else some e
  set { s with l2 := s.l2.set (clusterOf c).val (s.l2[(clusterOf c).val].filterMap g) }

/-- CACHE (R75, R129, R340, R341). -/
def runCache (c : CoreId) (sel : Byte) : Op Next := do
  legal (decide (sel.toNat < 8))
  needPl c (if sel == 0 || sel == 2 || sel == 3 then 2 else 1)
  if sel == 4 then
    updCore c (fun k => { k with l1i := k.l1i.filterMap (fun e => if e.locked then some { e with held := false } else none) })
    return .seq
  else
    let va ← pop1 c
    let t0 ← translate c .load va
    let s ← get
    let t : Tr := { t0 with pa := localAddr s t0.pa }
    if !dramLine s t then return .seq
    else
      match sel.toNat with
      | 0 => mopPut c .dcClean t
      | 1 => mopPut c .dcInv t
      | 2 => mopPut c .dcClinv t
      | 3 => mopPut c .icInv t
      | 5 => l1Lock c va t
      | 6 => l2Lock c va t
      | _ => unlockLine c t
      return .seq

end Sys2Proof.Machine
end

