-- ==== Sys2Proof/Machine/Frac.lean ====
section
/-!
DEFINITION. Machine/Frac.lean: fractional arithmetic and the tills (R45, R73, R136 to R150).
-/
namespace Sys2Proof.Machine

/-- rnd(v, k) under a rounding mode of FXCTL.RM or VCTL.VRM (R137). -/
def rnd (rm : BitVec 2) (v : Int) (k : Nat) : Int :=
  if k = 0 then v
  else
    let q := v / 2 ^ k
    let r := v - q * 2 ^ k
    let h : Int := 2 ^ (k - 1)
    match rm.toNat with
    | 0 => q
    | 1 => if r ≥ h then q + 1 else q
    | 2 => if r > h || (r == h && q % 2 == 1) then q + 1 else q
    | _ => if q < 0 && r != 0 then q + 1 else q

/-- fit(v, w) with saturation on or off: the value brought into `w` bits, and whether it was clamped (R138). -/
def fit (sat : Bool) (v : Int) (w : Nat) : Int × Bool :=
  let max : Int := 2 ^ (w - 1) - 1
  let min : Int := -(2 ^ (w - 1))
  if min ≤ v && v ≤ max then (v, false)
  else if sat then (if v > max then max else min, true)
  else (v.bmod (2 ^ w), false)

/-- A fractional format: fraction bits and width (R140). -/
structure QFmt where
  /-- Fraction bits f. -/
  f : Nat
  /-- Width w. -/
  w : Nat
  deriving DecidableEq, Repr

/-- The format that field Q of an operand byte names (R73, R140). -/
def qFmt (x : Byte) : QFmt := match x.toNat / 4 % 4 with
  | 0 => { f := 15, w := 16 }
  | 1 => { f := 31, w := 32 }
  | _ => { f := 63, w := 64 }

/-- The low `w` bits of a word as a signed value (R35, R143). -/
def qVal (w : Nat) (a : Word) : Int := Int.bmod (a.toNat : Int) (2 ^ w)

/-- A product aligned to the till (R140). -/
def alignProduct (rm : BitVec 2) (q : QFmt) (p : Int) : Int :=
  if q.f = 63 then rnd rm p 55 else p * 2 ^ (71 - 2 * q.f)

/-- Whether an operand byte is legal for a fractional instruction (R73). -/
def fracLegal (o : FracOp) (x : Byte) : Bool :=
  let t := x.toNat % 4
  let q := x.toNat / 4 % 4
  let xf := x.toNat / 16
  decide (q < 3) &&
  (match o with
   | .qmul | .qadd | .qsub | .qneg | .qabs | .qrnd => t == 0
   | _ => true) &&
  (match o with
   | .tshl | .tshr => true
   | .tmov => decide (xf < 4)
   | _ => xf == 0)

/-- The core with a value written to a till under fit (R138, R139). -/
def setTill (t : Fin 4) (v : Int) (k : Core) : Core :=
  let (r, ov) := fit (bitOf k.fxctl 2) v 80
  { k with tills := k.tills.set t.val (BitVec.ofInt 80 r), fxctl := if ov then k.fxctl ||| 8 else k.fxctl }

/-- A value fitted to `w` bits under FXCTL and pushed, sign-extended (R138, R139, R143). -/
def pushFit (c : CoreId) (v : Int) (w : Nat) : Op Next := do
  let k ← core c
  let (r, ov) := fit (bitOf k.fxctl 2) v w
  updCore c (fun k => { k with fxctl := if ov then k.fxctl ||| 8 else k.fxctl })
  push c (BitVec.ofInt 64 r)
  return .seq

/-- The checked parts of two loads, in the order of R95 item 6. -/
def checkTwo (c : CoreId) (a b : Word) (n : Nat) : Op (List Part × List Part) := do
  if a.toNat ≤ b.toNat then
    let p ← checkAccess c .load a n
    let q ← checkAccess c .load b n
    return (p, q)
  else
    let q ← checkAccess c .load b n
    let p ← checkAccess c .load a n
    return (p, q)

/-- FMACXY and FMSUXY (R148). -/
def runTap (c : CoreId) (sub : Bool) (t : Fin 4) (q : QFmt) : Op Next := do
  let k ← core c
  let n := q.w / 8
  let (pa, pb) ← checkTwo c k.xp k.yp n
  dbpCheck c (if k.xp.toNat ≤ k.yp.toNat then [(k.xp, n), (k.yp, n)] else [(k.yp, n), (k.xp, n)]) true false
  let a ← loadParts c pa
  let b ← loadParts c pb
  let p := alignProduct (fieldOf k.fxctl 0 2) q (qVal q.w (wordOfLe a) * qVal q.w (wordOfLe b))
  updCore c (fun k => setTill t ((k.tills[t.val]).toInt + (if sub then -p else p))
    { k with xp := k.xp + k.xstep, yp := k.yp + k.ystep })
  return .seq

/-- Row 0x9_ (R142, R143). -/
def runFrac (c : CoreId) (o : FracOp) (x : Byte) : Op Next := do
  legal (fracLegal o x)
  let q := qFmt x
  let t : Fin 4 := ⟨x.toNat % 4, by omega⟩
  let n := x.toNat / 16
  let k ← core c
  let rm := fieldOf k.fxctl 0 2
  let tv := (k.tills[t.val]).toInt
  match o with
  | .tclr => do
    updCore c (fun k => { k with tills := k.tills.set t.val 0 })
    return .seq
  | .tmac => do
    let (a, b) ← pop2 c
    updCore c (setTill t (tv + alignProduct rm q (qVal q.w a * qVal q.w b)))
    return .seq
  | .tmsu => do
    let (a, b) ← pop2 c
    updCore c (setTill t (tv - alignProduct rm q (qVal q.w a * qVal q.w b)))
    return .seq
  | .trd => pushFit c (rnd rm tv (71 - q.f)) q.w
  | .tshl => do
    updCore c (setTill t (tv * 2 ^ (n + 1)))
    return .seq
  | .tshr => do
    updCore c (fun k => { k with tills := k.tills.set t.val (BitVec.ofInt 80 (rnd rm tv (n + 1))) })
    return .seq
  | .tmov => do
    updCore c (fun k => { k with tills := k.tills.set t.val (k.tills[n % 4]'(Nat.mod_lt _ (by decide))) })
    return .seq
  | .tld => do
    let a ← pop1 c
    updCore c (fun k => { k with tills := k.tills.set t.val (BitVec.ofInt 80 (qVal q.w a * 2 ^ (71 - q.f))) })
    return .seq
  | .qmul => do
    let (a, b) ← pop2 c
    pushFit c (rnd rm (qVal q.w a * qVal q.w b) q.f) q.w
  | .qadd => do
    let (a, b) ← pop2 c
    pushFit c (qVal q.w a + qVal q.w b) q.w
  | .qsub => do
    let (a, b) ← pop2 c
    pushFit c (qVal q.w a - qVal q.w b) q.w
  | .qneg => do
    let a ← pop1 c
    pushFit c (-qVal q.w a) q.w
  | .qabs => do
    let a ← pop1 c
    pushFit c (qVal q.w a).natAbs q.w
  | .qrnd => do
    let (a, b) ← pop2 c
    let m := min (b.toNat % 64) q.f
    pushFit c (rnd rm (qVal q.w a) m * 2 ^ m) q.w
  | .fmacxy => runTap c false t q
  | .fmsuxy => runTap c true t q

end Sys2Proof.Machine
end

