-- ==== Sys2Proof/Machine/Float.lean ====
section
/-!
DEFINITION. Machine/Float.lean: IEEE 754-2019 arithmetic in binary16, binary32 and binary64 within the choices of R195: values as
exact dyadic numbers, one rounding, sticky flags. Flags are held as a 5-bit set in the order of FPCTL[12:8]: 1 NV, 2 DZ, 4 OF, 8 UF,
16 NX (R62).
-/
namespace Sys2Proof.Machine

/-- A floating format: precision (bits of significand) and greatest exponent (R12, R195). -/
structure FFmt where
  /-- Width in bits. -/
  w : Nat
  /-- Significand bits, hidden bit included. -/
  p : Nat
  /-- Greatest exponent, which is also the bias. -/
  emax : Nat
  deriving DecidableEq, Repr

def binary16 : FFmt := { w := 16, p := 11, emax := 15 }
def binary32 : FFmt := { w := 32, p := 24, emax := 127 }
def binary64 : FFmt := { w := 64, p := 53, emax := 1023 }

/-- Flags of FPCTL[12:8]. -/
abbrev FFlags := BitVec 5
def fNV : FFlags := 1
def fDZ : FFlags := 2
def fOF : FFlags := 4
def fUF : FFlags := 8
def fNX : FFlags := 16

/-- A value read from a format. -/
inductive FVal
  /-- A NaN, signalling or not. -/
  | nan (signalling : Bool)
  /-- An infinity. -/
  | inf (neg : Bool)
  /-- ± m × 2^e, m = 0 being a signed zero. -/
  | fin (neg : Bool) (m : Nat) (e : Int)
  deriving DecidableEq, Repr

/-- The bits of +∞. -/
def FFmt.infBits (f : FFmt) : Nat := (2 * f.emax + 1) * 2 ^ (f.p - 1)
/-- The canonical quiet NaN (R195). -/
def FFmt.nanBits (f : FFmt) : Nat := f.infBits + 2 ^ (f.p - 2)
/-- A sign bit in place. -/
def FFmt.signBits (f : FFmt) (neg : Bool) : Nat := if neg then 2 ^ (f.w - 1) else 0

/-- The value that `w` bits hold. -/
def FFmt.read (f : FFmt) (b : Nat) : FVal :=
  let neg := b / 2 ^ (f.w - 1) % 2 == 1
  let be := b / 2 ^ (f.p - 1) % (2 * f.emax + 2)
  let fr := b % 2 ^ (f.p - 1)
  if be == 2 * f.emax + 1 then (if fr == 0 then .inf neg else .nan (fr < 2 ^ (f.p - 2)))
  else if be == 0 then .fin neg fr (2 - f.emax - f.p)
  else .fin neg (fr + 2 ^ (f.p - 1)) ((be : Int) + 1 - f.emax - f.p)

/-- A magnitude m × 2^e rounded to a multiple of 2^t under FPCTL.RM, as a count of 2^t, and whether that was inexact (R62). -/
def roundMag (rm : BitVec 2) (neg : Bool) (m : Nat) (e t : Int) : Nat × Bool :=
  if t ≤ e then (m * 2 ^ (e - t).toNat, false)
  else
    let k := (t - e).toNat
    let q := m / 2 ^ k
    let r := m % 2 ^ k
    let h := 2 ^ (k - 1)
    let up : Bool := match rm.toNat with
      | 0 => r > h || (r == h && q % 2 == 1)
      | 1 => false
      | 2 => !neg && r != 0
      | _ => neg && r != 0
    (if up then q + 1 else q, r != 0)

/-- The bits of a zero. -/
def FFmt.zero (f : FFmt) (neg : Bool) : Nat := f.signBits neg

/-- An exact ± m × 2^e rounded into a format, with its flags: one rounding, tininess after rounding (R195). -/
def FFmt.round (f : FFmt) (rm : BitVec 2) (neg : Bool) (m : Nat) (e : Int) : Nat × FFlags :=
  if m = 0 then (f.zero neg, 0)
  else
    let top : Int := e + m.log2
    let emin : Int := 1 - f.emax
    let t : Int := (if top < emin then emin else top) - (f.p - 1)
    let (n, nx) := roundMag rm neg m e t
    let bits := ((t + f.p - 2 + f.emax).toNat) * 2 ^ (f.p - 1) + n
    let (nu, _) := roundMag rm neg m e (top - (f.p - 1))
    let tiny := decide (top < emin) && !(top == emin - 1 && nu == 2 ^ f.p)
    if bits ≥ f.infBits then
      let toInf : Bool := match rm.toNat with
        | 0 => true
        | 1 => false
        | 2 => !neg
        | _ => neg
      (f.signBits neg + (if toInf then f.infBits else f.infBits - 1), fOF ||| fNX)
    else (f.signBits neg + bits, (if nx then fNX else 0) ||| (if tiny && nx then fUF else 0))

/-- NV when any operand is a signalling NaN. -/
def snanFlag (l : List FVal) : FFlags :=
  if l.any (fun v => match v with | .nan true => true | _ => false) then fNV else 0

/-- Whether a value is a NaN. -/
def FVal.isNan : FVal → Bool
  | .nan _ => true
  | _ => false

/-- A signed dyadic number as an integer count of 2^t, for t at most its exponent. -/
def dyad (neg : Bool) (m : Nat) (e t : Int) : Int :=
  let n : Int := (m * 2 ^ (e - t).toNat : Nat)
  if neg then -n else n

/-- The exact sum of two dyadic numbers rounded; an exact zero sum takes the sign that IEEE 754 gives it. -/
def FFmt.sumFin (f : FFmt) (rm : BitVec 2) (na : Bool) (ma : Nat) (ea : Int) (nb : Bool) (mb : Nat) (eb : Int) : Nat × FFlags :=
  let t := min ea eb
  let v := dyad na ma ea t + dyad nb mb eb t
  if v = 0 then
    (f.zero (if ma = 0 && mb = 0 && na == nb then na else rm == 3), 0)
  else f.round rm (decide (v < 0)) v.natAbs t

/-- Addition (R195). -/
def FFmt.add (f : FFmt) (rm : BitVec 2) (a b : Nat) : Nat × FFlags :=
  let x := f.read a
  let y := f.read b
  match x, y with
  | .nan _, _ | _, .nan _ => (f.nanBits, snanFlag [x, y])
  | .inf n, .inf m => if n == m then (f.signBits n + f.infBits, 0) else (f.nanBits, fNV)
  | .inf n, _ => (f.signBits n + f.infBits, 0)
  | _, .inf n => (f.signBits n + f.infBits, 0)
  | .fin na ma ea, .fin nb mb eb => f.sumFin rm na ma ea nb mb eb

/-- The sign bit changed (FNEG, VNEG; R195). -/
def FFmt.neg (f : FFmt) (a : Nat) : Nat := if a / 2 ^ (f.w - 1) % 2 = 1 then a - 2 ^ (f.w - 1) else a + 2 ^ (f.w - 1)
/-- The sign bit cleared (FABS, VABS; R195). -/
def FFmt.abs (f : FFmt) (a : Nat) : Nat := a % 2 ^ (f.w - 1)

/-- Subtraction. -/
def FFmt.sub (f : FFmt) (rm : BitVec 2) (a b : Nat) : Nat × FFlags := f.add rm a (f.neg b)

/-- Multiplication. -/
def FFmt.mul (f : FFmt) (rm : BitVec 2) (a b : Nat) : Nat × FFlags :=
  let x := f.read a
  let y := f.read b
  match x, y with
  | .nan _, _ | _, .nan _ => (f.nanBits, snanFlag [x, y])
  | .inf n, .inf m => (f.signBits (n != m) + f.infBits, 0)
  | .inf n, .fin m z _ | .fin m z _, .inf n =>
    if z = 0 then (f.nanBits, fNV) else (f.signBits (n != m) + f.infBits, 0)
  | .fin na ma ea, .fin nb mb eb => f.round rm (na != nb) (ma * mb) (ea + eb)

/-- Division: the quotient to 2p + 3 bits with a sticky bit, then one rounding. -/
def FFmt.div (f : FFmt) (rm : BitVec 2) (a b : Nat) : Nat × FFlags :=
  let x := f.read a
  let y := f.read b
  match x, y with
  | .nan _, _ | _, .nan _ => (f.nanBits, snanFlag [x, y])
  | .inf _, .inf _ => (f.nanBits, fNV)
  | .inf n, .fin m _ _ => (f.signBits (n != m) + f.infBits, 0)
  | .fin n _ _, .inf m => (f.zero (n != m), 0)
  | .fin na ma ea, .fin nb mb eb =>
    if mb = 0 then (if ma = 0 then (f.nanBits, fNV) else (f.signBits (na != nb) + f.infBits, fDZ))
    else if ma = 0 then (f.zero (na != nb), 0)
    else
      let k := 2 * f.p + 3
      let n := ma * 2 ^ k
      let q := n / mb
      f.round rm (na != nb) (2 * q + (if n % mb = 0 then 0 else 1)) (ea - eb - k - 1)

/-- The integer square root, bit by bit from bit `k`. -/
def isqrtFrom (n : Nat) : Nat → Nat → Nat
  | 0, r => if (r + 1) * (r + 1) ≤ n then r + 1 else r
  | k + 1, r => isqrtFrom n k (if (r + 2 ^ (k + 1)) * (r + 2 ^ (k + 1)) ≤ n then r + 2 ^ (k + 1) else r)

/-- Square root: the root to more than p + 2 bits with a sticky bit, then one rounding. -/
def FFmt.sqrt (f : FFmt) (rm : BitVec 2) (a : Nat) : Nat × FFlags :=
  let x := f.read a
  match x with
  | .nan _ => (f.nanBits, snanFlag [x])
  | .inf false => (f.infBits, 0)
  | .inf true => (f.nanBits, fNV)
  | .fin n m e =>
    if m = 0 then (f.zero n, 0)
    else if n then (f.nanBits, fNV)
    else
      let k : Nat := 2 * f.p + 4 + (e % 2).toNat
      let v := m * 2 ^ k
      let r := isqrtFrom v (2 * f.p + 3) 0
      f.round rm false (2 * r + (if r * r = v then 0 else 1)) ((e - k) / 2 - 1)

/-- a × b + c with one rounding. Of ∞ × 0 with a quiet NaN for c, IEEE 754-2019 leaves NV open: Config.fmaNanInvalid. -/
def FFmt.fma (f : FFmt) (rm : BitVec 2) (a b c : Nat) : Nat × FFlags :=
  let x := f.read a
  let y := f.read b
  let z := f.read c
  let badProduct : Bool := match x, y with
    | .inf _, .fin _ 0 _ | .fin _ 0 _, .inf _ => true
    | _, _ => false
  if x.isNan || y.isNan || z.isNan then
    (f.nanBits, snanFlag [x, y, z] ||| (if badProduct && Config.fmaNanInvalid then fNV else 0))
  else if badProduct then (f.nanBits, fNV)
  else
    let sgn : FVal → Bool
      | .inf n => n
      | .fin n _ _ => n
      | .nan _ => false
    let ps := sgn x != sgn y
    match x, y, z with
    | .fin _ ma ea, .fin _ mb eb, .fin nc mc ec => f.sumFin rm ps (ma * mb) (ea + eb) nc mc ec
    | .fin _ _ _, .fin _ _ _, .inf n => (f.signBits n + f.infBits, 0)
    | _, _, .inf n => if n == ps then (f.signBits n + f.infBits, 0) else (f.nanBits, fNV)
    | _, _, _ => (f.signBits ps + f.infBits, 0)

/-- The order key of a value that is no NaN; −0 and +0 share it. -/
def FFmt.key (f : FFmt) (a : Nat) : Int :=
  let m : Int := (a % 2 ^ (f.w - 1) : Nat)
  if a / 2 ^ (f.w - 1) % 2 = 1 then -m else m

/-- minimumNumber (`mx` false) and maximumNumber (`mx` true): −0 below +0, a NaN and a number give the number (R195). -/
def FFmt.minMax (f : FFmt) (mx : Bool) (a b : Nat) : Nat × FFlags :=
  let x := f.read a
  let y := f.read b
  let fl := snanFlag [x, y]
  if x.isNan && y.isNan then (f.nanBits, fl)
  else if x.isNan then (b, fl)
  else if y.isNan then (a, fl)
  else
    let key (v : Nat) : Int := 2 * f.key v - (if v / 2 ^ (f.w - 1) % 2 = 1 then 1 else 0)
    let aLess := key a < key b
    (if aLess != mx then a else b, fl)

/-- A comparison predicate in the order of R74: EQ, NE, LT, LE, GT, GE, UN, ORD (R198). -/
def FFmt.cmp (f : FFmt) (pred a b : Nat) : Bool × FFlags :=
  let x := f.read a
  let y := f.read b
  let un := x.isNan || y.isNan
  let ka := f.key a
  let kb := f.key b
  let r := match pred with
    | 0 => !un && ka == kb
    | 1 => un || ka != kb
    | 2 => !un && decide (ka < kb)
    | 3 => !un && decide (ka ≤ kb)
    | 4 => !un && decide (ka > kb)
    | 5 => !un && decide (ka ≥ kb)
    | 6 => un
    | _ => !un
  (r, if 2 ≤ pred && pred ≤ 5 then (if un then fNV else 0) else snanFlag [x, y])

/-- A value of one format rounded into another (R199, R205). -/
def FFmt.convert (src dst : FFmt) (rm : BitVec 2) (a : Nat) : Nat × FFlags :=
  let x := src.read a
  match x with
  | .nan _ => (dst.nanBits, snanFlag [x])
  | .inf n => (dst.signBits n + dst.infBits, 0)
  | .fin n m e => dst.round rm n m e

/-- An exact integer × 2^e rounded into a format (R199, R205). -/
def FFmt.ofInt (f : FFmt) (rm : BitVec 2) (v : Int) (e : Int) : Nat × FFlags := f.round rm (decide (v < 0)) v.natAbs e

/-- A value × 2^s rounded to an integer in [lo, hi] (R199, R205): out of range gives the nearer limit and a NaN gives 0, both with NV;
an in-range value that was not integral sets NX. -/
def FFmt.toInt (f : FFmt) (rm : BitVec 2) (a : Nat) (s : Nat) (lo hi : Int) : Int × FFlags :=
  match f.read a with
  | .nan _ => (0, fNV)
  | .inf n => (if n then lo else hi, fNV)
  | .fin n m e =>
    let (q, nx) := roundMag rm n m (e + s) 0
    let v : Int := if n then -(q : Int) else q
    if v < lo then (lo, fNV) else if v > hi then (hi, fNV) else (v, if nx then fNX else 0)

/-- FPCTL with flags set (R62). -/
def orFlags (fl : FFlags) (k : Core) : Core := { k with fpctl := k.fpctl ||| (zx fl <<< 8) }

end Sys2Proof.Machine
end

