-- ==== Sys2Proof/Machine/FloatOps.lean ====
section
/-!
DEFINITION. Machine/FloatOps.lean: the F-stack and scalar floating point, row 0xA_ (R46, R47, R74, R187, R190, R197 to R200).
-/
namespace Sys2Proof.Machine

/-- The format that two bits of an operand byte name (R74). -/
def ffmtOf (n : Nat) : FFmt := match n with
  | 0 => binary16
  | 1 => binary32
  | _ => binary64

/-- The floating-disabled fault when CSTAT.FEN = 0 (R187). -/
def needFp (c : CoreId) : Op Unit := do if (← core c).fen then pure () else raise cFD

/-- The F-stack checks of an instruction that pops `p` and pushes `q` entries (R190). -/
def needF (c : CoreId) (p q : Nat) : Op Unit := do
  let d := (← core c).fstk.length
  if d < p then raise cFU else if d - p + q > 32 then raise cFO else pure ()

/-- The top `n` F-stack entries popped, top first. -/
def popF (c : CoreId) (n : Nat) : Op (List FEntry) := do
  let l := (← core c).fstk
  updCore c (fun k => { k with fstk := l.drop n })
  return l.take n

/-- An entry pushed on the F-stack. -/
def pushF (c : CoreId) (e : FEntry) : Op Unit := updCore c (fun k => { k with fstk := e :: k.fstk })

/-- A scalar result pushed: lane 0 holds it and every other bit is 0 (R47). -/
def pushScalar (c : CoreId) (r : Nat × FFlags) : Op Next := do
  pushF c (BitVec.ofNat 512 r.1)
  updCore c (orFlags r.2)
  return .seq

/-- Lane 0 of an entry in a format (R47). -/
def lane0 (f : FFmt) (e : FEntry) : Nat := e.toNat % 2 ^ f.w

/-- Whether an operand byte is legal (R74). -/
def fpLegal (o : FpOp) (x : Byte) : Bool :=
  let n := x.toNat
  let f := n % 4
  match o with
  | .fcmp => f != 3 && decide (n < 0x20)
  | .fcvt => f != 3 && decide (n < 0x40) && (if n / 4 % 4 == 0 then n / 16 != 3 else n / 16 == 0)
  | .fstk => f == 0 && decide (n / 4 < 5)
  | .fmov => f != 3 && decide (n < 8)
  | _ => decide (n < 3)

/-- An operation of two F-stack operands ( a b -- r ). -/
def runFp2 (c : CoreId) (f : FFmt) (g : Nat → Nat → Nat × FFlags) : Op Next := do
  needF c 2 1
  match (← popF c 2) with
  | b :: a :: _ => pushScalar c (g (lane0 f a) (lane0 f b))
  | _ => raise cFU

/-- An operation of one F-stack operand ( a -- r ). -/
def runFp1 (c : CoreId) (f : FFmt) (g : Nat → Nat × FFlags) : Op Next := do
  needF c 1 1
  match (← popF c 1) with
  | a :: _ => pushScalar c (g (lane0 f a))
  | _ => raise cFU

/-- FLD (R197). -/
def runFld (c : CoreId) (f : FFmt) : Op Next := do
  need c 1
  needF c 0 1
  let va ← pop1 c
  let d ← load c va (f.w / 8)
  pushScalar c (ofLe d, 0)

/-- FST (R197). -/
def runFst (x : Ctx) (f : FFmt) : Op Next := do
  need x.c 1
  needF x.c 1 0
  let va ← pop1 x.c
  match (← popF x.c 1) with
  | a :: _ => do
    store x.c x.merge va (leBytes (f.w / 8) (lane0 f a))
    return .seq
  | [] => raise cFU

/-- FSTK (R200). -/
def runFstk (c : CoreId) (op : Nat) : Op Next := do
  match op with
  | 0 => needF c 1 2
  | 1 => needF c 1 0
  | 2 => needF c 2 2
  | 3 => needF c 2 3
  | _ => needF c 3 3
  updCore c (fun k => { k with fstk := match op, k.fstk with
    | 0, a :: t => a :: a :: t
    | 1, _ :: t => t
    | 2, b :: a :: t => a :: b :: t
    | 3, b :: a :: t => a :: b :: a :: t
    | _, d :: b :: a :: t => a :: d :: b :: t
    | _, l => l })
  return .seq

/-- FCVT (R199). -/
def runFcvt (c : CoreId) (x : Byte) : Op Next := do
  let dst := ffmtOf (x.toNat % 4)
  let rm := fieldOf (← core c).fpctl 0 2
  match x.toNat / 4 % 4 with
  | 0 =>
    let src := ffmtOf (x.toNat / 16 % 4)
    runFp1 c src (fun a => src.convert dst rm a)
  | 1 => do
    need c 1
    needF c 0 1
    let n ← pop1 c
    pushScalar c (dst.ofInt rm n.toInt 0)
  | kind => do
    needF c 1 0
    match (← popF c 1) with
    | a :: _ => do
      let (v, fl) := dst.toInt (if kind = 2 then rm else 1) (lane0 dst a) 0 (-(2 ^ 63)) (2 ^ 63 - 1)
      updCore c (orFlags fl)
      push c (BitVec.ofInt 64 v)
      return .seq
    | [] => raise cFU

/-- FMOV: FPUSH and FPOP (R200). -/
def runFmov (c : CoreId) (x : Byte) : Op Next := do
  let f := ffmtOf (x.toNat % 4)
  if x.toNat / 4 = 0 then
    need c 1
    needF c 0 1
    let v ← pop1 c
    pushScalar c (v.toNat % 2 ^ f.w, 0)
  else
    needF c 1 0
    match (← popF c 1) with
    | a :: _ => do
      push c (BitVec.ofNat 64 (lane0 f a))
      return .seq
    | [] => raise cFU

/-- FCMP (R198). -/
def runFcmp (c : CoreId) (x : Byte) : Op Next := do
  let f := ffmtOf (x.toNat % 4)
  needF c 2 0
  match (← popF c 2) with
  | b :: a :: _ => do
    let (r, fl) := f.cmp (x.toNat / 4) (lane0 f a) (lane0 f b)
    updCore c (orFlags fl)
    push c (ofB r)
    return .seq
  | _ => raise cFU

/-- Row 0xA_ (R197). -/
def runFp (x : Ctx) (o : FpOp) (b : Byte) : Op Next := do
  let c := x.c
  legal (fpLegal o b)
  needFp c
  let f := ffmtOf (b.toNat % 4)
  let rm := fieldOf (← core c).fpctl 0 2
  match o with
  | .fadd => runFp2 c f (f.add rm)
  | .fsub => runFp2 c f (f.sub rm)
  | .fmul => runFp2 c f (f.mul rm)
  | .fdiv => runFp2 c f (f.div rm)
  | .fmin => runFp2 c f (f.minMax false)
  | .fmax => runFp2 c f (f.minMax true)
  | .fsqrt => runFp1 c f (f.sqrt rm)
  | .fneg => runFp1 c f (fun a => (f.neg a, 0))
  | .fabs => runFp1 c f (fun a => (f.abs a, 0))
  | .fma => do
    needF c 3 1
    match (← popF c 3) with
    | d :: b :: a :: _ => pushScalar c (f.fma rm (lane0 f a) (lane0 f b) (lane0 f d))
    | _ => raise cFU
  | .fcmp => runFcmp c b
  | .fcvt => runFcvt c b
  | .fld => runFld c f
  | .fst => runFst x f
  | .fstk => runFstk c (b.toNat / 4)
  | .fmov => runFmov c b

end Sys2Proof.Machine
end

