-- ==== Sys2Proof/Machine/Lanes.lean ====
section
/-!
DEFINITION. Machine/Lanes.lean: elements, element types and the arithmetic of one element (R84, R186, R195, R201 to R206).
-/
namespace Sys2Proof.Machine

/-- The kinds of element type (R201). -/
inductive EKind | i | u | q | f
  deriving DecidableEq, Repr

/-- An element type (R84). -/
structure EType where
  /-- Kind. -/
  k : EKind
  /-- Width in bits. -/
  w : Nat
  deriving DecidableEq, Repr

/-- The type that a code names (R84). -/
def etypeOf (n : Nat) : Option EType :=
  if n < 4 then some { k := .i, w := 8 * 2 ^ n }
  else if n < 8 then some { k := .u, w := 8 * 2 ^ (n - 4) }
  else if n < 10 then some { k := .q, w := 16 * 2 ^ (n - 8) }
  else if n < 13 then some { k := .f, w := 16 * 2 ^ (n - 10) }
  else none

/-- The floating format of a width. -/
def ffmtOfWidth (w : Nat) : FFmt := if w = 16 then binary16 else if w = 32 then binary32 else binary64
/-- The format of an F type. -/
def EType.fmt (t : EType) : FFmt := ffmtOfWidth t.w
/-- Fraction bits of a Q type (R202). -/
def EType.frac (t : EType) : Nat := t.w - 1

/-- The elements of an entry, element 0 first (R186). -/
def lanes (w : Nat) : Nat → Nat → List Nat
  | 0, _ => []
  | n + 1, v => v % 2 ^ w :: lanes w n (v / 2 ^ w)

/-- The entry that elements make. -/
def unlanes (w : Nat) : List Nat → Nat
  | [] => 0
  | a :: t => a % 2 ^ w + 2 ^ w * unlanes w t

/-- An element read as a signed number. -/
def sgn (w a : Nat) : Int := Int.bmod a (2 ^ w)
/-- The low `w` bits of an integer. -/
def lowBits (w : Nat) (v : Int) : Nat := (v % 2 ^ w).toNat

/-- The modes of VCTL and FPCTL that lanes use (R62, R202). -/
structure LaneCtl where
  /-- FPCTL.RM. -/
  rm : BitVec 2
  /-- VCTL.VRM. -/
  vrm : BitVec 2
  /-- VCTL.VSAT. -/
  vsat : Bool
  deriving DecidableEq, Repr

/-- The lane controls of a core. -/
def laneCtl (k : Core) : LaneCtl :=
  { rm := fieldOf k.fpctl 0 2, vrm := fieldOf k.vctl 0 2, vsat := bitOf k.vctl 2 }

/-- What one element's operation gives: its bits, FPCTL flags and VSOV (R196). -/
structure LaneRes where
  /-- Result bits. -/
  r : Nat
  /-- FPCTL flags. -/
  fl : FFlags := 0
  /-- VCTL.VSOV. -/
  sov : Bool := false
  deriving DecidableEq, Repr

/-- fitv (R202). -/
def fitv (m : LaneCtl) (v : Int) (w : Nat) : LaneRes :=
  let (r, ov) := fit m.vsat v w
  { r := lowBits w r, sov := ov }

/-- A floating result as a lane result. -/
def laneF (p : Nat × FFlags) : LaneRes := { r := p.1, fl := p.2 }

/-- The value of an element: signed for I and Q, unsigned for U (R202, R206). -/
def EType.val (t : EType) (a : Nat) : Int := match t.k with
  | .u => a
  | _ => sgn t.w a

/-- Minimum or maximum of two elements (R195, R202). -/
def laneMinMax (t : EType) (mx : Bool) (a b : Nat) : LaneRes := match t.k with
  | .f => laneF (t.fmt.minMax mx a b)
  | _ => { r := if (decide (t.val a < t.val b)) != mx then a else b }

/-- A shift of an element by a count (R203). -/
def laneShift (o : VecOp) (t : EType) (a cnt : Nat) : Nat :=
  let n := cnt % 64
  match o with
  | .vshl | .vshls => if n ≥ t.w then 0 else a * 2 ^ n % 2 ^ t.w
  | .vshr | .vshrs => if n ≥ t.w then 0 else a / 2 ^ n
  | _ => lowBits t.w (sgn t.w a / 2 ^ (min n t.w))

/-- One element of a two-operand operation ( a b -- r ) (R202, R203). -/
def lane2 (m : LaneCtl) (o : VecOp) (t : EType) (a b : Nat) : LaneRes :=
  let x := t.val a
  let y := t.val b
  match o, t.k with
  | .vadd, .f => laneF (t.fmt.add m.rm a b)
  | .vadd, .q => fitv m (x + y) t.w
  | .vadd, _ => { r := lowBits t.w (x + y) }
  | .vsub, .f => laneF (t.fmt.sub m.rm a b)
  | .vsub, .q => fitv m (x - y) t.w
  | .vsub, _ => { r := lowBits t.w (x - y) }
  | .vmul, .f => laneF (t.fmt.mul m.rm a b)
  | .vmul, .q => fitv m (rnd m.vrm (x * y) t.frac) t.w
  | .vmul, _ => { r := lowBits t.w (x * y) }
  | .vmulh, _ => { r := lowBits t.w (x * y / 2 ^ t.w) }
  | .vdiv, _ => laneF (t.fmt.div m.rm a b)
  | .vmin, _ => laneMinMax t false a b
  | .vmax, _ => laneMinMax t true a b
  | .vand, _ => { r := a &&& b }
  | .vor, _ => { r := a ||| b }
  | .vxor, _ => { r := a ^^^ b }
  | .vshl, _ | .vshr, _ | .vsar, _ => { r := laneShift o t a b }
  | _, _ => { r := a }

/-- One element of a one-operand operation ( a -- r ) (R202, R203). -/
def lane1 (m : LaneCtl) (o : VecOp) (t : EType) (cnt a : Nat) : LaneRes :=
  match o, t.k with
  | .vsqrt, _ => laneF (t.fmt.sqrt m.rm a)
  | .vabs, .f => { r := t.fmt.abs a }
  | .vabs, .q => fitv m (t.val a).natAbs t.w
  | .vabs, _ => { r := lowBits t.w (t.val a).natAbs }
  | .vneg, .f => { r := t.fmt.neg a }
  | .vneg, .q => fitv m (-t.val a) t.w
  | .vneg, _ => { r := lowBits t.w (-t.val a) }
  | .vnot, _ => { r := 2 ^ t.w - 1 - a }
  | .vshls, _ | .vshrs, _ | .vsars, _ => { r := laneShift o t a cnt }
  | _, _ => { r := a }

/-- One element of VFMA (`sub` false: a × b + c) and VFMS (`sub` true: c − a × b) (R202). -/
def lane3 (m : LaneCtl) (sub : Bool) (t : EType) (a b c : Nat) : LaneRes := match t.k with
  | .f => laneF (t.fmt.fma m.rm (if sub then t.fmt.neg a else a) b c)
  | .q =>
    let p := t.val a * t.val b
    let s := t.val c * 2 ^ t.frac
    fitv m (rnd m.vrm (if sub then s - p else p + s) t.frac) t.w
  | _ =>
    let p := t.val a * t.val b
    { r := lowBits t.w (if sub then t.val c - p else p + t.val c) }

/-- One element of a comparison: VCMP.EQ to VCMP.UN take predicates 0 to 6 (R198, R201). -/
def laneCmp (t : EType) (pred a b : Nat) : Bool × FFlags := match t.k with
  | .f => t.fmt.cmp pred a b
  | _ =>
    let x := t.val a
    let y := t.val b
    (match pred with
     | 0 => x == y
     | 1 => x != y
     | 2 => decide (x < y)
     | 3 => decide (x ≤ y)
     | 4 => decide (x > y)
     | _ => decide (x ≥ y), 0)

/-- The least and greatest values of an I, U or Q type. -/
def EType.range (t : EType) : Int × Int := match t.k with
  | .u => (0, 2 ^ t.w - 1)
  | _ => (-(2 ^ (t.w - 1)), 2 ^ (t.w - 1) - 1)

/-- Whether VCVT converts between two types (R205). -/
def cvtLegal (a b : EType) : Bool := match a.k, b.k with
  | .q, .i | .q, .u | .i, .q | .u, .q => false
  | _, _ => true

/-- One element of VCVT (R205). -/
def laneCvt (m : LaneCtl) (s d : EType) (a : Nat) : LaneRes := match s.k, d.k with
  | .f, .f => laneF (s.fmt.convert d.fmt m.rm a)
  | .f, _ =>
    let (v, fl) := s.fmt.toInt m.rm a (if d.k = .q then d.frac else 0) d.range.1 d.range.2
    { r := lowBits d.w v, fl := fl }
  | .q, .f => laneF (d.fmt.ofInt m.rm (s.val a) (-(s.frac : Int)))
  | _, .f => laneF (d.fmt.ofInt m.rm (s.val a) 0)
  | .q, .q =>
    if s.w = d.w then { r := a }
    else if s.w < d.w then { r := lowBits d.w (s.val a * 2 ^ 16) }
    else fitv m (rnd m.vrm (s.val a) 16) d.w
  | _, _ => { r := lowBits d.w (s.val a) }

/-! ### Reductions -/

/-- One level of the fixed tree: a pair with one empty side gives the other side unchanged (R206). -/
def treeLevel (g : Nat → Nat → LaneRes) : List (Option Nat) → List (Option Nat) × FFlags
  | a :: b :: t =>
    let (r, fl) := treeLevel g t
    match a, b with
    | some x, some y => (some (g x y).r :: r, (g x y).fl ||| fl)
    | some x, none => (some x :: r, fl)
    | none, y => (y :: r, fl)
  | l => (l, 0)

/-- The fixed tree of a floating reduction, level by level. -/
def tree (g : Nat → Nat → LaneRes) : Nat → List (Option Nat) → Option Nat × FFlags
  | 0, l => (l.head?.join, 0)
  | n + 1, l =>
    match l with
    | [x] => (x, 0)
    | l =>
      let (l', fl) := treeLevel g l
      let (r, fl') := tree g n l'
      (r, fl ||| fl')

/-- The identity of a floating reduction (R206). -/
def redIdentF (o : VecOp) (t : EType) : Nat := match o with
  | .vredmin => t.fmt.infBits
  | .vredmax => t.fmt.signBits true + t.fmt.infBits
  | _ => 0

/-- A floating reduction of optional elements (R206). -/
def reduceF (m : LaneCtl) (o : VecOp) (t : EType) (l : List (Option Nat)) : Nat × FFlags :=
  let g : Nat → Nat → LaneRes := match o with
    | .vredmin => laneMinMax t false
    | .vredmax => laneMinMax t true
    | _ => lane2 m .vadd t
  let (r, fl) := tree g 7 l
  (r.getD (redIdentF o t), fl)

/-- A reduction of active I, U or Q values to a 64-bit result, and VSOV (R206). -/
def reduceI (m : LaneCtl) (o : VecOp) (t : EType) (l : List Int) : Word × Bool := match o with
  | .vredmin => (BitVec.ofInt 64 (l.foldl (fun a b => if b < a then b else a) t.range.2), false)
  | .vredmax => (BitVec.ofInt 64 (l.foldl (fun a b => if b > a then b else a) t.range.1), false)
  | .vredand => (l.foldl (fun a b => a &&& BitVec.ofInt 64 b) (BitVec.allOnes 64), false)
  | .vredor => (l.foldl (fun a b => a ||| BitVec.ofInt 64 b) 0, false)
  | .vredxor => (l.foldl (fun a b => a ^^^ BitVec.ofInt 64 b) 0, false)
  | o =>
    let sum := l.foldl (· + ·) 0
    if t.k = .q then
      let (r, ov) := fit m.vsat (if o = .vdot then rnd m.vrm sum t.frac else sum) t.w
      (BitVec.ofInt 64 r, ov)
    else (BitVec.ofInt 64 sum, false)

/-! ### Permutations -/

/-- A permutation of the elements of `a` (and `b`), before the mask (R204). -/
def permute (o : VecOp) (n : Nat) (a b : List Nat) (k : Nat) : List Nat :=
  let at' (l : List Nat) (i : Nat) := l.getD i 0
  (List.range n).map (fun i => match o with
    | .vbcast => k
    | .vperm => at' a (at' b i % n)
    | .vslideup => if i ≥ k then at' a (i - k) else 0
    | .vslidedn => if i + k < n then at' a (i + k) else 0
    | .vziplo => at' (if i % 2 = 0 then a else b) (i / 2)
    | .vziphi => at' (if i % 2 = 0 then a else b) (i / 2 + n / 2)
    | _ => at' a i)

end Sys2Proof.Machine
end

