-- ==== Sys2Proof/Machine/Vector.lean ====
section
/-!
DEFINITION. Machine/Vector.lean: Ualux-V, the vector page (R46 to R48, R83 to R85, R186 to R215).
-/
namespace Sys2Proof.Machine

/-! ### Legality, enables, masks -/

/-- The mask instructions 0x27 to 0x2F (R187). -/
def isMaskOp : VecOp → Bool
  | .mtail | .mand | .mor | .mxor | .mandn | .mpop | .mmov | .mrd | .mwr => true
  | _ => false

/-- The predicate of a comparison (R198). -/
def vcmpPred : VecOp → Option Nat
  | .vcmpEq => some 0 | .vcmpNe => some 1 | .vcmpLt => some 2 | .vcmpLe => some 3 | .vcmpGt => some 4 | .vcmpGe => some 5
  | .vcmpUn => some 6
  | _ => none

/-- The four instructions whose elements have addresses of their own (R209). -/
def isVgs : VecOp → Bool
  | .vlds | .vsts | .vgather | .vscatter => true
  | _ => false

/-- Whether an instruction accepts an element type (R201). -/
def accepts (o : VecOp) (t : EType) : Bool := match o with
  | .vmulh | .vshl | .vshr | .vsar | .vshls | .vshrs | .vsars | .vredand | .vredor | .vredxor => t.k == .i || t.k == .u
  | .vdiv | .vsqrt | .vcmpUn => t.k == .f
  | .vabs | .vneg => t.k != .u
  | .vlds | .vsts | .vgather | .vscatter => decide (32 ≤ t.w)
  | _ => true

/-- Whether type byte and mask byte are legal for an instruction (R69, R83, R84, R201). -/
def vecLegal (o : VecOp) (t : Byte) (m : Option Byte) : Bool :=
  let lo := t.toNat % 16
  let hi := t.toNat / 16
  let mk := match m with
    | none => true
    | some b => decide (b.toNat < 16)
  match o with
  | .mtail => m.isNone && decide (hi < 8) && (etypeOf lo).isSome
  | .mand | .mor | .mxor | .mandn | .mmov => m.isNone && decide (hi < 8) && decide (lo < 8)
  | .mpop | .mrd => m.isNone && hi == 0 && decide (lo < 8)
  | .mwr => m.isNone && decide (hi < 8) && lo == 0
  | .vcvt => mk && (match etypeOf hi, etypeOf lo with
      | some a, some b => cvtLegal a b
      | _, _ => false)
  | o =>
    let top := if (vcmpPred o).isSome then decide (hi < 8) else hi == 0
    mk && top && (match etypeOf lo with
      | some ty => accepts o ty
      | none => false)

/-- The enables of a vector-page instruction (R187). -/
def needVec (c : CoreId) (o : VecOp) : Op Unit := do
  let k ← core c
  if !k.ven then raise cVD
  else if isMaskOp o || k.fen then pure ()
  else raise cFD

/-- Mask `i`: M0 reads as all ones (R48). -/
def maskRead (k : Core) (i : Nat) : Word := if i % 8 = 0 then BitVec.allOnes 64 else k.masks[i % 8 - 1]!
/-- Mask `i` written: writes to M0 are ignored (R48). -/
def maskWrite (i : Nat) (v : Word) (k : Core) : Core := if i % 8 = 0 then k else { k with masks := k.masks.setIfInBounds (i % 8 - 1) v }

/-- What a vector instruction works with. -/
structure VCtx where
  /-- Element type. -/
  t : EType
  /-- Elements per entry. -/
  n : Nat
  /-- Mask bits. -/
  mask : Word
  /-- Z (R83). -/
  z : Bool
  /-- Rounding and saturation. -/
  ctl : LaneCtl
  deriving DecidableEq, Repr

/-- The context of an instruction from its operand bytes (R83, R84, R186). -/
def vctx (c : CoreId) (t : Byte) (m : Option Byte) : Op VCtx := do
  let s ← get
  let k := s.core c
  let ty := (etypeOf (t.toNat % 16)).getD { k := .u, w := 8 }
  let b := (m.getD 0).toNat
  return { t := ty, n := s.build.vlen / ty.w, mask := maskRead k b, z := decide (b / 8 % 2 = 1), ctl := laneCtl k }

/-- Whether element `i` is active (R193). -/
def VCtx.act (v : VCtx) (i : Nat) : Bool := bitOf v.mask i

/-- The elements of an entry. -/
def VCtx.el (v : VCtx) (e : FEntry) : List Nat := lanes v.t.w v.n e.toNat

/-- Results laid over the inactive elements of the deepest operand, under the Z rule (R83, R193). -/
def VCtx.under (v : VCtx) (deep : List Nat) (res : List Nat) : List Nat :=
  (res.zip deep).zipIdx.map (fun ((r, d), i) => if v.act i then r else if v.z then 0 else d)

/-- The entry that elements make, pushed. -/
def pushLanes (c : CoreId) (w : Nat) (l : List Nat) : Op Next := do
  pushF c (BitVec.ofNat 512 (unlanes w l))
  return .seq

/-- FPCTL flags and VSOV of the active elements set (R196). -/
def noteLanes (c : CoreId) (v : VCtx) (l : List LaneRes) : Op Unit :=
  updCore c (fun k =>
    let on := (l.zipIdx.filter (fun (_, i) => v.act i)).map Prod.fst
    let k := orFlags (on.foldl (fun fl x => fl ||| x.fl) 0) k
    if on.any (fun x => x.sov) then { k with vctl := k.vctl ||| 8 } else k)

/-! ### Elementwise, mask, permutation and reduction instructions -/

/-- Elementwise instructions of `p` F-stack operands (R202, R203). -/
def runLanes (c : CoreId) (v : VCtx) (p : Nat) (g : List Nat → LaneRes) : Op Next := do
  needF c p 1
  let es := (← popF c p).reverse
  let cols := es.map v.el
  let res := (List.range v.n).map (fun i => g (cols.map (fun l => l.getD i 0)))
  noteLanes c v res
  pushLanes c v.t.w (v.under (cols.headD []) (res.map LaneRes.r))

/-- The number of F-stack operands of an elementwise instruction. -/
def lanesArity : VecOp → Nat
  | .vfma | .vfms => 3
  | .vsqrt | .vabs | .vneg | .vnot | .vshls | .vshrs | .vsars => 1
  | _ => 2

/-- Elementwise arithmetic, logic and shifts (R202, R203). -/
def runVArith (c : CoreId) (o : VecOp) (v : VCtx) (cnt : Nat) : Op Next :=
  runLanes c v (lanesArity o) (fun l => match l with
    | [a] => lane1 v.ctl o v.t cnt a
    | [a, b] => lane2 v.ctl o v.t a b
    | [a, b, d] => lane3 v.ctl (o == .vfms) v.t a b d
    | _ => { r := 0 })

/-- Bits as a word, bit 0 first. -/
def bitsWord (l : List Bool) : Word := BitVec.ofNat 64 (unlanes 1 (l.map Bool.toNat))

/-- VCMP (R194, R198). -/
def runVcmp (c : CoreId) (pred : Nat) (t : Byte) (v : VCtx) : Op Next := do
  needF c 2 0
  let md := t.toNat / 16
  match (← popF c 2) with
  | b :: a :: _ => do
    let old := maskRead (← core c) md
    let res := (List.zipWith (laneCmp v.t pred) (v.el a) (v.el b))
    noteLanes c v (res.map (fun x => { r := 0, fl := x.2 }))
    let bits := res.zipIdx.map (fun (x, i) => if v.act i then x.1 else if v.z then false else bitOf old i)
    updCore c (maskWrite md (bitsWord bits))
    return .seq
  | _ => raise cFU

/-- The mask instructions (R194). -/
def runMaskOp (c : CoreId) (o : VecOp) (t : Byte) : Op Next := do
  let md := t.toNat / 16
  let ms := t.toNat % 8
  let s ← get
  let k := s.core c
  let d := maskRead k md
  let m := maskRead k ms
  match o with
  | .mtail => do
    let cnt ← pop1 c
    let n := match etypeOf (t.toNat % 16) with
      | some ty => s.build.vlen / ty.w
      | none => 0
    updCore c (maskWrite md (bitsWord ((List.range n).map (fun i => decide (i < cnt.toNat)))))
  | .mand => updCore c (maskWrite md (d &&& m))
  | .mor => updCore c (maskWrite md (d ||| m))
  | .mxor => updCore c (maskWrite md (d ^^^ m))
  | .mandn => updCore c (maskWrite md (d &&& ~~~m))
  | .mmov => updCore c (maskWrite md m)
  | .mpop => push c (BitVec.ofNat 64 (popc m))
  | .mrd => push c m
  | _ => do
    let x ← pop1 c
    updCore c (maskWrite md x)
  return .seq

/-- VCVT (R205). -/
def runVcvt (c : CoreId) (t : Byte) (v : VCtx) : Op Next := do
  needF c 1 1
  let s := (etypeOf (t.toNat / 16)).getD { k := .u, w := 8 }
  let len := (← get).build.vlen
  let m := len / max s.w v.t.w
  match (← popF c 1) with
  | a :: _ => do
    let src := lanes s.w m a.toNat
    let res := src.map (laneCvt v.ctl s v.t)
    noteLanes c v res
    let low := v.under (lanes v.t.w m a.toNat) (res.map LaneRes.r)
    pushLanes c v.t.w (low ++ List.replicate (v.n - m) 0)
  | [] => raise cFU

/-- VBCAST, VPERM, VSLIDEUP, VSLIDEDN, VZIPLO and VZIPHI (R204). -/
def runPermute (c : CoreId) (o : VecOp) (v : VCtx) : Op Next := do
  let ints : Nat := match o with
    | .vbcast | .vslideup | .vslidedn => 1
    | _ => 0
  let p : Nat := match o with
    | .vbcast => 0
    | .vslideup | .vslidedn => 1
    | _ => 2
  need c ints
  needF c p 1
  let k ← if ints = 1 then pop1 c else pure 0
  let cols := ((← popF c p).reverse).map v.el
  let a := cols.headD (List.replicate v.n 0)
  let b := (cols.drop 1).headD []
  pushLanes c v.t.w (v.under (if p = 0 then List.replicate v.n 0 else a) (permute o v.n a b k.toNat))

/-- VCOMPRESS (R204). -/
def runVcompress (c : CoreId) (v : VCtx) : Op Next := do
  needF c 1 1
  match (← popF c 1) with
  | e :: _ => do
    let a := v.el e
    let packed := (a.zipIdx.filter (fun (_, i) => v.act i)).map Prod.fst
    let rest := if v.z then List.replicate (v.n - packed.length) 0 else a.drop packed.length
    pushLanes c v.t.w (packed ++ rest)
  | [] => raise cFU

/-- VEXTR and VINS, which ignore the mask (R204). -/
def runVextr (c : CoreId) (ins : Bool) (v : VCtx) : Op Next := do
  need c (if ins then 2 else 1)
  needF c 1 1
  let i ← pop1 c
  match (← core c).fstk with
  | e :: _ =>
    let a := v.el e
    let j := i.toNat % v.n
    if ins then
      let x ← pop1 c
      let _ ← popF c 1
      pushLanes c v.t.w (a.set j (x.toNat % 2 ^ v.t.w))
    else
      let y := a.getD j 0
      push c (match v.t.k with
        | .i | .q => BitVec.ofInt 64 (sgn v.t.w y)
        | _ => BitVec.ofNat 64 y)
      return .seq
  | [] => raise cFU

/-- Reductions (R206). -/
def runReduce (c : CoreId) (o : VecOp) (v : VCtx) : Op Next := do
  let p := if o == .vdot then 2 else 1
  needF c p (if v.t.k == .f then 1 else 0)
  let cols := ((← popF c p).reverse).map v.el
  let a := cols.headD []
  let b := (cols.drop 1).headD []
  if v.t.k == .f then
    let prods := if o == .vdot then List.zipWith (fun x y => laneF (v.t.fmt.mul v.ctl.rm x y)) a b
      else a.map (fun x => ({ r := x } : LaneRes))
    noteLanes c v prods
    pushScalar c (reduceF v.ctl o v.t (prods.zipIdx.map (fun (x, i) => if v.act i then some x.r else none)))
  else
    let vals := if o == .vdot then List.zipWith (fun x y => v.t.val x * v.t.val y) a b else a.map v.t.val
    let (r, ov) := reduceI v.ctl o v.t ((vals.zipIdx.filter (fun (_, i) => v.act i)).map Prod.fst)
    updCore c (fun k => if ov then { k with vctl := k.vctl ||| 8 } else k)
    push c r
    return .seq

/-! ### Memory -/

/-- One active element's access. -/
structure ElAcc where
  /-- Element number. -/
  i : Nat
  /-- Virtual address. -/
  va : Word
  deriving DecidableEq, Repr

/-- Whether access `a` comes no later than `b` in the order of R211. -/
def elLe (a b : ElAcc) : Bool := a.va.toNat < b.va.toNat || (a.va == b.va && decide (a.i ≤ b.i))

/-- An access put in its place. -/
def elInsert (a : ElAcc) : List ElAcc → List ElAcc
  | [] => [a]
  | b :: t => if elLe a b then a :: b :: t else b :: elInsert a t

/-- Accesses in ascending address order (R211). -/
def elSort (l : List ElAcc) : List ElAcc := l.foldr elInsert []

/-- A fault with the element index of R211. -/
def withEidx {α : Type} (i : Nat) (f : Op α) : Op α := fun s => match f s with
  | .ok a s' => .ok a s'
  | .error (.event e) s' => .error (.event { e with eidx := BitVec.ofNat 8 i }) s'
  | .error e s' => .error e s'

/-- The gather-target refusal (R210), which takes the place of atomic-target; a load to a TME-reached node met RA before it (R189). -/
def checkGt (u : Use) (p : Part) : Op Unit := do
  match target (← get) p.tr.pa with
  | .regs _ | .host _ => faultAt cGT p.va p.tr.pa
  | .tme _ _ => if u == .store then faultAt cGT p.va p.tr.pa else pure ()
  | .board _ off =>
    if (0xC0_0000_0000 ≤ off && off < 0xC0_0100_0000) || (0xD0_0000_0000 ≤ off && off < 0xF0_0000_0000) then faultAt cGT p.va p.tr.pa
    else pure ()
  | _ => pure ()

/-- The checks of one element access (R95 item 6, R189, R210, R211); a contiguous form is performed as the 16-byte parts of R110, so it is
no aligned word access to block registers (R9). -/
def checkEl (c : CoreId) (u : Use) (gt : Bool) (n : Nat) (a : ElAcc) : Op Unit := withEidx a.i (do
  let ps ← (splitPages a.va n).mapM (fun (v, m) => do return ({ va := v, len := m, tr := ← translate c u.acc v } : Part))
  ps.forM (fun p => do
    if gt then checkGt u p
    checkTarget c u p (if gt then n else 64)))

/-- The data-breakpoint check of the active elements (R95 item 7, R211, R314). -/
def checkElDbp (c : CoreId) (st : Bool) (n : Nat) (l : List ElAcc) : Op Unit := do
  let k ← core c
  let hit (a : ElAcc) : Bool := (dbpMatch k 0 (!st) st a.va n).isSome || (dbpMatch k 1 (!st) st a.va n).isSome
  dbpCheck c (l.map (fun a => (a.va, n))) (!st) st (match l.find? hit with
    | some a => BitVec.ofNat 8 a.i
    | none => 0xFF)

/-- All checks of a vector memory instruction (R209 to R211). -/
def checkEls (c : CoreId) (st gt : Bool) (n : Nat) (l : List ElAcc) : Op Unit := do
  let l := elSort l
  let mis := l.find? (fun a => a.va.toNat % n != 0)
  match (if gt then mis else none) with
  | some a => withEidx a.i (throw (.event { cause := cAL, faddr := a.va }))
  | none =>
    l.forM (checkEl c (if st then .store else .load) gt n)
    checkElDbp c st n l

/-- The active element accesses of a form, in ascending element order. -/
def activeEls (v : VCtx) (addr : Nat → Word) : List ElAcc :=
  ((List.range v.n).filter v.act).map (fun i => { i := i, va := addr i })

/-- The active bytes of a contiguous form, by offset, in runs that cross no 16-byte boundary (R110, R193). -/
def byteRuns (va : Word) (mask : List Bool) : List (Nat × Nat) :=
  (mask.zipIdx.foldl (fun (acc : List (Nat × Nat)) (p : Bool × Nat) =>
    if !p.1 then acc
    else match acc with
      | (o, n) :: t => if o + n = p.2 && (va.toNat + p.2) % 16 != 0 then (o, n + 1) :: t else (p.2, 1) :: (o, n) :: t
      | [] => [(p.2, 1)]) []).reverse

/-- The active bytes of a contiguous form. -/
def byteMask (v : VCtx) : List Bool := (List.range v.n).flatMap (fun i => List.replicate (v.t.w / 8) (v.act i))

/-- A checked access translated again to perform it, an address of the complex's own memory by its local form (R22). -/
def partAt (c : CoreId) (a : Acc) (va : Word) (n : Nat) : Op Part := do
  let tr ← translate c a va
  return { va := va, len := n, tr := { tr with pa := localAddr (← get) tr.pa } }

/-- The elements of a contiguous load, inactive ones 0. -/
def loadRuns (c : CoreId) (va : Word) (runs : List (Nat × Nat)) : Op (List Host.Cell) := do
  let rec go (m : List Host.Cell) : List (Nat × Nat) → Op (List Host.Cell)
    | [] => pure m
    | (o, n) :: t => do
      let p ← partAt c .load (va + BitVec.ofNat 64 o) n
      go (memWrite m o (← loadPart c false p)) t
  go [] runs

/-- The bytes of a contiguous store performed run by run; the first run merges only when every byte of the store lies in one 16-byte block,
and later runs of one block join it (R229). -/
def storeRuns (c : CoreId) (merge : Bool) (va : Word) (d : List Byte) : List (Nat × Nat) → Op Unit
  | [] => pure ()
  | (o, n) :: t => do
    let p ← partAt c .store (va + BitVec.ofNat 64 o) n
    storePart c merge p ((d.drop o).take n)
    storeRuns c true va d t

/-- VLD, VLDX and VLDY at an address (R207, R208). -/
def vload (c : CoreId) (v : VCtx) (va : Word) : Op Next := do
  let bw := v.t.w / 8
  checkEls c false false bw (activeEls v (fun i => va + BitVec.ofNat 64 (i * bw)))
  let m ← loadRuns c va (byteRuns va (byteMask v))
  pushF c (BitVec.ofNat 512 (ofLe (memRead m 0 (v.n * bw))))
  return .seq

/-- VST, VSTX and VSTY at an address (R207, R208). -/
def vstore (x : Ctx) (v : VCtx) (va : Word) : Op Next := do
  let bw := v.t.w / 8
  match (← popF x.c 1) with
  | e :: _ => do
    checkEls x.c true false bw (activeEls v (fun i => va + BitVec.ofNat 64 (i * bw)))
    let runs := byteRuns va (byteMask v)
    let one := runs.all (fun r => (va.toNat + r.1) / 16 == (va.toNat + (runs.headD (0, 0)).1) / 16)
    storeRuns x.c (x.merge && one) va (leBytes (v.n * bw) e.toNat) runs
    return .seq
  | [] => raise cFU

/-- Element loads in ascending element order (R212). -/
def loadEls (c : CoreId) (n : Nat) : List ElAcc → Op (List (Nat × Nat))
  | [] => pure []
  | a :: t => do
    let d ← loadPart c false (← partAt c .load a.va n)
    return (a.i, ofLe d) :: (← loadEls c n t)

/-- Element stores in ascending element order (R212). -/
def storeEls (c : CoreId) (merge past : Bool) (n : Nat) (val : Nat → Nat) : List ElAcc → Op Unit
  | [] => pure ()
  | a :: t => do
    storePart c merge (← partAt c .store a.va n) (leBytes n (val a.i)) past
    storeEls c true true n val t

/-- The instruction that holds a DTLB reservation is translating from here to the end of `f` (R213). -/
def underVgs (x : Ctx) (f : Op Next) : Op Next := do
  let mine : Bool := (← core x.c).vgs == some x.pc
  updCore x.c (fun k => { k with vgsOn := mine })
  let r ← f
  updCore x.c (fun k => if mine then { k with vgsOn := false, vgs := none, dtlb := k.dtlb.map (fun e => { e with rsv := false }) }
    else { k with vgsOn := false })
  return r

/-- VLDS and VGATHER (R207 to R213). -/
def vgsLoad (x : Ctx) (v : VCtx) (addr : Nat → Word) : Op Next := underVgs x (do
  let bw := v.t.w / 8
  let els := activeEls v addr
  checkEls x.c false true bw els
  let got ← loadEls x.c bw els
  pushLanes x.c v.t.w ((List.range v.n).map (fun i => match got.find? (fun p => p.1 == i) with
    | some p => p.2
    | none => 0)))

/-- VSTS and VSCATTER (R207 to R213). -/
def vgsStore (x : Ctx) (v : VCtx) (addr : Nat → Word) (vals : List Nat) : Op Next := underVgs x (do
  let bw := v.t.w / 8
  let els := activeEls v addr
  checkEls x.c true true bw els
  storeEls x.c x.merge false bw (fun i => vals.getD i 0) els
  return .seq)

/-- The vector memory instructions (R207). -/
def runVmem (x : Ctx) (o : VecOp) (v : VCtx) : Op Next := do
  let c := x.c
  let e := BitVec.ofNat 64 (v.n * v.t.w / 8)
  let bw := v.t.w / 8
  match o with
  | .vld => do
    need c 1
    needF c 0 1
    let va ← pop1 c
    vload c v va
  | .vst => do
    need c 1
    needF c 1 0
    let va ← pop1 c
    vstore x v va
  | .vldx => do
    needF c 0 1
    let r ← vload c v (← core c).xp
    updCore c (fun k => { k with xp := k.xp + e })
    return r
  | .vldy => do
    needF c 0 1
    let r ← vload c v (← core c).yp
    updCore c (fun k => { k with yp := k.yp + e })
    return r
  | .vstx => do
    needF c 1 0
    let r ← vstore x v (← core c).xp
    updCore c (fun k => { k with xp := k.xp + e })
    return r
  | .vsty => do
    needF c 1 0
    let r ← vstore x v (← core c).yp
    updCore c (fun k => { k with yp := k.yp + e })
    return r
  | .vlds => do
    need c 2
    needF c 0 1
    let (a, st) ← pop2 c
    vgsLoad x v (fun i => a + BitVec.ofNat 64 i * st)
  | .vsts => do
    need c 2
    needF c 1 0
    let (a, st) ← pop2 c
    match (← popF c 1) with
    | w :: _ => vgsStore x v (fun i => a + BitVec.ofNat 64 i * st) (v.el w)
    | [] => raise cFU
  | .vgather => do
    need c 1
    needF c 1 1
    let a ← pop1 c
    match (← popF c 1) with
    | ix :: _ =>
      let il := v.el ix
      vgsLoad x v (fun i => a + BitVec.ofInt 64 (sgn v.t.w (il.getD i 0) * bw))
    | [] => raise cFU
  | _ => do
    need c 1
    needF c 2 0
    let a ← pop1 c
    match (← popF c 2) with
    | ix :: w :: _ =>
      let il := v.el ix
      vgsStore x v (fun i => a + BitVec.ofInt 64 (sgn v.t.w (il.getD i 0) * bw)) (v.el w)
    | _ => raise cFU

/-- A vector-page instruction (R83 to R85, R187). -/
def runVec (x : Ctx) (o : VecOp) (t : Byte) (m : Option Byte) : Op Next := do
  let c := x.c
  legal (vecLegal o t m)
  needVec c o
  let v ← vctx c t m
  match o with
  | .mtail | .mand | .mor | .mxor | .mandn | .mpop | .mmov | .mrd | .mwr => runMaskOp c o t
  | .vshls | .vshrs | .vsars => do
    need c 1
    needF c 1 1
    let n ← pop1 c
    runVArith c o v n.toNat
  | .vcvt => runVcvt c t v
  | .vbcast | .vperm | .vslideup | .vslidedn | .vziplo | .vziphi => runPermute c o v
  | .vcompress => runVcompress c v
  | .vextr => runVextr c false v
  | .vins => runVextr c true v
  | .vredadd | .vredmin | .vredmax | .vredand | .vredor | .vredxor | .vdot => runReduce c o v
  | .vld | .vst | .vlds | .vsts | .vldx | .vstx | .vldy | .vsty | .vgather | .vscatter => runVmem x o v
  | .vcmpEq | .vcmpNe | .vcmpLt | .vcmpLe | .vcmpGt | .vcmpGe | .vcmpUn => runVcmp c ((vcmpPred o).getD 0) t v
  | .vadd | .vsub | .vmul | .vmulh | .vfma | .vfms | .vdiv | .vsqrt | .vmin | .vmax | .vabs | .vneg
  | .vand | .vor | .vxor | .vnot | .vshl | .vshr | .vsar => runVArith c o v 0

end Sys2Proof.Machine
end

