-- ==== Sys2Proof/Machine/Micro.lean ====
section
/-!
DEFINITION. Machine/Micro.lean: dispatch tables and the microsequencer (R256 to R267).
-/
namespace Sys2Proof.Machine

/-- The control store of a core's cluster. -/
def ctlOf (s : State) (c : CoreId) : CtlStore := s.ctl[(clusterOf c).val]

/-- The microword at an address of an image (R256, R277). -/
def Image.word (i : Image) (a : Nat) : W32 := match i.micro.find? (fun p => p.1 == a) with
  | some p => p.2
  | none => Config.baseMicro a

/-- The entry that a package wrote at an index, if any (R257, R277). -/
def Image.entry? (i : Image) (idx : Nat) : Option (BitVec 16) := (i.disp.find? (fun p => p.1 == idx)).map Prod.snd

/-- The encodings that the base image microcodes (R258, R260): table × 256 + opcode. -/
def baseMicrocoded (idx : Nat) : Bool :=
  (0xE0 ≤ idx && idx ≤ 0xE4) || (0xB0 ≤ idx && idx ≤ 0xB3) || idx == 256 + 0x52 || idx == 256 + 0x53 || idx == 256 + 0x58 ||
  idx == 256 + 0x59

/-- How an encoding runs (R257, R258). -/
inductive Route
  /-- Hardwired logic, or the base image's own sequence, whose effects the spec states. -/
  | native
  /-- Illegal: no hardwired logic and MC = 0 (R258). -/
  | illegal
  /-- Microcode from an address. -/
  | micro (a : BitVec 14)
  /-- The dispatch entry fails parity (R269). -/
  | parity (idx : Nat)
  deriving DecidableEq, Repr

/-- The route of an instruction's bytes on a core (R257 to R259). -/
def opRoute (s : State) (c : CoreId) (op : CoreOp) (bytes : List Byte) : Route := match dispatchOf bytes with
  | none => .native
  | some (t, o) =>
    let idx := t.val * 256 + o.toNat
    let k := ctlOf s c
    if idx ∈ k.badEntries then .parity idx
    else match k.img.entry? idx with
      | some e => if bitOf e 14 then .micro (fieldOf e 0 14) else if hardwired op then .native else .illegal
      | none => if hardwired op || baseMicrocoded idx then .native else .illegal

/-- The fold class of an instruction under the image in force (R91, R260). -/
def classOf (s : State) (c : CoreId) (op : CoreOp) (bytes : List Byte) : FoldClass := match opRoute s c op bytes with
  | .native => foldClass op
  | _ => .other

/-- A microcode error at a control-store address (R267, R299). -/
def microError {α : Type} (a : Nat) : Op α := throw (.mcheck (0x03 ||| (BitVec.ofNat 64 a <<< 16)) 0 true)

/-- A microcode timeout (R267). -/
def microTimeout {α : Type} : Op α := throw (.mcheck 0x04 0 true)

/-- A micro-operand read (R262). -/
def microRead (x : Ctx) (m : Micro) (n : Nat) : Op Word := do
  let k ← core x.c
  if h : n < 16 then return m.ut[n]
  else if n < 24 then
    need x.c (n - 16 + 1)
    entryRead x.c (n - 16)
  else if n = 24 then return k.xp
  else if n = 25 then return k.yp
  else if n = 26 then return k.xstep
  else if n = 27 then return k.ystep
  else if n = 28 then return x.next
  else if n = 29 then return x.pc
  else if n = 30 then return 0
  else return wordOfLe ((operandBytes x.bytes).take 8)

/-- A micro-operand written (R262). -/
def microWrite (x : Ctx) (m : Micro) (n : Nat) (v : Word) : Op Micro := do
  if n < 16 then return { m with ut := m.ut.setIfInBounds n v }
  else if n < 24 then
    need x.c (n - 16 + 1)
    entryWrite x.c (n - 16) v
    return m
  else if n = 24 then do
    updCore x.c (fun k => { k with xp := v })
    return m
  else if n = 25 then do
    updCore x.c (fun k => { k with yp := v })
    return m
  else if n = 26 then do
    updCore x.c (fun k => { k with xstep := v })
    return m
  else if n = 27 then do
    updCore x.c (fun k => { k with ystep := v })
    return m
  else if n = 30 then return m
  else microError m.addr.toNat

/-- The micro ALU (R261). -/
def microAlu (op : Nat) (a b : Word) : Word :=
  let n := b.toNat % 64
  match op with
  | 0 => a + b | 1 => a - b | 2 => a &&& b | 3 => a ||| b | 4 => a ^^^ b | 5 => a <<< n | 6 => a >>> n | 7 => a.sshiftRight n
  | 8 => a * b | 9 => if a.slt b then a else b | 10 => if a.slt b then b else a
  | 11 => if a.ult b then a else b | 12 => if a.ult b then b else a | 13 => a
  | 14 => BitVec.ofNat 64 (clz a) | _ => a &&& ~~~b

/-- Whether the operand fields that a class does not list are 0 (R261). -/
def microFields (w : W32) : Bool :=
  let z (lo n : Nat) : Bool := fieldOf w lo n == 0
  match (fieldOf w 28 4).toNat with
  | 0x0 => z 0 26
  | 0x1 => z 0 7
  | 0x2 => true
  | 0x3 => z 0 5
  | 0x4 => z 23 1 && z 0 5
  | 0x5 => z 14 4
  | 0x6 => z 14 12
  | 0x7 => z 14 3
  | 0x8 => z 0 11
  | 0x9 => z 12 8
  | 0xA => z 0 25
  | 0xB => z 0 10
  | 0xC => z 18 5 && z 0 13
  | 0xD => z 8 16
  | _ => false

/-- Whether a BRANCH condition holds (R261); none: condition 7. -/
def microCond (s : State) (c : CoreId) (cond : Nat) (a : Word) : Option Bool := match cond with
  | 0 => some true
  | 1 => some (a == 0)
  | 2 => some (a != 0)
  | 3 => some (a.slt 0)
  | 4 => some (!a.slt 0)
  | 5 => some (eventDue s c)
  | 6 => some (bitOf a 0)
  | _ => none

/-- The vector instructions by opcode (R85). -/
def vecOfCode (n : Nat) : Option VecOp :=
  [VecOp.vadd, .vsub, .vmul, .vmulh, .vfma, .vfms, .vdiv, .vsqrt, .vmin, .vmax, .vabs, .vneg, .vand, .vor, .vxor, .vnot, .vshl,
   .vshr, .vsar, .vshls, .vshrs, .vsars, .vcmpEq, .vcmpNe, .vcmpLt, .vcmpLe, .vcmpGt, .vcmpGe, .vcmpUn, .mtail, .mand, .mor,
   .mxor, .mandn, .mpop, .mmov, .mrd, .mwr, .vcvt, .vbcast, .vperm, .vslideup, .vslidedn, .vziplo, .vziphi, .vcompress, .vextr,
   .vins, .vredadd, .vredmin, .vredmax, .vredand, .vredor, .vredxor, .vdot, .vld, .vst, .vlds, .vsts, .vldx, .vstx, .vldy,
   .vsty, .vgather, .vscatter].find? (fun o => vecCode o == n)

/-- Store-buffer entries that a store to a part opens (R229, R265). -/
def opens (s : State) (k : Core) (merge : Bool) (p : Part) : Nat :=
  let o := p.tr.pa % 16
  let e : SbEntry := { addr := p.tr.pa - o, bytes := List.replicate o none ++ List.replicate p.len (some 0) ++ List.replicate (16 - o - p.len) none,
                       mtype := memType s p.tr, gpa := 0, pl := k.pl, slice := k.slice }
  match k.sb.getLast? with
  | some y => if merge && decide (o + p.len ≤ 16) && sbFits s y e then 0 else (o + p.len + 15) / 16
  | none => (o + p.len + 15) / 16

/-- A LOAD microword's data (R261); a load that would have to wait for a held store waits until the timeout of R267. -/
def microLoad (x : Ctx) (held : Nat) (va : Word) (n : Nat) : Op (List Byte) := do
  let ps ← checkAccess x.c .load va n
  dbpCheck x.c [(va, n)] true false
  let s ← get
  let k := s.core x.c
  let waits (p : Part) : Bool := held > 0 && (memType s p.tr == .device ||
    (match youngest k.sb p.tr.pa p.len with
     | some i => decide (k.sb.length - held ≤ i) && ((k.sb[i]?).bind (fun e => (List.range p.len).mapM (fun j => e.at? (p.tr.pa + j)))).isNone
     | none => false))
  if ps.any waits then microTimeout
  else
    let d ← loadParts x.c ps
    return d

/-- What one microword leads to. -/
inductive MicroStep
  /-- The next microword, with the number of store-buffer entries now held. -/
  | go (m : Micro) (held : Nat)
  /-- Held changes are committed. -/
  | commit (m : Micro) (point : Bool)
  /-- The instruction ends. -/
  | done
  deriving DecidableEq, Repr

/-- END (R261): a fault cause, a micro-return, a microcode error, or the end of the instruction. -/
def microEnd (m : Micro) (here kind cause held cc : Nat) : Op MicroStep := match kind with
  | 0 => pure .done
  | 1 => if (0x01 ≤ cause && cause ≤ 0x15) || 0x80 ≤ cause then raise cause else microError here
  | 2 => match m.rets with
    | a :: t => pure (.go { m with addr := a, rets := t, cc := cc + 1 } held)
    | [] => microError here
  | _ => microError here

/-- STACK (R262). -/
def microStack (x : Ctx) (m : Micro) (here op a k : Nat) : Op Unit := do
  let c := x.c
  match op with
  | 0 => need c k
  | 1 =>
    if 1 ≤ k && k ≤ 8 then
      need c k
      dropTop c k
    else microError here
  | 2 => push c (← microRead x m a)
  | 3 => if (← core c).fstk.length < k then raise cFU else pure ()
  | 4 => if 32 - (← core c).fstk.length < k then raise cFO else pure ()
  | _ => microError here

/-- One microword (R261 to R266). -/
def microWord (x : Ctx) (m : Micro) (held : Nat) : Op MicroStep := do
  let s ← get
  let c := x.c
  let here := m.addr.toNat
  let kk := ctlOf s c
  if here ∈ kk.badWords then throw (.parity false here)
  let w := kk.img.word here
  let f (lo n : Nat) : Nat := (fieldOf w lo n).toNat
  if !microFields w then microError here
  let cc := m.cc + f 26 2 + 1
  let nx : Micro := { m with addr := m.addr + 1, cc := cc }
  if f 28 4 != 4 then updCore c (fun k => { k with sbOpen := false })
  match f 28 4 with
  | 0x0 => return .go nx held
  | 0x1 => do
    let a ← microRead x m (f 12 5)
    let b ← microRead x m (f 7 5)
    return .go (← microWrite x nx (f 17 5) (microAlu (f 22 4) a b)) held
  | 0x2 => return .go (← microWrite x nx (f 21 5) (sx (fieldOf w 0 21))) held
  | 0x3 => do
    let sgnd : Bool := f 23 1 == 1
    if sgnd && f 24 2 == 3 then microError here
    let a ← microRead x m (f 13 5)
    let d ← microLoad x held (a + sx (fieldOf w 5 8)) (widthBytes (f 24 2))
    return .go (← microWrite x nx (f 18 5) (extend d sgnd)) held
  | 0x4 => do
    let v ← microRead x m (f 18 5)
    let a ← microRead x m (f 13 5)
    let va := a + sx (fieldOf w 5 8)
    let n := widthBytes (f 24 2)
    let ps ← checkAccess c .store va n
    dbpCheck c [(va, n)] false true
    let k ← core c
    let new := (ps.map (opens (← get) k (k.sbOpen && ps.length == 1))).foldl (· + ·) 0
    if held + new > 8 then microError here
    storeParts c (k.sbOpen && ps.length == 1) ps (leBytes n v.toNat)
    return .go nx (held + new)
  | 0x5 => do
    let a ← microRead x m (f 18 5)
    match microCond s c (f 23 3) a with
    | some true => return .go { nx with addr := fieldOf w 0 14, cc := cc + 1 } held
    | some false => return .go nx held
    | none => microError here
  | 0x6 =>
    if m.rets.length ≥ 4 then microError here
    else return .go { nx with addr := fieldOf w 0 14, rets := nx.addr :: m.rets, cc := cc + 1 } held
  | 0x7 => do
    let n := f 22 4
    if n > 8 then microError here
    let a ← microRead x m (f 17 5)
    return .go { nx with addr := fieldOf w 0 14 + BitVec.ofNat 14 (a.toNat % 2 ^ n), cc := cc + 1 } held
  | 0x8 => do
    microStack x m here (f 22 4) (f 17 5) (f 11 6)
    return .go nx held
  | 0x9 => do
    let n := f 0 12
    match cregRule n with
    | none => microError here
    | some (_, wr) =>
      if f 25 1 == 0 then return .go (← microWrite x nx (f 20 5) (cregRead s c n)) held
      else
        let v ← microRead x m (f 20 5)
        if wr = 3 then return .go nx held
        else
          cregWrite c n v
          return .go nx held
  | 0xA => return .commit { nx with cc := if f 25 1 == 1 then 0 else cc } (f 25 1 == 1)
  | 0xB => do
    let t : Byte := BitVec.ofNat 8 (f 14 4)
    let mk : Byte := BitVec.ofNat 8 (f 11 3 + 8 * f 10 1)
    match vecOfCode (f 18 8) with
    | some o => do
      let _ ← runVec x o t (some mk)
      return .go nx held
    | none => raise cIL
  | 0xC => do
    let a ← microRead x m (f 13 5)
    let _ ← checkAccess c (if f 23 1 == 1 then .store else .load) a (widthBytes (f 24 2))
    return .go nx held
  | _ => microEnd nx here (f 24 2) (f 0 8) held cc

/-- Microwords up to the next commit or the end, at most `fuel` of them (R265, R267). -/
def microRun (x : Ctx) : Nat → Micro → Nat → Op Next
  | 0, _, _ => microTimeout
  | fuel + 1, m, held => do
    if m.cc ≥ 65536 then microTimeout
    match (← microWord x m held) with
    | .go m' h => microRun x fuel m' h
    | .commit m' point => do
      updCore x.c (fun k => { k with micro := some m' })
      return (if point then .stay else .again)
    | .done => return .seq

/-- A microcoded instruction from its dispatch address, or from where its last commit left it (R264, R265). -/
def runMicro (a : BitVec 14) (x : Ctx) : Op Next := do
  let m := ((← core x.c).micro).getD { addr := a }
  microRun x 65536 m 0

end Sys2Proof.Machine
end

