-- ==== Sys2Proof/Machine/Execute.lean ====
section
/-!
DEFINITION. Machine/Execute.lean: what each instruction does, its route through the dispatch tables, and the repeat prefixes (R76 to
R82, R257, R258).
-/
namespace Sys2Proof.Machine

/-- The effect of an instruction by the logic the spec states for it. MOVE, FILL, CRC32 and CMPS do one unit (R134). -/
def runOp (x : Ctx) : CoreOp → Op Next
  | .nop => pure .seq
  | .ill => raise cIL
  | .depth => runDepth x.c
  | .stk o => runStk x.c o
  | .pick k => runPick x.c k
  | .litM1 => runLit x.c (-1)
  | .lit k => runLit x.c (BitVec.ofNat 64 k.val)
  | .lit8 i => runLit x.c (sx i)
  | .lit16 i => runLit x.c (sx i)
  | .lit32 i => runLit x.c (sx i)
  | .lit64 i => runLit x.c i
  | .litpc d => runLit x.c (x.pc + sx d)
  | .alu o => runAlu x.c o
  | .aluB o i => runAluB x.c o i
  | .aluW o i => runAluW x.c o i
  | .fld o p l => runField x.c o p l
  | .ld w s => runLd x.c w s
  | .ldS16 y => runLdStream x.c y { n := 2, s := true, step := false }
  | .ldS y m => do runLdStream x.c y (← modeOf m false true)
  | .ldd8 m d => runLdd x.c m (sx d)
  | .ldd16 m d => runLdd x.c m (sx d)
  | .ldpc m d => runLdAt x.c m (x.pc + sx d)
  | .lda64 a => runLdAt x.c 3 a
  | .ldl k => runLdl x.c k
  | .stl k => runStl x.c k
  | .st w => runSt x (widthBytes w.val) 0
  | .stS16 y => runStStream x y { n := 2, s := false, step := false }
  | .stS y m => do runStStream x y (← modeOf m true true)
  | .std8 m d => runStd x m (sx d)
  | .std16 m d => runStd x m (sx d)
  | .stpc m d => runStpc x m d
  | .br k d => runBranch x k (sx d)
  | .brW k d => runBranch x k (sx d)
  | .doLoop d => runDo x (sx d)
  | .doW d => runDo x (sx d)
  | .loop => runLoop x.c
  | .leave => runLeave x.c
  | .call n d => runCall x n.val (sx d)
  | .callL n d => runCallL x n d
  | .calli n => runCalli x n
  | .ret012 m => runRet x.c m.val
  | .ret m => runRetB x.c m
  | .jmpL d => pure (.jump (x.pc + sx d))
  | .jmpi => runJmpi x.c
  | .jmpa a => pure (.jump a)
  | .atom o w => runAtom x.c o w
  | .crd n => runCrd x.c n
  | .cwr n => runCwr x.c n
  | .syscall k => pure (.call 0x20 k)
  | .hypcall k => do
    needPl x.c 1
    pure (.call 0x21 k)
  | .retx => retx x.c
  | .wait => runWait x.c
  | .fenceO => runFence x.c
  | .fenceS => runFence x.c
  | .fenceI => runFenceI x.c
  | .tlbi k => runTlbi x.c k
  | .cache k => runCache x.c k
  | .brk => runBrk x.c
  | .move => runMove x.c
  | .fill => runFill x.c
  | .crc32 => runCrc32 x.c
  | .cmps => runCmps x.c
  | .xlat m => runXlat x.c m
  | .frac o b => runFrac x.c o b
  | .fp o b => runFp x o b
  | .win o => runWin x.c o
  | .alloc k => runAlloc x.c k
  | .free k => runFree x.c k
  | .vec o t m => runVec x o t m
  | .reserved _ => raise cIL

/-- One stretch of an instruction by the route its dispatch entry gives (R257, R258, R269). -/
def routed (op : CoreOp) (bytes : List Byte) (x : Ctx) : Op Next := do
  match opRoute (← get) x.c op bytes with
  | .native => runOp x op
  | .illegal => raise cIL
  | .micro a => runMicro a x
  | .parity i => throw (.parity true i)

/-- Stretches of an instruction while nothing stops it: `units` event points are passed at most (R134, R237). -/
def runUnits (c : CoreId) (cls : FoldClass) (bytes : List Byte) (body : Ctx → Op Next) : Nat → Nat → State → State
  | 0, _, s => s
  | fuel + 1, units, s =>
    match runWith c cls bytes body s with
    | (s', .over) => s'
    | (s', .onward) => runUnits c cls bytes body fuel units s'
    | (s', .point) =>
      match units with
      | 0 => s'
      | u + 1 => if canRun s' c cls bytes.length then runUnits c cls bytes body fuel u s' else s'

/-- An instruction whose request has left the complex is kept until its answer comes (R111). -/
def noteWait (c : CoreId) (w : WaitOp) (s : State) : State :=
  s.modCore c (fun k => { k with waitOp := if k.ext.isEmpty then none else some w })

/-- An instruction command of a core: nothing happens while the core cannot execute its next instruction (R128, R296, R317, R555). -/
def execUnits (c : CoreId) (op : CoreOp) (units : Nat) (s : State) : Host.Outcome State Fault Refusal :=
  if !s.hasCore c then .fault .absentUnit
  else
    let bytes := opBytes op
    let cls := classOf s c op bytes
    if canRun s c cls bytes.length then
      .next (noteWait c { op := op, rep := none, units := units } (runUnits c cls bytes (routed op bytes) (65536 + units) units s))
    else .next s

/-- An instruction command of one stretch. -/
def execCore (c : CoreId) (op : CoreOp) (s : State) : Host.Outcome State Fault Refusal := execUnits c op 0 s

/-! ### Repeats -/

/-- A repeat's prefix: the count popped, or taken from the count byte; with a count resumed by RETX nothing is popped (R79, R81, R306). -/
def repeatStart (x : Ctx) (fixed : Option Byte) : Op Next := do
  let c := x.c
  match (← core c).rep with
  | some r => do
    updCore c (fun k => { k with rep := some { r with fixed := fixed.isSome } })
    return if r.left == 0 then .seq else .stay
  | none =>
    match fixed with
    | some n => do
      updCore c (fun k => { k with rep := some { left := BitVec.ofNat 64 (n.toNat % 64 + 1), fixed := true } })
      return .stay
    | none => do
      let n ← pop1 c
      if n == 0 then return .seq
      else
        updCore c (fun k => { k with rep := some { left := n, fixed := false } })
        return .stay

/-- One iteration (R79 to R81): the instruction executes as at the prefix, and the count goes down. -/
def iteration (body : CoreOp) (bytes : List Byte) (x : Ctx) : Op Next := do
  let r ← routed body bytes x
  match r with
  | .again => return .again
  | .stay => return .stay
  | _ => do
    let left := match (← core x.c).rep with
      | some r => r.left - 1
      | none => 0
    updCore x.c (fun k => { k with rep := k.rep.map (fun q => { q with left := left }), micro := none })
    return if left == 0 then .seq else .stay

/-- A stretch of a repeat: its prefix first, then iterations (R77, R79 to R82). -/
def repeatBody (body : CoreOp) (inner : List Byte) (fixed : Option Byte) (x : Ctx) : Op Next := do
  legal (repeatable body && (match fixed with
    | some n => decide (n.toNat < 64)
    | none => true))
  if (← core x.c).mid then iteration body inner x else repeatStart x fixed

/-- RPT and RPTN. `units` is the number of iterations this command may do. -/
def execRepeat (c : CoreId) (body : CoreOp) (fixed : Option Byte) (units : Nat) (s : State) : Host.Outcome State Fault Refusal :=
  if !s.hasCore c then .fault .absentUnit
  else
    let inner := opBytes body
    let bytes := (match fixed with
      | some n => [0xF1, n]
      | none => [0xF0]) ++ inner
    if canRun s c .other bytes.length then
      .next (noteWait c { op := body, rep := some fixed, units := units }
        (runUnits c .other bytes (repeatBody body inner fixed) (65536 + units) units s))
    else .next s

/-- The state that an outcome of a core's instruction leaves. -/
def nextOr (s : State) : Host.Outcome State Fault Refusal → State
  | .next t => t
  | _ => s

/-- A core whose outstanding requests have all been answered goes on with its instruction (R111). -/
def resumeCore (s : State) (c : CoreId) : State :=
  let k := s.core c
  if k.ext.isEmpty || k.ext.any (fun r => r.answer.isNone) then s
  else match k.waitOp with
  | some w => nextOr s (match w.rep with
      | none => execUnits c w.op w.units s
      | some f => execRepeat c w.op f w.units s)
  | none => s

/-- Every such core goes on. -/
def resumeCores (s : State) : State := allCores.foldl resumeCore s

end Sys2Proof.Machine
end

