-- ==== Sys2Proof/Machine/Answer.lean ====
section
/-!
DEFINITION. Machine/Answer.lean: what the answers to the complex's own requests do: on the coupling ports (R503, R504) and on wz_sm_*
(R562), and what the memory arrays report for a core's read (R339, R361, R362, R528, R529).
-/
namespace Sys2Proof.Machine

/-- The first request of core `c` without an answer is answered. -/
def answerLoad (c : CoreId) (a : ExtAnswer) (s : State) : State := s.modCore c (fun k => { k with ext := answerFirst a k.ext })

/-- The oldest store-buffer entry of core `c` may be tried again. -/
def unsend (c : CoreId) (s : State) : State :=
  s.modCore c (fun k => match k.sb with
    | e :: t => { k with sb := { e with sent := false } :: t }
    | [] => k)

/-- A line of another complex's DRAM is granted (R353, R503). -/
def installRemote (line : Nat) (excl : Bool) (d : List Byte) (s : State) : State :=
  { s with remote := { line := line, data := (d ++ List.replicate 64 0).take 64, excl := excl } :: s.remote.filter (fun r => r.line != line) }

/-- A shared copy becomes exclusive (R503 UPGRADE). -/
def upgradeRemote (line : Nat) (s : State) : State :=
  { s with remote := updFirst (fun r : RemLine => r.line == line) (fun r => { r with excl := true }) s.remote }

/-- Bytes asked for, from the 16-byte block or the line that a DATA message carries (log entry 30). -/
def pickData (op addr len : Nat) (d : List Byte) : List Byte :=
  if op == 5 || len > 16 then d.take len else (d.drop (addr % 16)).take len

/-- A mover's remote read or write is answered (R386, R385 code 6). -/
def moverAnswer (n : Fin 16) (ok : Bool) (d : List Byte) (s : State) : State :=
  let k := s.movers[n.val]
  if k.state != 1 || !k.waiting then s
  else if !ok then failWaiter (.mover n) 0 s
  else
    let k : Mover := if k.writing then { k with waiting := false, wrote := true }
      else { k with waiting := false, data := some (k.data.getD [] ++ d) }
    { s with movers := s.movers.set n.val k }

/-- The length that the first unanswered request of a core asks for. -/
def askedLen (k : Core) : Nat := ((k.ext.find? (fun r => r.answer.isNone)).map ExtReq.len).getD 0

/-- A request sent to another complex is answered (R503, R504, R529): `status` 0 with data or a completion, or an error. -/
def boardDone (w : Pending) (status : Byte) (d : List Byte) (s : State) : State :=
  let line := w.addr / 64
  if w.op / 32 == 2 then
    -- a snoop sent by this home: data of a modified line comes home, a poisoned one as the poison pattern, and the directory follows
    let a := w.addr % 2 ^ 40
    let s : State := if status == 3 then { s with pattern := insertNew (a / 64) s.pattern }
      else if d.length == 64 then logPhys { s with mem := memWrite s.mem a d } a else s
    let f (e : DirLine) : DirLine := if e.line != a / 64 then e
      else if w.op == 65 && status != 3 then { e with excl := false } else { e with holders := e.holders.filter (· != w.node) }
    { s with dir := (s.dir.map f).filter (fun e => !e.holders.isEmpty) }
  else match w.who with
  | .load c =>
    if status == 3 then answerLoad c .poison s
    else if status != 0 then answerLoad c .error s
    else
      let s := if w.op == 0 || w.op == 1 then installRemote line (w.op == 1) d s else if w.op == 6 then upgradeRemote line s else s
      answerLoad c (.bytes (pickData w.op w.addr (askedLen (s.core c)) d)) s
  | .store c =>
    if w.op == 1 && (status == 0 || status == 3) then
      let s := installRemote line true d s
      unsend c (if status == 3 then poisonLine (.l1d c) false line (fillL1d s c line) else s)
    else if status != 0 then lateError (popSb c s) c w.addr
    else if w.op == 6 then unsend c (upgradeRemote line s)
    else popSb c s
  | .mover n => moverAnswer n (status == 0) d s
  | .debug =>
    if status == 0 then
      let v : W32 := BitVec.ofNat 32 (ofLe (pickData w.op w.addr 4 d))
      { s with tap := { s.tap with data := if w.op == 2 then v else s.tap.data, parked := false } }
    else failWaiter .debug w.addr s
  | .forward m => if status == 0 then respond m 0 0 d s else respond m 2 status [] s
  | .gardener | .none => s

/-- Bytes of a wz_sm_* response that a request asked for. -/
def smBytes (r : SmReq) (d : List (BitVec 128)) : List Byte :=
  ((d.flatMap (fun b => leBytes 16 b.toNat)).drop (r.addr % 16)).take r.len

/-- A request on wz_sm_* is answered (R562). -/
def smDone (r : SmReq) (ok : Bool) (d : List (BitVec 128)) (s : State) : State :=
  match r.who with
  | .load c => answerLoad c (if ok then .bytes (smBytes r d) else .error) s
  | .store c => if ok then popSb c s else lateError (popSb c s) c (r.addr + r.data.findIdx Option.isSome)
  | .mover n => moverAnswer n ok (smBytes r d) s
  | .debug =>
    if ok then { s with tap := { s.tap with data := if r.write then s.tap.data else BitVec.ofNat 32 (ofLe (smBytes r d)), parked := false } }
    else failWaiter .debug r.addr s
  | .forward m =>
    if !ok then respond m 2 1 [] s
    else if r.write then respond m 1 0 [] s
    else respond m 0 0 (d.flatMap (fun b => leBytes 16 b.toNat)) s
  | .gardener | .none => s

/-! ### What the arrays report -/

/-- A single-bit error found in L1D or L2 (R339). -/
def cacheCe (c : CoreId) (l2 : Bool) (s : State) : State :=
  if l2 then (allCores.filter (fun x => clusterOf x == clusterOf c)).foldl (fun s x => tallyEvent 2 x.val 0 false s) s
  else tallyEvent 1 c.val 0 false s

/-- Whether a line is modified in the complex. -/
def State.modified (s : State) (line : Nat) : Bool :=
  s.dirty.any (fun d => d.line == line) || s.remote.any (fun r => r.line == line && r.modified)

/-- A multi-bit error on a line that L1D or L2 holds (R339): a modified line is poisoned, another is removed and counted as corrected. -/
def cacheUe (c : CoreId) (l2 : Bool) (line : Nat) (s : State) : State :=
  let held := if l2 then s.inL2 (clusterOf c) line else s.inL1d c line
  if !held then s
  else if s.modified line then poisonLine (if l2 then .l2 (clusterOf c) else .l1d c) true line s
  else
    let k := clusterOf c
    let s := if l2 then { s with l2 := s.l2.set k.val (l2Drop s.l2[k.val] line) }
      else s.modCore c (fun k => { k with l1d := l1Drop k.l1d line })
    cacheCe c l2 s

/-- A corrected DRAM read (R528): CECNT, the rank's tally and MC_ERRADDR. -/
def dramCe (a : Nat) (s : State) : State :=
  let (m, r) := rankAt s a
  let k := s.mc[m.val]
  let k : McChan := { k with
    cecnt := if k.cecnt = 0xFFFF then k.cecnt else k.cecnt + 1, errAddr := BitVec.ofNat 40 (a / 64 * 64), errUe := false }
  tallyEvent 4 (m.val * 8 + r) 0 false { s with mc := s.mc.set m.val k }

/-- What a read of core `c` found in an array. -/
def arrayReport (c : CoreId) (r : LoadReturn) (s : State) : State :=
  match r with
  | .cacheSingle l2 pa => if (if l2 then s.inL2 (clusterOf c) (pa / 64) else s.inL1d c (pa / 64)) then cacheCe c l2 s else s
  | .cacheMulti l2 pa => cacheUe c l2 (pa / 64) s
  | .dramSingle pa => if dramServed s pa then dramCe pa s else s
  | .dramMulti pa => if dramServed s pa && !s.cachedAnywhere (pa / 64) && !s.dramUe.contains (pa / 64) then
      { s with dramUe := s.dramUe ++ [pa / 64] } else s
  | .spmSingle pa => match target s pa with
      | .spm _ _ => if s.spmCe.contains (pa / 8 * 8) then s else { s with spmCe := s.spmCe ++ [pa / 8 * 8] }
      | _ => s
  | .spmMulti pa => match target s pa with
      | .spm _ _ => if s.spmUe.contains (pa / 8 * 8) then s else { s with spmUe := s.spmUe ++ [pa / 8 * 8] }
      | _ => s
  | .bytes _ | .error => s

/-- The oldest request of core `c` outside the complex is answered with bytes or an error (R111). -/
def loadReturn (c : CoreId) (d : Option (List Byte)) (s : State) : State :=
  if (s.core c).ext.all (fun r => r.answer.isSome) then s
  else match pluck (fun r : SmReq => r.who == .load c) s.smOut with
  | some (_, rest) => answerLoad c (match d with | some b => .bytes b | none => .error) { s with smOut := rest }
  | none => match pluck (fun w : Pending => w.who == .load c) s.cplWait with
    | some (w, rest) =>
      let s := { s with cplWait := rest }
      match d with
      | some b => if w.op == 0 || w.op == 1 || w.op == 6 then boardDone w 0 b s else answerLoad c (.bytes b) s
      | none => boardDone w 1 [] s
    | none => s

end Sys2Proof.Machine
end

