-- ==== Sys2Proof/Machine/CoreRows.lean ====
section
/-!
DEFINITION. Machine/CoreRows.lean: the commands of a core that are no instructions: store-buffer drains, answers, walks, barrow
transfers, events, triple faults, control-store faults and debug (R111, R155, R230, R267 to R272, R296, R308, R317, R331).
-/
namespace Sys2Proof.Machine

/-- A command on core `c`, which the build must have (R6). -/
def onCore (c : CoreId) (s : State) (f : State → State) : Host.Outcome State Fault Refusal :=
  if s.hasCore c then .next (f s) else .fault .absentUnit

/-- A command on cluster `k`. -/
def onCluster (k : ClusterId) (s : State) (f : State → State) : Host.Outcome State Fault Refusal :=
  if s.hasCluster k then .next (f s) else .fault .absentUnit

/-- LOAD_DATA_RETURN: an answer reaches a waiting core and its instruction goes on (R111), or the arrays report what the read met. -/
def loadDataReturn (c : CoreId) (r : LoadReturn) (s : State) : State :=
  match r with
  | .bytes d => resumeCore (loadReturn c (some d) s) c
  | .error => resumeCore (loadReturn c none s) c
  | r => if coreClocked s c then arrayReport c r s else s

/-- STORE_BUFFER_DRAIN: the oldest entry reaches its C (R230). -/
def storeBufferDrain (c : CoreId) (s : State) : State := if coreClocked s c then (drainOldest s c).1 else s

/-- What an operation of the core that is no instruction leaves: its changes, or the TLB fills and the request of its stop. -/
def settleOp (c : CoreId) (f : Op Unit) (s : State) : State :=
  match f s with
  | .ok _ s' => s'
  | .error (.ask r) s' => sendAsk c r (keepTlb c s s')
  | .error (.mcheck cause pa h) s' =>
    applyStop { c := c, pc := (s.core c).pc, bytes := [] } false (.mcheck cause pa h) (keepTlb c s s')
  | .error _ s' => keepTlb c s s'

/-- TABLE_WALK: the walk of an access of the instruction at the PC (R331); a fault is taken at that instruction, whose bytes are
given. -/
def tableWalk (c : CoreId) (u : WalkFor) (va : Word) (bytes : List Byte) (s : State) : State :=
  let k := s.core c
  if !(canRun s c .other bytes.length) then s
  else
    let a : Acc := match u with
      | .fetch => .fetch
      | .load => .load
      | .store => .store
    let x : Ctx := { c := c, pc := k.pc, bytes := bytes }
    match (translate c a va) s with
    | .ok _ s' => keepTlb c s s'
    | .error st s' => applyStop x (u == .fetch) st (keepTlb c s s')

/-- Whether the barrow of core `c` may start a transfer (R159, R540). -/
def barrowActs (s : State) (c : CoreId) : Bool :=
  let k := s.core c
  coreClocked s c && (k.run == .run || k.run == .wait) && !k.halted && !k.retired

/-- One transfer of the barrow, where R155 and R156 make it the next one. -/
def barrowRow (c : CoreId) (ret refill : Bool) (s : State) : State :=
  if barrowActs s c && barrowDue (s.core c) == some (ret, refill) then settleOp c (barrowStep c ret refill) s else s

/-- The fold class and length of a one- or two-byte instruction that can be the second of a folded pair (R91), by its first byte. -/
def secondClass (b : Byte) : Option (CoreOp × Nat) :=
  (([.alu .add, .alu .sub, .alu .min, .alu .max, .alu .and, .alu .or, .alu .xor, .alu .shl, .alu .shr, .alu .sar, .stl 0,
     .br .eq 0, .br .ne 0, .br .lt 0, .br .ge 0, .br .ltu 0, .br .geu 0, .br .z 0, .br .nz 0, .br .ltz 0, .br .gez 0, .br .gtz 0,
     .br .lez 0] : List CoreOp).find? (fun o => (opBytes o).head? == some b)).map (fun o => (o, (opBytes o).length))

/-- Whether the instruction at the PC is the second of a folded pair whose first issued last, so that no event comes between (R93). -/
def nextFolds (s : State) (c : CoreId) : Bool :=
  let k := s.core c
  if k.lastIssue.isNone then false
  else match (translate c .fetch k.pc) s with
  | .ok t s' =>
    match target s' t.pa with
    | .dram a => match secondClass (memGet s.mem a) with
      | some (o, n) => foldsWithLast k (classOf s c o (opBytes o)) n
      | none => false
    | .spm _ a => match secondClass (memGet s.mem a) with
      | some (o, n) => foldsWithLast k (classOf s c o (opBytes o)) n
      | none => false
    | _ => false
  | .error _ _ => false

/-- The event that core `c` takes at its event point (R293, R294, R296). -/
def nextEvent (s : State) (c : CoreId) : Option EventIn :=
  let k := s.core c
  if k.stepDue then
    some { f := { cause := 0x1A }, level := 7, pc := k.pc, pl := faultPl k }
  else if !k.trapw && decide (k.ml < 6) && k.mcheck.isSome then
    k.mcheck.map (fun m => { f := { cause := 0x40, faddr2 := m.pa }, level := 6, pc := m.at?.getD k.pc, pl := 0, mc := some (m.cause, m.lost) })
  else if !k.trapw && decide (k.ml < 6) && !k.late.isEmpty then
    some { f := { cause := 0x41, faddr2 := k.late.headD 0 }, level := 6, pc := k.pc, pl := faultPl k }
  else if k.trapw then none
  else (intrDue s c k.ml).map (fun (l, own) =>
    { f := { cause := 0x50 + l }, level := l, pc := k.pc, pl := if own && k.pl != 0 then 1 else 0 })

/-- The core without the event that it has taken. -/
def Core.taken (k : Core) (cause : Nat) : Core :=
  if cause == 0x1A then { k with stepDue := false }
  else if cause == 0x40 then { k with mcheck := none }
  else if cause == 0x41 then { k with late := k.late.drop 1 }
  else k

/-- EVENT_ENTRY: at an event point the core takes the event that R296 gives, if one is due. -/
def eventEntry (c : CoreId) (s : State) : State :=
  let k := s.core c
  if !coreLive s c || k.run != .run || inStretch k || k.quiesced || k.haltReq ||
      nextFolds s c && !k.stepDue then s
  else match nextEvent s c with
  | some e =>
    match tryEntry c e s with
    | (s, true) => s.modCore c (fun k => k.taken e.f.cause)
    | (s, false) => s
  | none => s

/-- A core after a triple-fault reset (R57, R308): its caches, TLBs and locks stay (R234). -/
def Core.tripleReset (k : Core) : Core :=
  { ({} : Core) with
    itlb := k.itlb, dtlb := k.dtlb, l2tlb := k.l2tlb, l1i := k.l1i, l1d := k.l1d, vgs := k.vgs, run := .tripled, retired := k.retired,
    quiesced := k.quiesced }

/-- TRIPLE_FAULT: the store buffer drains, then the core alone resets and stays stopped; leaf and tally (R308, R476). -/
def tripleFault (c : CoreId) (s : State) : State :=
  if (s.core c).run != .tripling then s
  else match drainN s c (s.core c).sb.length with
  | (s, false) => s
  | (s, true) => tallyEvent 0xA c.val 0 false (setLeaf 0 0 c.val (s.modCore c Core.tripleReset))

/-- MICROCODE_TIMEOUT: 65,536 cc without an event point (R267). -/
def microcodeTimeout (c : CoreId) (s : State) : State :=
  match (s.core c).micro with
  | some _ => if coreClocked s c then applyStop { c := c, pc := (s.core c).pc, bytes := [] } false (.mcheck 0x04 0 true) s else s
  | none => s

/-- Whether a cluster is having its store written (R285): its repairs wait. -/
def underApplication (s : State) (k : ClusterId) : Bool := s.gdn.job.toList.any (fun j => match j with
  | some (.graft _ _ _ (x :: _) _ (some _) _) => x == k
  | _ => false)

/-- WAIT_END: a core whose wake condition holds goes on with the instruction after its WAIT (R128). -/
def waitEnd (c : CoreId) (s : State) : State :=
  let k := s.core c
  if k.run == .wait && coreLive s c && (viewAny s c || k.mcheck.isSome || !k.late.isEmpty || k.haltReq) then s.modCore c Core.endWait else s

/-- WORD_REPAIR: the word or entry is rewritten from the authoritative copy, counted, and the cores that wait for it go on (R269 to
R271). -/
def wordRepair (k : ClusterId) (table : Bool) (idx : Nat) (s : State) : State :=
  let st := s.ctl[k.val]
  if !gdnRuns s || underApplication s k || !(if table then st.badEntries else st.badWords).contains idx then s
  else
    let st : CtlStore := if table then { st with badEntries := st.badEntries.filter (· != idx) }
      else { st with badWords := st.badWords.filter (· != idx) }
    let s := { s with ctl := s.ctl.set k.val st }
    let s := (allCores.filter (fun c => clusterOf c == k && (s.core c).repairWait == some (table, idx))).foldl
      (fun s c => s.modCore c (fun x => { x with repairWait := none })) s
    tallyEvent 6 k.val (if table then 1 + 16384 + idx else 1 + idx) false (setLeaf 1 0 k.val s)

/-- CHECK_PORT_SCAN: the Gardener reads every word and entry (R272). `bad` names those that fail; each awaits its repair. -/
def checkPortScan (k : ClusterId) (bad : List (Bool × Nat)) (s : State) : State :=
  if !gdnRuns s || (s.region (clusterRegion k)).state == 3 then s
  else
    let add (l : List Nat) (t : Bool) (top : Nat) : List Nat :=
      (bad.filter (fun b => b.1 == t && decide (b.2 < top))).foldl (fun l b => if l.contains b.2 then l else l ++ [b.2]) l
    let st := s.ctl[k.val]
    { s with ctl := s.ctl.set k.val { st with badWords := add st.badWords false 16384, badEntries := add st.badEntries true 1024 } }

/-- DEBUG_HALT: a core with a halt request stops at its event point (R317). -/
def debugHalt (c : CoreId) (s : State) : State :=
  let k := s.core c
  if k.haltReq && coreLive s c && !inStretch k && !nextFolds s c && (k.run == .run || k.run == .wait) then
    haltPoint c 1 (s.modCore c Core.endWait)
  else s

/-- A register write of a master, where the block's logic runs (R26, R431, R542). -/
def regCommand (m : Master) (off : Nat) (v : W32) (s : State) : State :=
  if !isActive s || regWaits s off then s else regWrite m off v s

/-- HALTREQ, RESUME and STEP: a write of DBGCTL with a bit set (R312, R313, R317). -/
def dbgctlCommand (m : Master) (c : CoreId) (bit : W32) (v : W32) (s : State) : State :=
  regCommand m (0x70_0000 + c.val * 0x100) ((v &&& 0x7F) ||| bit) s

/-- REGISTER_WRITE of a control register: as a CWR of the core that no fault stops (R51 to R54). -/
def ctrlWrite (c : CoreId) (n : Nat) (v : Word) : Op Unit := do
  let k ← core c
  match cregRule n with
  | none => raise cIL
  | some (_, wr) =>
    if wr = 3 then pure ()
    else
      needPl c wr
      cregEnabled k n
      if n = 0x000 && decide (v.toNat % 4 < k.pl.toNat) then raise cPV
      else cregWrite c n v true

/-- REGISTER_WRITE (R10, R51): `v` is 32 bits wide for a block register. -/
def registerWrite (m : Master) (r : RegRef) (v : Word) (s : State) : Host.Outcome State Fault Refusal :=
  match r with
  | .block off => .next (regCommand m off.toNat (BitVec.ofNat 32 v.toNat) s)
  | .ctrl c n => onCore c s (fun s =>
      if !coreLive s c || (s.core c).run == .held || (s.core c).run == .tripled then s
      else match (ctrlWrite c n.toNat v) s with
      | .ok _ s' => s'
      | .error _ _ => s)

end Sys2Proof.Machine
end

