-- ==== Sys2Proof/Machine/AluRows.lean ====
section
/-!
DEFINITION. Machine/AluRows.lean: the meanings of the commands of integer arithmetic, logic, shifts and bit fields, each one call of the operation that the spec gives it.
-/
namespace Sys2Proof.Machine

/-- ADD (R101). -/
def execAdd (c : CoreId) (s : State) : Host.Outcome State Fault Refusal := execCore c (.alu .add) s

/-- SUB (R101). -/
def execSub (c : CoreId) (s : State) : Host.Outcome State Fault Refusal := execCore c (.alu .sub) s

/-- NEG (R101). -/
def execNeg (c : CoreId) (s : State) : Host.Outcome State Fault Refusal := execCore c (.alu .neg) s

/-- INC (R101). -/
def execInc (c : CoreId) (s : State) : Host.Outcome State Fault Refusal := execCore c (.alu .inc) s

/-- DEC (R101). -/
def execDec (c : CoreId) (s : State) : Host.Outcome State Fault Refusal := execCore c (.alu .dec) s

/-- ADDI8 (R101). -/
def execAddi8 (c : CoreId) (imm : Byte) (s : State) : Host.Outcome State Fault Refusal := execCore c (.aluB .addi8 imm) s

/-- ADDI32 (R101). -/
def execAddi32 (c : CoreId) (imm : W32) (s : State) : Host.Outcome State Fault Refusal := execCore c (.aluW .addi32 imm) s

/-- MUL (R101). -/
def execMul (c : CoreId) (s : State) : Host.Outcome State Fault Refusal := execCore c (.alu .mul) s

/-- MULHS (R101). -/
def execMulhs (c : CoreId) (s : State) : Host.Outcome State Fault Refusal := execCore c (.alu .mulhs) s

/-- MULHU (R101). -/
def execMulhu (c : CoreId) (s : State) : Host.Outcome State Fault Refusal := execCore c (.alu .mulhu) s

/-- DIVS (R103). -/
def execDivs (c : CoreId) (s : State) : Host.Outcome State Fault Refusal := execCore c (.alu .divs) s

/-- DIVU (R103). -/
def execDivu (c : CoreId) (s : State) : Host.Outcome State Fault Refusal := execCore c (.alu .divu) s

/-- REMS (R103). -/
def execRems (c : CoreId) (s : State) : Host.Outcome State Fault Refusal := execCore c (.alu .rems) s

/-- REMU (R103). -/
def execRemu (c : CoreId) (s : State) : Host.Outcome State Fault Refusal := execCore c (.alu .remu) s

/-- MIN (R101). -/
def execMin (c : CoreId) (s : State) : Host.Outcome State Fault Refusal := execCore c (.alu .min) s

/-- MAX (R101). -/
def execMax (c : CoreId) (s : State) : Host.Outcome State Fault Refusal := execCore c (.alu .max) s

/-- ABS (R101). -/
def execAbs (c : CoreId) (s : State) : Host.Outcome State Fault Refusal := execCore c (.alu .abs) s

/-- AND (R104). -/
def execAnd (c : CoreId) (s : State) : Host.Outcome State Fault Refusal := execCore c (.alu .and) s

/-- OR (R104). -/
def execOr (c : CoreId) (s : State) : Host.Outcome State Fault Refusal := execCore c (.alu .or) s

/-- XOR (R104). -/
def execXor (c : CoreId) (s : State) : Host.Outcome State Fault Refusal := execCore c (.alu .xor) s

/-- NOT (R104). -/
def execNot (c : CoreId) (s : State) : Host.Outcome State Fault Refusal := execCore c (.alu .not) s

/-- SHL (R105). -/
def execShl (c : CoreId) (s : State) : Host.Outcome State Fault Refusal := execCore c (.alu .shl) s

/-- SHR (R105). -/
def execShr (c : CoreId) (s : State) : Host.Outcome State Fault Refusal := execCore c (.alu .shr) s

/-- SAR (R105). -/
def execSar (c : CoreId) (s : State) : Host.Outcome State Fault Refusal := execCore c (.alu .sar) s

/-- ROL (R104). -/
def execRol (c : CoreId) (s : State) : Host.Outcome State Fault Refusal := execCore c (.alu .rol) s

/-- SHLI (R104). -/
def execShli (c : CoreId) (b : Byte) (s : State) : Host.Outcome State Fault Refusal := execCore c (.aluB .shli b) s

/-- SHRI (R104). -/
def execShri (c : CoreId) (b : Byte) (s : State) : Host.Outcome State Fault Refusal := execCore c (.aluB .shri b) s

/-- SARI (R104). -/
def execSari (c : CoreId) (b : Byte) (s : State) : Host.Outcome State Fault Refusal := execCore c (.aluB .sari b) s

/-- EXTU (R105). -/
def execExtu (c : CoreId) (p : Byte) (l : Byte) (s : State) : Host.Outcome State Fault Refusal := execCore c (.fld .extu p l) s

/-- EXTS (R105). -/
def execExts (c : CoreId) (p : Byte) (l : Byte) (s : State) : Host.Outcome State Fault Refusal := execCore c (.fld .exts p l) s

/-- INS (R105). -/
def execIns (c : CoreId) (p : Byte) (l : Byte) (s : State) : Host.Outcome State Fault Refusal := execCore c (.fld .ins p l) s

/-- CLZ (R104). -/
def execClz (c : CoreId) (s : State) : Host.Outcome State Fault Refusal := execCore c (.alu .clz) s

/-- POPC (R104). -/
def execPopc (c : CoreId) (s : State) : Host.Outcome State Fault Refusal := execCore c (.alu .popc) s

/-- SX8 (R104). -/
def execSx8 (c : CoreId) (s : State) : Host.Outcome State Fault Refusal := execCore c (.alu .sx8) s

/-- SX16 (R104). -/
def execSx16 (c : CoreId) (s : State) : Host.Outcome State Fault Refusal := execCore c (.alu .sx16) s

/-- SX32 (R104). -/
def execSx32 (c : CoreId) (s : State) : Host.Outcome State Fault Refusal := execCore c (.alu .sx32) s

/-- ZX8 (R104). -/
def execZx8 (c : CoreId) (s : State) : Host.Outcome State Fault Refusal := execCore c (.alu .zx8) s

/-- ZX16 (R104). -/
def execZx16 (c : CoreId) (s : State) : Host.Outcome State Fault Refusal := execCore c (.alu .zx16) s

/-- ZX32 (R104). -/
def execZx32 (c : CoreId) (s : State) : Host.Outcome State Fault Refusal := execCore c (.alu .zx32) s

/-- BSWAP (R104). -/
def execBswap (c : CoreId) (s : State) : Host.Outcome State Fault Refusal := execCore c (.alu .bswap) s

/-- CTZ (R104). -/
def execCtz (c : CoreId) (s : State) : Host.Outcome State Fault Refusal := execCore c (.alu .ctz) s

/-- ROR (R104). -/
def execRor (c : CoreId) (s : State) : Host.Outcome State Fault Refusal := execCore c (.alu .ror) s

/-- BITREV (R104). -/
def execBitrev (c : CoreId) (s : State) : Host.Outcome State Fault Refusal := execCore c (.alu .bitrev) s

/-- SEL (R104). -/
def execSel (c : CoreId) (s : State) : Host.Outcome State Fault Refusal := execCore c (.alu .sel) s

/-- BSET (R104). -/
def execBset (c : CoreId) (b : Byte) (s : State) : Host.Outcome State Fault Refusal := execCore c (.aluB .bset b) s

/-- BCLR (R104). -/
def execBclr (c : CoreId) (b : Byte) (s : State) : Host.Outcome State Fault Refusal := execCore c (.aluB .bclr b) s

/-- BTST (R104). -/
def execBtst (c : CoreId) (b : Byte) (s : State) : Host.Outcome State Fault Refusal := execCore c (.aluB .btst b) s

/-- RORI (R104). -/
def execRori (c : CoreId) (b : Byte) (s : State) : Host.Outcome State Fault Refusal := execCore c (.aluB .rori b) s

/-- ANDI32 (R104). -/
def execAndi32 (c : CoreId) (imm : W32) (s : State) : Host.Outcome State Fault Refusal := execCore c (.aluW .andi32 imm) s

end Sys2Proof.Machine
end

