-- ==== Sys2Proof/Machine/Observer.lean ====
section
/-!
DEFINITION. Machine/Observer.lean: reads and writes of local memory by observers that are not cores (R346): bank movers, coupling
ports, the TME, the Gardener, the debug port and host masters (R364, R370, R376, R450, R529).
-/
namespace Sys2Proof.Machine

/-- Why an observer's access does not complete. -/
inductive ObsErr
  /-- A bus error. -/
  | bus
  /-- An ownership refusal (R364). -/
  | refused
  /-- Uncorrectable data (R362, R529). -/
  | uncorr
  /-- It waits, with a snoop sent where one is needed. -/
  | wait
  deriving DecidableEq, Repr

/-- An observer: its owner code in R363, where it has one, and its region register sets in R369, where it has them. -/
structure Observer where
  /-- Owner code. -/
  code : Option Byte := none
  /-- Master number of its region sets. -/
  sets : Option (Fin 3) := none
  deriving DecidableEq, Repr

/-- The mover's agent (R384). -/
def obsMover (k : Mover) : Observer := { code := some k.agent }
/-- An access that arrives on coupling port `p` (R364). -/
def obsPort (p : PortId) : Observer := { code := some (BitVec.ofNat 8 (0x48 + p.val)) }
/-- The TME (R364, R370). -/
def obsTme : Observer := { code := some 0x50, sets := some 2 }
/-- The Gardener (R364, R370). -/
def obsGardener : Observer := { code := some 0x58, sets := some 0 }
/-- The debug port (R364, R370). -/
def obsDebug : Observer := { sets := some 1 }
/-- A host master on wz_ss_* (R364). -/
def obsHost : Observer := {}

/-- Whether an enabled region set covers scratchpad offsets [o, o + n) with the permission (R369, R370). -/
def rgnCovers (s : State) (m : Fin 3) (o n : Nat) (st : Bool) : Bool :=
  (List.range 8).any (fun i => match s.rgn[m.val * 8 + i]? with
    | some k => bitOf k.perm 2 && bitOf k.perm (if st then 1 else 0) && decide (k.base.toNat ≤ o) && decide (o + n ≤ k.limit.toNat)
    | none => false)

/-- Whether an observer's access to a bank is accepted (R364, R366, R370, R376, R377). -/
def obsBank (s : State) (o : Observer) (b : BankId) (a n : Nat) (st : Bool) : Option ObsErr :=
  let k := s.banks[b.val]
  let rgn := match o.sets with
    | some m => rgnCovers s m (a - 0x80_0000_0000) n st
    | none => false
  let own := o.code == some k.owner
  if !own && !rgn then some .refused
  else if k.req != 0 then some .bus
  else if k.pstate != 0 then some .wait
  else if own && !rgn && !k.handoverDone then some .wait
  else none

/-- A read of [a, a + n), at a physical address and within one line of DRAM or one bank. -/
def obsRead (o : Observer) (pa n : Nat) (s : State) : Except ObsErr (List Byte) × State :=
  match target s pa with
  | .dram a =>
    let l := a / 64
    if remoteHolds s l false then (.error .wait, homeSnoop s l false)
    else if l ∈ s.lostLines then (.error .bus, s)
    else if s.isPoisoned l || l ∈ s.pattern then (.error .uncorr, s)
    else if l ∈ s.dramUe then (.error .uncorr, dramUeFound l s)
    else let (d, s) := cohRead s a n; (.ok d, s)
  | .spm b a =>
    match obsBank s o b a n false with
    | some e => (.error e, s)
    | none =>
      if (spmFirstUe s a n).isSome then (.error .uncorr, spmUeFound s b)
      else (.ok (memRead s.mem a n), spmNoteCe s b a n)
  | _ => (.error .bus, s)

/-- A write of bytes from `pa` upwards, within one line of DRAM or one bank. `guest`: the slice and the guest-physical address through
whose stage 2 it was made, else it arrived by physical address (R450). -/
def obsWrite (o : Observer) (pa : Nat) (d : List (Option Byte)) (guest : Option (SliceId × Nat)) (s : State) : Option ObsErr × State :=
  match target s pa with
  | .dram a =>
    let l := a / 64
    if remoteHolds s l true then (some .wait, homeSnoop s l true)
    else
      let s := cohWrite s a d
      (none, match guest with
        | some (n, g) => logGuest s n g
        | none => logPhys s a)
  | .spm b a => match obsBank s o b a d.length true with
    | some e => (some e, s)
    | none => (none, spmWrite s b a d)
  | _ => (some .bus, s)

/-- A STATUS or reply code for an error (R504). -/
def ObsErr.status : ObsErr → Byte
  | .bus => 1
  | .refused => 2
  | .uncorr => 3
  | .wait => 0

end Sys2Proof.Machine
end

