-- ==== Sys2Proof/Machine/Spm.lean ====
section
/-!
DEFINITION. Machine/Spm.lean: the commands of the scratchpad banks and the weeder (R361 to R380).
-/
namespace Sys2Proof.Machine

/-- A command on bank `b`, which the build must have (R6). -/
def onBank (b : BankId) (s : State) (f : State → State) : Host.Outcome State Fault Refusal :=
  if s.hasBank b then .next (f s) else .fault .absentUnit

/-- SPM_BANK_OWNER_WRITE (R365). -/
def bankOwnerCommand (m : Master) (b : BankId) (v : W32) (s : State) : State := regCommand m (0x30_0000 + b.val * 0x10) v s

/-- Whether a store-buffer entry lies in a bank. -/
def SbEntry.inBank (s : State) (b : BankId) (e : SbEntry) : Bool := e.mop.isNone && (match target s e.addr with
  | .spm x _ => x == b
  | _ => false)

/-- Whether accesses of a bank's old owner are in flight (R366): stores that it has retired. A transfer of the barrow and a block of a
mover are one command each, so none is under way between commands. -/
def bankBusy (s : State) (b : BankId) (owner : Byte) : Bool :=
  if h : owner.toNat < 64 then (s.core ⟨owner.toNat, h⟩).sb.any (SbEntry.inBank s b) else false

/-- HANDOVER_DONE: the old owner's last access has been performed (R366, R380). -/
def handoverDoneRow (b : BankId) (s : State) : State :=
  let k := s.banks[b.val]
  if k.handoverDone || bankBusy s b k.oldOwner || !fabRuns s then s
  else raiseSource (1180 + (bankRegion b).val) (s.modBank b (fun k => { k with handoverDone := true, oldOwner := 0xFF }))

/-- SPM_BANK_PWR_WRITE (R376, R379). -/
def bankPwrCommand (m : Master) (b : BankId) (v : W32) (s : State) : State := regCommand m (0x30_0008 + b.val * 0x10) v s

/-- The scratchpad addresses of a bank (R23). -/
def bankBase (b : BankId) : Nat := 0x80_0000_0000 + b.val * 0x2_0000

/-- A bank zero-filled with valid check bits (R376, R378). -/
def zeroBank (b : BankId) (s : State) : State :=
  let lo := bankBase b
  let hi := lo + 0x2_0000
  let out (w : Nat) : Bool := decide (w < lo) || decide (hi ≤ w)
  { s with mem := memZero s.mem lo hi, spmCe := s.spmCe.filter out, spmUe := s.spmUe.filter out }

/-- BANK_POWER_CHANGE_DONE (R376, R377): after the accesses in flight, PSTATE follows REQ; ON after OFF comes with zero fill. -/
def bankPowerDone (b : BankId) (s : State) : State :=
  let k := s.banks[b.val]
  if k.pstate != 3 || !k.handoverDone || bankBusy s b k.owner || !fabRuns s || (s.region (bankRegion b)).state == 3 then s
  else
    let s := if k.fromOff && k.req == 0 then zeroBank b s else s
    s.modBank b (fun k => { k with pstate := k.req, fromOff := k.fromOff && k.req != 0 })

/-- CORRECTION_WRITE_BACK: a word with a single-bit error is written back corrected (R361). `w` is the word's number in the bank. -/
def correctionWriteBack (b : BankId) (w : Fin 16384) (s : State) : State :=
  if s.banks[b.val].pstate == 0 && fabRuns s then { s with spmCe := s.spmCe.filter (· != bankBase b + 8 * w.val) } else s

/-- One bank's steal (R373 to R375). `found`: a mismatch of the March run, and whether the confirm run met it too. -/
def stealBank (pos : Nat) (b : BankId) (found : Option Bool) (s : State) : State :=
  let lo := bankBase b + 256 * pos
  let s := spmNoteCe s b lo 256
  let s := { s with spmCe := s.spmCe.filter (fun w => decide (w < lo) || decide (lo + 256 ≤ w)) }
  let s := if (spmFirstUe s lo 256).isSome then spmUeFound s b else s
  match found with
  | none => s
  | some false => tallyCe b.val (s.modBank b (fun k => { k with cecnt := if k.cecnt = 0xFFFF then k.cecnt else k.cecnt + 1 }))
  | some true =>
    let f : W32 := BitVec.ofNat 32 (b.val + pos * 256 + 2 ^ 31)
    let s := { (s.modBank b (fun k => { k with weedFault := true })) with weeder := { s.weeder with fault := f } }
    tallyEvent 3 b.val 0 true (raiseSource (1168 + (bankRegion b).val) s)

/-- WEEDER_STEAL: one test of the region POS in every bank that is ON (R372 to R375). `found` gives the banks whose March run met a
mismatch, each with whether the confirm run met it. A steal is one command (log entry 33). -/
def weederSteal (found : List (BankId × Bool)) (s : State) : State :=
  if !s.weeder.en || !fabRuns s then s
  else
    let pos := s.weeder.pos.toNat
    let on := allBanks.filter (fun b => s.hasBank b && s.banks[b.val].pstate == 0)
    let s := on.foldl (fun s b => stealBank pos b ((found.find? (fun f => f.1 == b)).map Prod.snd) s) s
    { s with weeder := { s.weeder with pos := s.weeder.pos + 1 } }

end Sys2Proof.Machine
end

