-- ==== Sys2Proof/Machine/Mover.lean ====
section
/-!
DEFINITION. Machine/Mover.lean: the bank mover's channels (R381 to R387, R520).
-/
namespace Sys2Proof.Machine

/-- A mover channel's number in its state: region × 4 + channel (R388). -/
abbrev MoverId := Fin 16

/-- State with a channel replaced. -/
def setMover (n : MoverId) (k : Mover) (s : State) : State := { s with movers := s.movers.set n.val k }

/-- A channel stops with an error code (R385, R387): an ABORT that waits has met the error. -/
def moverFail (n : MoverId) (code : BitVec 3) (s : State) : State :=
  let k := s.movers[n.val]
  raiseSource (1152 + n.val) (setMover n { k with
    state := 3, err := code, abtres := if k.abortReq then 2 else k.abtres, abortReq := false, waiting := false, writing := false,
    data := none, wrote := false } s)

/-- The ERR code of an observer's error (R385). -/
def ObsErr.mover : ObsErr → BitVec 3
  | .bus => 4
  | .refused => 3
  | .uncorr => 5
  | .wait => 0

/-- Stage 2 of a slice for a channel that a core started (R320, R323, R382): the walk of the slice's tables. -/
def walk2 (s : State) (o : Observer) (gpa table : Nat) : Nat → Nat → Except (BitVec 3) (Nat × Bool)
  | 0, _ => .error 2
  | fuel + 1, l =>
    let a := table + (if l = 0 then gpa / 2 ^ 39 % 16384 else gpa / 2 ^ levelBits l % 512) * 8
    match (obsRead o a 8 s).1 with
    | .error .uncorr => .error 5
    | .error _ => .error 2
    | .ok b =>
      let d := descOf (wordOfLe b)
      if descFaults d l gpa then .error 2
      else if descIsTable d l then walk2 s o gpa d.oa fuel (l + 1)
      else
        let n := leafBits d l
        .ok (d.oa / 2 ^ n * 2 ^ n + gpa % 2 ^ n, d.w)

/-- The physical address of an address of a channel, for a read or a write (R382, R385). -/
def moverAddr (s : State) (k : Mover) (a : Nat) (st : Bool) : Except (BitVec 3) Nat :=
  let sl := s.slice k.slice
  if !k.s2 || !sl.s2en then .ok a
  else match walk2 s (obsMover k) a sl.s2root.toNat 4 0 with
    | .ok (pa, w) => if st && !w then .error 2 else .ok pa
    | .error e => .error e

/-- What a step of a channel's read or write comes to. -/
inductive MvStep
  | done (d : List Byte) (s : State)
  /-- A request has gone out, or the step must be tried again. -/
  | waits (s : State)
  | fail (code : BitVec 3) (s : State)

/-- A READ_REQ queued for a TME-reached node (R520): the channel's number is its tag. -/
def readReq (n : MoverId) (node : BitVec 12) (a len : Nat) (s : State) : State :=
  tmeQueue { kind := 4, src := s.node, dst := node, len := len, addr := BitVec.ofNat 40 a, tag := BitVec.ofNat 32 n.val } s

/-- `len` bytes, at most 64, read at one address of a channel, within one page (R364, R381, R520). A remote read goes out and is
awaited. -/
def moverRead (n : MoverId) (a len : Nat) (s : State) : MvStep :=
  let k := s.movers[n.val]
  match moverAddr s k a false with
  | .error e => .fail e s
  | .ok pa => match target s pa with
    | .dram _ | .spm _ _ =>
      -- a read over two lines of DRAM is two reads
      let m := min len (64 - pa % 64)
      match obsRead (obsMover k) pa m s with
      | (.error .wait, s) => .waits s
      | (.error e, s) => .fail e.mover s
      | (.ok d, s) =>
        if m = len then .done d s
        else match obsRead (obsMover k) (pa + m) (len - m) s with
        | (.error .wait, s) => .waits s
        | (.error e, s) => .fail e.mover s
        | (.ok d', s) => .done (d ++ d') s
    | .board _ _ => .waits (boardSend (.mover n) pa 97 [] len (setMover n { k with waiting := true } s))
    | .tme node off => .waits (readReq n node off len (setMover n { k with waiting := true } s))
    | .leaving => .waits s
    | _ => .fail 4 s

/-- `len` bytes of a channel's block, page by page, with what has come so far in the channel's `data`. -/
def moverReadBlock (n : MoverId) (a len : Nat) : Nat → State → MvStep
  | 0, s => .waits s
  | fuel + 1, s =>
    let got := ((s.movers[n.val]).data).getD []
    if got.length ≥ len then .done (got.take len) s
    else
      let b := a + got.length
      match moverRead n b (min (len - got.length) (4096 - b % 4096)) s with
      | .done d s => moverReadBlock n a len fuel (setMover n { s.movers[n.val] with data := some (got ++ d) } s)
      | r => r

/-- A block written at its destination (R383, R386, R450, R520). -/
def moverWrite (n : MoverId) (a : Nat) (d : List Byte) (s : State) : MvStep :=
  let k := s.movers[n.val]
  if k.wrote then .done d s
  else match moverAddr s k a true with
    | .error e => .fail e s
    | .ok pa => match target s pa with
      | .dram _ | .spm _ _ =>
        let guest : Option (SliceId × Nat) := if k.s2 then some (⟨k.slice.toNat, k.slice.isLt⟩, a) else none
        match obsWrite (obsMover k) pa (d.map some) guest s with
        | (none, s) => .done d s
        | (some .wait, s) => .waits s
        | (some e, s) => .fail e.mover s
      | .board _ _ => .waits (boardSend (.mover n) pa 96 (d.map some) 0 (setMover n { k with waiting := true, writing := true, data := some d } s))
      | .tme node off =>
        .waits (tmeQueue { kind := 1, src := s.node, dst := node, len := d.length, addr := BitVec.ofNat 40 off,
                           tag := BitVec.ofNat 32 n.val, data := d } (setMover n { k with waiting := true, writing := true, data := some d } s))
      | .leaving => .waits s
      | _ => .fail 4 s

/-- A descriptor from its 32 bytes, unless a reserved field is not zero or NEXT is 0 without LAST (R381, R385). -/
def mvDescOf (b : List Byte) : Option MvDesc :=
  let f (o n : Nat) : Nat := blockField b o n
  if f 0 8 / 2 ^ 53 != 0 || f 8 8 / 2 ^ 53 != 0 || f 0x14 4 / 4 != 0 || f 0x18 8 / 2 ^ 53 != 0 then none
  else if f 0x18 8 = 0 && f 0x14 4 / 2 % 2 = 0 then none
  else some { src := f 0 8, dst := f 8 8, len := f 0x10 4, irq := f 0x14 4 % 2 == 1, last := f 0x14 4 / 2 % 2 == 1, next := f 0x18 8 }

/-- The chain goes on after a block with `rem` bytes of its descriptor left (R381, R386, R387). -/
def moverAdvance (n : MoverId) (d : MvDesc) (rem : Nat) (s : State) : State :=
  let k := { s.movers[n.val] with data := none, wrote := false, writing := false, rem := BitVec.ofNat 32 rem }
  if rem = 0 && d.last then
    let k := { k with state := 2, d := none, abtres := if k.abortReq then 2 else k.abtres, abortReq := false }
    let s := setMover n k s
    if d.irq then raiseSource (1152 + n.val) s else s
  else
    let s := if rem = 0 && d.irq then raiseSource (1152 + n.val) s else s
    let k : Mover := if rem = 0 && !k.abortReq then { k with d := none, cur := BitVec.ofNat 53 d.next } else k
    if k.abortReq then raiseSource (1152 + n.val) (setMover n { k with state := 0, d := none, abtres := 1, abortReq := false } s)
    else setMover n k s

/-- Whether a descriptor's source and destination ranges overlap (R383). -/
def MvDesc.overlaps (d : MvDesc) : Bool := decide (d.src < d.dst + d.len) && decide (d.dst < d.src + d.len)

/-- The block that comes next of a descriptor (R383, R386). -/
def moverBlockOf (n : MoverId) (d : MvDesc) (s : State) : State :=
  let k := s.movers[n.val]
  let done := d.len - k.rem.toNat
  let len := min k.rem.toNat (64 - (d.dst + done) % 64)
  if len = 0 then moverAdvance n d 0 s
  else match moverReadBlock n (d.src + done) len 3 s with
  | .waits s => s
  | .fail e s => moverFail n e s
  | .done b s =>
    -- the content of an overlapping copy is undefined: a free value (R383)
    let (b, s) : List Byte × State :=
      if d.overlaps && !k.writing then (((Config.freeBytes s.free len).take len ++ List.replicate len 0).take len, { s with free := s.free + 1 })
      else (b, s)
    match moverWrite n (d.dst + done) b s with
    | .waits s => s
    | .fail e s => moverFail n e s
    | .done _ s => moverAdvance n d (k.rem.toNat - len) s

/-- MOVER_BLOCK: a busy channel reads its descriptor where it has none, and completes one block (R381 to R387). A block with a remote
end takes a command to send each request and one to complete. -/
def moverBlock (n : MoverId) (s : State) : State :=
  let k := s.movers[n.val]
  if k.state != 1 || k.waiting || !fabRuns s || decide (n.val / 4 ≥ s.build.regions) then s
  else match k.d with
  | some d => moverBlockOf n d s
  | none =>
    if k.cur.toNat % 32 != 0 then moverFail n 1 s
    else match moverReadBlock n k.cur.toNat 32 2 s with
    | .waits s => s
    | .fail e s => moverFail n e s
    | .done b s =>
      match mvDescOf b with
      | none => moverFail n 1 (setMover n { s.movers[n.val] with data := none } s)
      | some d => moverBlockOf n d (setMover n { s.movers[n.val] with d := some d, data := none, rem := BitVec.ofNat 32 d.len } s)

/-- SPM_MV_START (R382). -/
def mvStartCommand (m : Master) (n : MoverId) (s : State) : State := regCommand m (0x30_4008 + n.val * 0x100) 1 s
/-- SPM_MV_ABORT (R387). -/
def mvAbortCommand (m : Master) (n : MoverId) (s : State) : State := regCommand m (0x30_4008 + n.val * 0x100) 2 s

end Sys2Proof.Machine
end

