-- ==== Sys2Proof/Machine/Irq.lean ====
section
/-!
DEFINITION. Machine/Irq.lean: the commands of the interrupt controller and the timers (13_interrupts.md, 14_timers.md).
-/
namespace Sys2Proof.Machine

/-! ### Interrupt controller -/

/-- A command on an input wz_irq_in[n], which the build must have (R6). -/
def onIrq (n : Fin 1024) (s : State) (f : State → State) : Host.Outcome State Fault Refusal :=
  if n.val < s.build.irqIn then .next (f s) else .fault .absentUnit

/-- A write of the register of group `g` at a base offset of the INTC registers (R412). -/
def intcGroupCommand (m : Master) (base : Nat) (g : Fin 40) (v : W32) (s : State) : State :=
  regCommand m (0x10_0000 + base + 4 * g.val) v s

/-- INTC_ROUTE_WRITE (R402). -/
def routeCommand (m : Master) (n : Fin 1280) (v : W32) (s : State) : State := regCommand m (0x10_1000 + 4 * n.val) v s

/-- A core as the master of an access, with its CSTAT.PL (R399). -/
def coreMaster (s : State) (c : CoreId) : Master := .core c (s.core c).pl

/-- INTC_CLAIM (R403, R404). -/
def claimCommand (c : CoreId) (v : W32) (s : State) : State := regCommand (coreMaster s c) 0x10_0C00 v s
/-- INTC_COMPLETE (R405, R406, R408). -/
def completeCommand (c : CoreId) (v : W32) (s : State) : State := regCommand (coreMaster s c) 0x10_0C04 v s

/-- HOLDOFF_END (R408): the group is in hold-off and the controller's clock runs. -/
def holdoffCommand (g : Fin 40) (s : State) : State := if s.intc.held[g.val] && fabRuns s then holdoffEnd g s else s

/-! ### Timers -/

/-- A command on timer channel `n`, which the build must have (R6). -/
def onChan (n : ChanId) (s : State) (f : State → State) : Host.Outcome State Fault Refusal :=
  if s.hasChan n then .next (f s) else .fault .absentUnit

/-- CHANNEL_TICK: a tick of the channel's source (R414, R416, R417). An input or a chained channel as source has its ticks with that
input or channel. -/
def channelTick (n : ChanId) (s : State) : State :=
  if !tmrRuns s (chanRegion n) || (s.chan n).src == 3 || (s.chan n).src == 4 then s else sourceTick 16 n s

/-- TMR_IN_RISE: the tick of a channel with SRC = 3, then the capture (R414, R424, R425). -/
def tmrInRise (n : ChanId) (s : State) : State :=
  if !tmrRuns s (chanRegion n) then s
  else captureRise n (if (s.chan n).src == 3 then sourceTick 16 n s else s)

/-- TMR_IN_FALL (R424, R425). -/
def tmrInFall (n : ChanId) (s : State) : State := if !tmrRuns s (chanRegion n) then s else captureFall n s

/-- A write of a register of channel `n` (R436). -/
def chanCommand (m : Master) (n : ChanId) (o : Nat) (v : W32) (s : State) : State :=
  regCommand m (0x20_0000 + n.val / 16 * 0x1_0000 + n.val % 16 * 0x100 + o) v s

/-- The _LO offset of a register with a holding word (R419, R436). -/
def holdOffset : HoldReg → Nat
  | .cnt => 0x20
  | .period => 0x30
  | .cmpa => 0x40
  | .cmpb => 0x50
  | .ratio => 0x80

/-- The _HI offset of a register with a pending value (R420, R436). -/
def pendOffset : PendReg → Nat
  | .period => 0x34
  | .cmpa => 0x44
  | .cmpb => 0x54

/-- HOLDING_WORD_WRITE (R419); `none` names the system counter's ratio. -/
def holdingCommand (m : Master) (n : Option ChanId) (r : HoldReg) (v : W32) (s : State) : Host.Outcome State Fault Refusal :=
  match n with
  | some n => onChan n s (chanCommand m n (holdOffset r) v)
  | none => .next (regCommand m 0x24_0008 v s)

/-- TMR_MKUP_RATIO_WRITE: the write of the _HI half, which commits (R432); `none` names the system counter's ratio. -/
def ratioCommand (m : Master) (n : Option ChanId) (v : W32) (s : State) : Host.Outcome State Fault Refusal :=
  match n with
  | some n => onChan n s (chanCommand m n 0x84 v)
  | none => .next (regCommand m 0x24_000C v s)

end Sys2Proof.Machine
end

