-- ==== Sys2Proof/Machine/Gdn.lean ====
section
/-!
DEFINITION. Machine/Gdn.lean: how the Gardener accepts a command, checks it and replies (R461 to R473).
-/
namespace Sys2Proof.Machine

/-! ### Status codes (R471) -/

def gDone : GStatus := 0x0000
def gNothing : GStatus := 0x0010
def gAborted : GStatus := 0x0011
def gBadOpcode : GStatus := 0x0020
def gBadParam : GStatus := 0x0021
def gRefused : GStatus := 0x0022
def gBusy : GStatus := 0x0023
def gAuth : GStatus := 0x0030
def gVersion : GStatus := 0x0031
def gRetired : GStatus := 0x0040
def gAccepted : GStatus := 0x0002

/-! ### Packets -/

/-- Parameter word `i` of a command (R469). -/
def GCmd.param (c : GCmd) (i : Nat) : Word := BitVec.ofNat 64 (pktField c.pkt (16 + 8 * i) 8)
/-- SLICE of a command's header. -/
def GCmd.slice (c : GCmd) : BitVec 6 := BitVec.ofNat 6 (pktField c.pkt 6 1)
/-- FLAGS.IRQ. -/
def GCmd.irq (c : GCmd) : Bool := pktField c.pkt 2 1 % 2 == 1

/-- The queues of a command (R472); none: an opcode that is not in the table. -/
def opQueues (op : Nat) : Option (List Nat) :=
  if op = 0x0001 || op = 0x0002 || op = 0x0061 then some [0, 1, 2, 3]
  else if op = 0x0060 then some [0, 1, 3]
  else if op = 0x0020 || op = 0x0021 || op = 0x0032 || op = 0x0051 || op = 0x00F0 then some [0, 1, 2]
  else if op = 0x0010 || op = 0x0011 || op = 0x0030 || op = 0x0031 || (0x0040 ≤ op && op ≤ 0x0044) || op = 0x0050 || op = 0x0052 ||
      (0x0070 ≤ op && op ≤ 0x0076) || op = 0x0080 || op = 0x0081 || op = 0x0090 || op = 0x00FF then some [0, 1]
  else none

/-- Whether LEN is the command's (R471, R472). -/
def opLenOk (c : GCmd) : Bool :=
  let n := c.len
  match c.opcode with
  | 0x0001 | 0x0072 | 0x0073 | 0x0074 | 0x0032 => n == 0
  | 0x0070 | 0x0071 => n == 11
  | 0x0052 | 0x0061 | 0x00FF | 0x0030 => n == 2
  | 0x0076 => n == 3
  | 0x0060 => n == 1 + ((c.param 0).toNat / 65536 % 65536 + 7) / 8
  | _ => n == 1

/-- Whether the reserved header bits are 0, and SLICE is 0 outside the slice commands (R469, R471). -/
def headerOk (c : GCmd) : Bool :=
  c.len ≤ 30 && opLenOk c && pktField c.pkt 2 1 / 2 == 0 && pktField c.pkt 7 8 == 0 && pktField c.pkt 15 1 == 0 &&
  (if 0x0070 ≤ c.opcode && c.opcode ≤ 0x0076 then pktField c.pkt 6 1 < 64 else pktField c.pkt 6 1 == 0)

/-- The bits of parameter words 0 and 1 that a command gives a meaning (R289, R472); the slice commands check their own (R447). -/
def paramBits (op : Nat) : Word × Word :=
  let all : Word := 0xFFFF_FFFF_FFFF_FFFF
  match op with
  | 0x0010 => (0x3F, all)
  | 0x0011 => (0xFFFF_FFFF_0000_0003, all)
  | 0x0020 => (0x1_FFFF, all)
  | 0x0021 => (0xFFFF, all)
  | 0x0030 => (0x1F_FFFF_FFFF_FFFF, 0x1_FFFF_FFFF)
  | 0x0031 => (0x3_FFFF_FFFF_FFFF, all)
  | 0x0040 => (0x13F, all)
  | 0x0041 => (0x1FF, all)
  | 0x0042 => (0x13F, all)
  | 0x0043 => (0x11F, all)
  | 0x0044 => (0xFFFF_000F, all)
  | 0x0050 => (0xFFFF_FFFF_0007_01FF, all)
  | 0x0051 => (0x1F_FFFF_00FF, all)
  | 0x0052 => (0xFFFF, all)
  | 0x0060 => (0xFFFF_00FF, all)
  | 0x0061 => (0xFFFF_00FF, 0xFFFF_FFFF)
  | 0x0080 => (0xFFFF_0001, all)
  | 0x0081 => (0xF3, all)
  | 0x0090 => (0x1FFF, all)
  | 0x00F0 => (0xFFFF_0003, all)
  | 0x00FF => (0x1F_FFFF_FFFF_FFFF, 0x1_FFFF_FFFF)
  | _ => (all, all)

/-- Whether every reserved parameter bit is 0 (R471 reason 7). -/
def paramsOk (c : GCmd) : Bool :=
  (c.param 0 &&& ~~~(paramBits c.opcode).1) == 0 && (c.param 1 &&& ~~~(paramBits c.opcode).2) == 0

/-- The exclusion class of a command (R464). -/
def opClass (c : GCmd) : Option Nat :=
  let op := c.opcode
  if op = 0x0030 || op = 0x0031 then some 0
  else if 0x0070 ≤ op && op ≤ 0x0076 then some (100 + c.slice.toNat)
  else if (0x0040 ≤ op && op ≤ 0x0044) || op = 0x0020 || op = 0x0021 then some 1
  else if op = 0x00FF then some 2
  else none

/-! ### Acceptance (R463) -/

/-- Whether a command has been accepted and not replied to. -/
def GCmd.executing (c : GCmd) : Bool := c.st == .executing

/-- The command of a queue that may be accepted next: the first one whose reply is not ready, unless it is executing; with its slot. -/
def nextPosted (s : State) (q : Fin 4) : Option (Nat × GCmd) :=
  let l := s.gdn.q[q.val].slots
  let i := l.findIdx (fun c => !c.isReady)
  match l[i]? with
  | some c => if c.st == .posted then some (i, c) else none
  | none => none

/-- The oldest posted ABORT of a queue, which is accepted whatever executes (R463). -/
def nextAbort (s : State) (q : Fin 4) : Option (Nat × GCmd) :=
  let l := s.gdn.q[q.val].slots
  let i := l.findIdx (fun c => c.st == .posted && c.opcode == 0x00F0)
  (l[i]?).map (fun c => (i, c))

/-- The queue whose turn it is among those with a command to accept: 0, 1, 2, 3 from the one after the queue served last (R463). -/
def turnOf (s : State) : Option (Fin 4) :=
  ((List.range 4).map (fun k => (⟨(s.gdn.lastQ.val + 1 + k) % 4, Nat.mod_lt _ (by decide)⟩ : Fin 4))).find?
    (fun q => match nextPosted s q with
      | some (_, c) => c.opcode != 0x00F0
      | none => false)

/-- A command being carried out: its queue, its slot and the command. -/
structure GCtx where
  q : Fin 4
  slot : Nat
  cmd : GCmd
  deriving DecidableEq, Repr

/-- The command at a slot changed. -/
def setCmd (q : Fin 4) (i : Nat) (f : GCmd → GCmd) (s : State) : State :=
  s.modQueue q (fun k => { k with slots := k.slots.modify i f })

/-- The reply becomes ready (R465, R468, R470). A peer's reply goes back through its port, which acknowledges it. -/
def gReplyAt (q : Fin 4) (i : Nat) (st : GStatus) (payload : List Word) (exec : Bool) (s : State) : State :=
  let now := s.sys.count
  match (s.gdn.q[q.val].slots)[i]? with
  | none => s
  | some c =>
    let s := setCmd q i (fun c => { c with st := .ready st payload exec now }) s
    if h : q.val = 3 then
      if hp : c.port < 6 then
        let bytes := (replyBytes { slots := [{ c with st := .ready st payload exec now }] }).take (16 + 8 * payload.length)
        sendMgmt ⟨c.port, hp⟩ 0 bytes (s.modQueue q (fun k => { k with slots := k.slots.eraseIdx i }))
      else s
    else if c.irq then raiseSource (1208 + q.val) s else s

/-- The reply of the command being carried out. -/
def gReply (x : GCtx) (st : GStatus) (payload : List Word) (s : State) : State := gReplyAt x.q x.slot st payload true s

/-- BAD_PARAM with a reason (R471). -/
def badParam (x : GCtx) (reason : Nat) (s : State) : State := gReply x gBadParam [BitVec.ofNat 64 reason] s

/-- The command of a queue that is executing in steps, with its slot. -/
def executingOf (s : State) (q : Fin 4) : Option GCtx :=
  let l := s.gdn.q[q.val].slots
  let i := l.findIdx GCmd.executing
  (l[i]?).map (fun c => { q := q, slot := i, cmd := c })

/-- Whether a command of the same exclusion class from another queue is executing (R464). -/
def classBusy (s : State) (x : GCtx) : Bool := match opClass x.cmd with
  | none => false
  | some k => (List.finRange 4).any (fun p => p != x.q && (match executingOf s p with
      | some y => opClass y.cmd == some k
      | none => false))

/-- The job of a queue set. -/
def setJob (q : Fin 4) (j : Option GJob) (s : State) : State := { s with gdn := { s.gdn with job := s.gdn.job.set q.val j } }

/-- Whether the Gardener's firmware can carry out commands. -/
def gdnServes (s : State) : Bool := gdnRuns s && s.gdn.fwRuns

/-- A Gardener command of a row: the command whose turn it is, in queue `q`, accepted if it is one of the row's, with the checks of
R471 in their order. Otherwise nothing happens. -/
def gdnRow (q : Fin 4) (ops : GCmd → Bool) (body : GCtx → State → State) (s : State) : State :=
  if !gdnServes s || turnOf s != some q then s
  else match nextPosted s q with
  | none => s
  | some (i, c) =>
    if !ops c then s
    else
      let x : GCtx := { q := q, slot := i, cmd := c }
      let s := { (setCmd q i (fun c => { c with st := .executing }) s) with gdn := { (setCmd q i (fun c => { c with st := .executing }) s).gdn with lastQ := q } }
      if !(match opQueues c.opcode with | some l => l.contains q.val | none => false) || (c.opcode == 0x00FF && s.gdn.junior) then
        gReply x gBadOpcode [] s
      else if !headerOk c then badParam x 7 s
      else if classBusy s x then gReply x gBusy [] s
      else if !paramsOk c then badParam x 7 s
      else body x s

/-- The command is not accepted after all: it waits at the head of its queue, whose turn it is again. -/
def gWait (x : GCtx) (s : State) : State :=
  let s := setCmd x.q x.slot (fun c => { c with st := .posted }) s
  { s with gdn := { s.gdn with lastQ := ⟨(x.q.val + 3) % 4, Nat.mod_lt _ (by decide)⟩ } }

/-- What the Gardener finds at [a, a + n) of local DRAM (R346, R529): the bytes; nothing, where a line is bad; or a wait for the home's
snoops. -/
inductive GFetch
  | bytes (d : List Byte) (s : State)
  | bad (s : State)
  | wait (s : State)

/-- A read of local DRAM by the Gardener at a physical address. -/
def gdnFetch (pa n : Nat) (s : State) : GFetch :=
  let a := localAddr s pa
  let ls := linesOf a n
  match ls.find? (fun l => remoteHolds s l false) with
  | some l => .wait (homeSnoop s l false)
  | none =>
    if ls.any (fun l => !dramServed s (l * 64) || s.lineBad l) then
      .bad ((ls.filter (fun l => s.dramUe.contains l && dramServed s (l * 64))).foldl (fun s l => dramUeFound l s) s)
    else let (d, s) := cohRead s a n; .bytes d s

/-- A row of one opcode. -/
def gdnOp (op : Nat) (q : Fin 4) (body : GCtx → State → State) (s : State) : State := gdnRow q (fun c => c.opcode == op) body s

/-! ### Starting and stopping cores -/

/-- A core at its start (R57, R308, R555): wz_boot_addr, PL0, ML = 7, with caches and locks kept. -/
def Core.started (k : Core) (boot : Nat) : Core :=
  { k.tripleReset with pc := BitVec.ofNat 64 boot, run := .run, quiesced := false, retired := false }

/-- wz_boot_addr as sampled at the release (R555, R568). -/
def bootAddr (s : State) : Nat := (s.pwr.boot.map BitVec.toNat).getD 0

/-- Core `c` starts. -/
def startCore (c : CoreId) (s : State) : State := s.modCore c (fun k => k.started (bootAddr s))

/-- Whether a core counts as stopped for a quiesce (R282): asked to, and at no point inside an instruction; or in WAIT, halted, held,
stopped after a reset, or retired. -/
def coreStopped (s : State) (c : CoreId) : Bool :=
  let k := s.core c
  !s.hasCore c || !coreClocked s c || k.halted || k.retired || k.run == .wait || k.run == .held || k.run == .tripled ||
  (k.quiesced && !inStretch k && !nextFolds s c && k.run == .run)

/-- A core asked to stop. -/
def quiesceCore (c : CoreId) (s : State) : State := s.modCore c (fun k => { k with quiesced := true })
/-- Whether something else keeps core `c` stopped: its retirement, a QUIESCE_CLUSTER (R474), or a freeze (R455). -/
def keptStopped (s : State) (c : CoreId) : Bool :=
  (s.core c).retired || s.gdn.quiet.contains (clusterOf c) || (s.slice (s.core c).slice).state == 3
/-- A core released, unless something else keeps it stopped. -/
def releaseCore (c : CoreId) (s : State) : State := s.modCore c (fun k => { k with quiesced := keptStopped s c })

/-- A folding of a state change over the members of a list. -/
def forEach {α : Type} (l : List α) (f : α → State → State) (s : State) : State := l.foldl (fun s a => f a s) s

/-- The cores of a cluster. -/
def coresOf (k : ClusterId) : List CoreId := allCores.filter (fun c => clusterOf c == k)

end Sys2Proof.Machine
end

