-- ==== Sys2Proof/Machine/Slices.lean ====
section
/-!
DEFINITION. Machine/Slices.lean: the slice commands of the Gardener (R437 to R449).
-/
namespace Sys2Proof.Machine

/-- Four parameter words as a bank set (R447). -/
def bankWords (c : GCmd) (i : Nat) : BitVec 256 :=
  BitVec.ofNat 256 ((c.param i).toNat + (c.param (i + 1)).toNat * 2 ^ 64 + (c.param (i + 2)).toNat * 2 ^ 128 +
    (c.param (i + 3)).toNat * 2 ^ 192)

/-- The bits of a set. -/
def bitsOf {w : Nat} (v : BitVec w) : List Nat := (List.range w).filter (fun i => v.getLsbD i)

/-- The cores that are retired, as a set. -/
def retiredCores (s : State) : BitVec 64 :=
  allCores.foldl (fun (v : BitVec 64) (c : CoreId) => if (s.core c).retired then v ||| (1 : BitVec 64) <<< c.val else v) 0
/-- The banks that are retired, as a set. -/
def retiredBanks (s : State) : BitVec 256 :=
  allBanks.foldl (fun (v : BitVec 256) (b : BankId) => if s.banks[b.val].owner == 0xFE then v ||| (1 : BitVec 256) <<< b.val else v) 0

/-- Share of a DRAM channel in an SLC_BW value (R444). -/
def shareOf (bw : W32) (ch : Nat) : Nat := (fieldOf bw (8 * ch) 6).toNat

/-- Whether the shares of a channel fit R445 with `bw` in place of slice `n`'s. -/
def sharesFit (s : State) (n : BitVec 6) (bw : W32) : Bool :=
  (List.range 4).all (fun ch =>
    decide (((List.finRange 64).foldl (fun t i => t + (if i.val == n.toNat then 0 else shareOf s.slices[i.val].bw ch)) (shareOf bw ch)) ≤ 48))

/-- Whether [a, a + n) lies in local DRAM below installed capacity (R447). -/
def inDram (s : State) (pa n : Nat) : Bool :=
  let a := localAddr s pa
  decide (a + n ≤ dramTop s) && decide (a + n ≤ 2 ^ 38)

/-- Bytes of a slice log (R447). -/
def logBytes (lim : Nat) : Nat := 1024 + min lim 256 * 32768

/-- Every TLB entry of core `c` tagged with slice `n` removed (R449). -/
def dropSliceTlb (n : BitVec 6) (c : CoreId) (s : State) : State :=
  s.modCore c (fun k => { k with
    itlb := k.itlb.filter (·.slice != n), dtlb := k.dtlb.filter (·.slice != n), l2tlb := k.l2tlb.filter (·.slice != n) })

/-- The first reason that refuses a slice command, of a list in R447's order. -/
def firstReason (l : List (Bool × Nat)) : Option Nat := (l.find? (fun p => p.1)).map Prod.snd

/-- SLICE_CREATE (R447, R448). Reason 8 stands for UNIT_RETIRED. -/
def createReason (s : State) (x : GCtx) : Option Nat :=
  let p := x.cmd.param
  let h := s.slices[0]
  let cores := p 0
  let groups : BitVec 40 := fieldOf (p 1) 0 40
  let tmrch := p 2
  let banks := bankWords x.cmd 7
  let bw : W32 := fieldOf (p 6) 0 32
  firstReason [
    (x.cmd.slice == 0 || (s.slice x.cmd.slice).state != 0, 1),
    (fieldOf (p 1) 44 20 != 0 || fieldOf (p 5) 62 2 != 0 || fieldOf (p 3) 53 11 != 0 || fieldOf (p 4) 53 11 != 0 ||
      fieldOf (p 6) 32 32 != 0 || (bw &&& 0xC0C0_C0C0) != 0 || fieldOf (p 1) 41 2 == 3, 5),
    ((cores &&& ~~~onesTo 64 (16 * s.build.regions)) != 0 || (tmrch &&& ~~~onesTo 64 (16 * s.build.regions)) != 0 ||
      (banks &&& ~~~presentBanks s.build) != 0 || (List.range 4).any (fun ch => shareOf bw ch != 0 && decide (s.build.mcChannels ≤ ch)), 6),
    ((cores &&& retiredCores s) != 0 || (banks &&& retiredBanks s) != 0, 8),
    ((cores &&& ~~~h.cores) != 0 || (groups &&& ~~~h.groups) != 0 || (tmrch &&& ~~~h.tmrch) != 0 || (banks &&& ~~~h.banks) != 0, 2),
    ((p 3).toNat % 2 ^ 17 != 0 || !inDram s (p 3).toNat 0x2_0000 || (p 4).toNat % 64 != 0 || !inDram s (p 4).toNat 64 ||
      (fieldOf (p 5) 0 53).toNat % 4096 != 0 || !inDram s (fieldOf (p 5) 0 53).toNat (logBytes (fieldOf (p 5) 53 9).toNat), 3),
    (!sharesFit s x.cmd.slice bw, 4)]

/-- A reply to a refused slice command. -/
def refuseSlice (x : GCtx) (r : Nat) (s : State) : State := if r == 8 then gReply x gRetired [] s else badParam x r s

/-- SLICE_CREATE's effect. -/
def sliceCreate (x : GCtx) (s : State) : State :=
  match createReason s x with
  | some r => refuseSlice x r s
  | none =>
    let p := x.cmd.param
    let d : Slice := {
      state := if bitOf (p 1) 43 then 4 else 1, s2en := bitOf (p 1) 40, qpol := fieldOf (p 1) 41 2, dloglim := fieldOf (p 5) 53 9,
      bw := fieldOf (p 6) 0 32, cores := p 0, groups := fieldOf (p 1) 0 40, tmrch := p 2, banks := bankWords x.cmd 7,
      s2root := fieldOf (p 3) 0 53, heb := fieldOf (p 4) 0 53, dlog := fieldOf (p 5) 0 53 }
    let s := s.modSlice 0 (fun h => { h with
      cores := h.cores &&& ~~~d.cores, groups := h.groups &&& ~~~d.groups, tmrch := h.tmrch &&& ~~~d.tmrch, banks := h.banks &&& ~~~d.banks })
    let s := s.modSlice ⟨x.cmd.slice.toNat, x.cmd.slice.isLt⟩ (fun _ => d)
    let s := forEach (allCores.filter (fun c => bitOf d.cores c.val)) (dropSliceTlb 0) s
    gReply x gDone [] s

/-- Whether a core of slice `n` has it as its SLICE (R449). -/
def sliceInUse (s : State) (n : BitVec 6) : Bool := allCores.any (fun c => bitOf (s.slice n).cores c.val && (s.core c).slice == n)

/-- SLICE_RESIZE (R447, R449). -/
def resizeReason (s : State) (x : GCtx) : Option Nat :=
  let p := x.cmd.param
  let h := s.slices[0]
  let d := s.slice x.cmd.slice
  let ba := bankWords x.cmd 2
  let br := bankWords x.cmd 6
  let absentC := ~~~onesTo 64 (16 * s.build.regions)
  firstReason [
    (x.cmd.slice == 0 || d.state != 1, 1),
    (fieldOf (p 10) 3 61 != 0 || fieldOf (p 10) 0 2 == 3, 5),
    (((p 0 ||| p 1) &&& absentC) != 0 || ((ba ||| br) &&& ~~~presentBanks s.build) != 0 || (p 0 &&& p 1) != 0 || (ba &&& br) != 0, 6),
    (((p 0 ||| p 1) &&& retiredCores s) != 0 || ((ba ||| br) &&& retiredBanks s) != 0, 8),
    ((p 0 &&& ~~~h.cores) != 0 || (ba &&& ~~~h.banks) != 0 || (p 1 &&& ~~~d.cores) != 0 || (br &&& ~~~d.banks) != 0, 2)]

/-- SLICE_RESIZE's effect. -/
def sliceResize (x : GCtx) (s : State) : State :=
  match resizeReason s x with
  | some r => refuseSlice x r s
  | none =>
    let p := x.cmd.param
    let n := x.cmd.slice
    if p 1 != 0 && sliceInUse s n then gReply x gBusy [] s
    else
      let ba := bankWords x.cmd 2
      let br := bankWords x.cmd 6
      let s := s.modSlice 0 (fun h => { h with cores := (h.cores &&& ~~~p 0) ||| p 1, banks := (h.banks &&& ~~~ba) ||| br })
      let s := s.modSlice ⟨n.toNat, n.isLt⟩ (fun d => { d with
        cores := (d.cores ||| p 0) &&& ~~~p 1, banks := (d.banks ||| ba) &&& ~~~br, qpol := if bitOf (p 10) 2 then fieldOf (p 10) 0 2 else d.qpol })
      let s := forEach (allCores.filter (fun c => bitOf (p 1) c.val)) (dropSliceTlb n) s
      let s := forEach (allCores.filter (fun c => bitOf (p 0) c.val)) (dropSliceTlb 0) s
      gReply x gDone [] s

/-- SLICE_DESTROY (R447, R449). -/
def sliceDestroy (x : GCtx) (s : State) : State :=
  let n := x.cmd.slice
  let d := s.slice n
  if n == 0 || !(d.state == 1 || d.state == 3 || d.state == 4) then badParam x 1 s
  else if d.state != 3 && sliceInUse s n then gReply x gBusy [] s
  else
    let mine := allCores.filter (fun c => bitOf d.cores c.val)
    let s := forEach mine (dropSliceTlb n) s
    let s := if d.state == 3 then forEach (mine.filter (fun c => (s.core c).slice == n && (s.core c).quiesced && !(s.core c).retired)) startCore s
      else s
    let s := s.modSlice 0 (fun h => { h with
      cores := h.cores ||| d.cores, groups := h.groups ||| d.groups, tmrch := h.tmrch ||| d.tmrch, banks := h.banks ||| d.banks })
    gReply x gDone [] (s.modSlice ⟨n.toNat, n.isLt⟩ (fun _ => {}))

/-- SLC_PIDINV (R442). -/
def pidInvCommand (m : Master) (v : W32) (s : State) : State := regCommand m 0x60_2008 v s

end Sys2Proof.Machine
end

