-- ==== Sys2Proof/Machine/Migrate.lean ====
section
/-!
DEFINITION. Machine/Migrate.lean: the migration commands of the Gardener (R453 to R458). The header of the image gives its fields in
R456's order; their widths are not stated (log entry 34).
-/
namespace Sys2Proof.Machine

/-- MIGRATE_START (R454). -/
def migrateStart (x : GCtx) (s : State) : State :=
  let n := x.cmd.slice
  let d := s.slice n
  if n == 0 || d.state != 1 || (d.dloglim == 0 && d.banks == 0) then badParam x 1 s
  else gReply x gDone [] (s.modSlice ⟨n.toNat, n.isLt⟩ (fun d => { d with state := 2, logovf := false }))

/-- The payload of a round (R453). -/
def roundPayload (s : State) (n : BitVec 6) : List Word := [s.sys.count, ofB (s.slice n).logovf]

/-- MIGRATE_ROUND (R453): every write performed has its bit set at once. -/
def migrateRound (x : GCtx) (s : State) : State :=
  if (s.slice x.cmd.slice).state != 2 then badParam x 1 s else gReply x gDone (roundPayload s x.cmd.slice) s

/-! ### The image -/

/-- The cores of a set. -/
def coreSet (v : BitVec 64) : List CoreId := allCores.filter (fun c => bitOf v c.val)

/-- The cores that a freeze captures (R455): those whose SLICE is the slice. -/
def captured (s : State) (n : BitVec 6) : List CoreId :=
  (coreSet (s.slice n).cores).filter (fun c => (s.core c).slice == n && !(s.core c).retired && (s.core c).run != .held && (s.core c).run != .tripled)

/-- The frozen TSB of a core (R456). A repeat's count is held. -/
def frozenTsb (s : State) (c : CoreId) (pos : Nat) : List Byte :=
  let k := s.core c
  let t := tsbOf k { f := { cause := 0, bp := k.bpSkip }, level := 0, pc := k.pc, pl := k.pl } (k.rep.map Rep.left) false
  let t : Tsb := { t with gPtroot := k.ptroot, gPid := k.pid, gVecbase := k.vecbase, gTsbp := k.tsbp, gTsbceil := k.tsbceil }
  t.bytes.take 0x88 ++ leBytes 8 k.dftsbp.toNat ++ leBytes 8 k.savehead.toNat ++ leBytes 8 (ucodeId s c).toNat ++
    leBytes 8 (pos + (if bitAt s.intc.pend (1216 + c.val) then 256 else 0)) ++ List.replicate 0x58 0

/-- A captured core's part of the image (R456): frozen TSB, SAVEL area and SAVEU area. -/
def coreImage (s : State) (set : List CoreId) (c : CoreId) : List Byte :=
  let k := s.core c
  padTo 4096 (frozenTsb s c (set.idxOf c) ++ lowerArea k ++ upperArea s.build k (vctlRead s k))

/-- A group's part of the image (R456). -/
def groupImage (s : State) (set : List CoreId) (g : Nat) : List Byte :=
  let w (v : Vector W32 40) : List Byte := leBytes 4 (wordAt v g).toNat
  let cfg := ((s.intc.level[g]?).map BitVec.toNat).getD 0 + (if (s.intc.held[g]?).getD false then 2 ^ 15 else 0) +
    ((s.intc.holdoff[g]?).map BitVec.toNat).getD 0 * 2 ^ 16
  w s.intc.pend ++ w s.intc.latch ++ w s.intc.mask ++ w s.intc.active ++ w s.intc.sense ++ leBytes 4 cfg ++ List.replicate 8 0 ++
    (List.range 32).map (fun i =>
      let p := set.findIdx (fun c => c.val == routeOf s (32 * g + i))
      if p < set.length then BitVec.ofNat 8 p else 0xFF)

/-- A timer channel's part of the image (R456). -/
def chanImage (k : Chan) : List Byte :=
  let p (v : TmrVal) : List Nat := [v.act.toNat, (v.pend.map BitVec.toNat).getD 0]
  let ws : List Nat := [(k.read false 0x00).toNat, k.div.toNat + k.acc.toNat % 2 ^ 32 * 2 ^ 32, (k.read false 0x08).toNat,
    k.irqen.toNat + k.mfrac.toNat * 2 ^ 32, k.cnt.toNat] ++ p k.period ++ p k.cmpa ++ p k.cmpb ++
    [k.capr.toNat, k.capf.toNat, k.width.toNat, (match k.wcnt with | some w => w.toNat + 2 ^ 63 | none => 0), k.ratio.toNat]
  ws.flatMap (leBytes 8)

/-- The header of the image (R456). -/
def imageHeader (s : State) (n : BitVec 6) (caps : Nat) : List Byte :=
  let d := s.slice n
  padTo 64 (leBytes 4 0x4D53_4C43 ++ leBytes 4 idVersion.toNat ++ leBytes 4 s.build.vlen ++ leBytes 4 s.node.toNat ++ leBytes 4 n.toNat ++
    leBytes 4 (bitsOf d.cores).length ++ leBytes 4 caps ++ leBytes 4 (bitsOf d.groups).length ++ leBytes 4 (bitsOf d.tmrch).length ++
    leBytes 4 (bitsOf d.banks).length ++ leBytes 8 s.sys.count.toNat)

/-- The image's pieces with their offsets (R456). -/
def imageParts (s : State) (n : BitVec 6) (caps : List CoreId) : List (Nat × List Byte) :=
  let d := s.slice n
  let set := coreSet d.cores
  [(0, imageHeader s n caps.length ++ (bitsOf d.groups).flatMap (groupImage s set)),
   (0x1000, ((List.finRange 64).filter (fun i => bitOf d.tmrch i.val)).flatMap (fun i => chanImage (s.chan i)))] ++
  caps.mapIdx (fun j c => (0x3000 + 0x1000 * j, coreImage s set c))

/-! ### MIGRATE_FINAL (R455) -/

/-- A core of the freeze at this point: one stopped on a reserved window is released and stopped again later (R455 item 1). -/
def freezeCore (c : CoreId) (s : State) : State :=
  let k := s.core c
  if k.trapw || k.dfw then (if coreStopped s c then s.modCore c (fun k => { k with quiesced := false }) else s)
  else quiesceCore c s

/-- What a core owes before its image: CWRs in flight, the store buffer, and what SAVEL's spills and refills do (R181, R282). -/
def settleCore (c : CoreId) (s : State) : State × Bool :=
  match drainN s c (s.core c).sb.length with
  | (s, false) => (s, false)
  | (s, true) =>
    let f : Op Unit := do
      set (landAll (← get) c)
      spillTo6 c 4
      if (← core c).stk.cut != 0 then awaitOp c refillOp
      if (← core c).rstk.cut != 0 then awaitRet c refillRet
    match f s with
    | .ok _ s' => (s', true)
    | .error (.ask r) s' => (sendAsk c r (keepTlb c s s'), false)
    | .error _ s' => (keepTlb c s s', false)

/-- Every core of a list settled, as far as they can be. -/
def settleCores : List CoreId → State → State × Bool
  | [], s => (s, true)
  | c :: t, s => match settleCore c s with
    | (s, true) => settleCores t s
    | (s, false) => (s, false)

/-- Whether a mover channel with the slice as its SLICE is BUSY (R455 item 2). -/
def sliceMoves (s : State) (n : BitVec 6) : Bool := s.movers.toList.any (fun k => k.state == 1 && k.s2 && k.slice == n)

/-- The freeze completes once every core has stopped: image, masks, timers and the last round (R455 items 1 to 4). -/
def finalTry (x : GCtx) (n : BitVec 6) (s : State) : State :=
  let caps := captured s n
  let s := forEach caps freezeCore s
  if caps.any (fun c => !coreStopped s c || (s.core c).trapw || (s.core c).dfw) || sliceMoves s n then s
  else match settleCores caps s with
  | (s, false) => s
  | (s, true) =>
    let a := localAddr s (fieldOf (x.cmd.param 0) 0 53).toNat
    let ps := imageParts s n caps
    match (ps.flatMap (fun p => linesOf (a + p.1) p.2.length)).find? (fun l => remoteHolds s l true) with
    | some l => homeSnoop s l true
    | none =>
      let s := ps.foldl (fun s p => physWrite (a + p.1) p.2 s) s
      let d := s.slice n
      let s := (bitsOf d.groups).foldl (fun s g => maskSet g (presentWord s g) s) s
      let s := forEach ((List.finRange 64).filter (fun i => bitOf d.tmrch i.val)) (fun i s => s.modChan i (fun k => { k with ctl := k.ctl &&& ~~~1 })) s
      let s := s.modSlice ⟨n.toNat, n.isLt⟩ (fun d => { d with state := 3 })
      gReply x gDone (roundPayload s n) (setJob x.q none s)

/-- MIGRATE_FINAL accepted (R455). -/
def finalStart (x : GCtx) (s : State) : State :=
  let n := x.cmd.slice
  let p := x.cmd.param 0
  let a := (fieldOf p 0 53).toNat
  if (s.slice n).state != 2 then badParam x 1 s
  else if fieldOf p 53 11 != 0 then badParam x 5 s
  else if a % 4096 != 0 || !inDram s a (0x3000 + 0x1000 * (captured s n).length) then badParam x 3 s
  else finalTry x n (setJob x.q (some (.final n)) s)

/-- The freeze that a queue runs. -/
def finalOf (s : State) (q : Fin 4) : Option (GCtx × BitVec 6) := match executingOf s q, s.gdn.job[q.val] with
  | some x, some (.final n) => some (x, n)
  | _, _ => none

/-- MIGRATE_FINAL: the command is accepted, or goes on. -/
def migrateFinal (q : Fin 4) (s : State) : State :=
  if !gdnServes s then s
  else match finalOf s q with
  | some (x, n) => finalTry x n s
  | none => gdnOp 0x0075 q finalStart s

/-- The freeze is given up (R455): the stopped cores are released and the state stays LOGGING. -/
def finalGiveUp (x : GCtx) (n : BitVec 6) (st : GStatus) (s : State) : State :=
  gReply x st [] (setJob x.q none (forEach (captured s n) releaseCore s))

/-- MIGRATE_FINAL_TIMEOUT (R455). -/
def migrateFinalTimeout (q : Fin 4) (s : State) : State :=
  if !gdnServes s then s
  else match finalOf s q with
  | some (x, n) => finalGiveUp x n gBusy s
  | none => s

/-! ### MIGRATE_ADOPT (R457, R458) -/

/-- A group of the image installed (R458): masks, sense, levels, hold-off and routes, then pending edges, latches and active bits. -/
def adoptGroup (set : List CoreId) (r : List Byte) (g : Nat) (s : State) : State :=
  let w (i : Nat) : W32 := BitVec.ofNat 32 (blockField r (4 * i) 4)
  let s := maskClr g (presentWord s g &&& ~~~w 2) (maskSet g (presentWord s g &&& w 2) s)
  let s := grpCfgWrite g (w 5) (senseWrite g (w 4) s)
  (List.range 32).foldl (fun s i =>
    match set[(((r[32 + i]?).map BitVec.toNat).getD 0xFF)]? with
    | some c => routeWrite (32 * g + i) (BitVec.ofNat 32 c.val) s
    | none => s) s

/-- The pending and active bits of a group of the image (R458). -/
def adoptPending (r : List Byte) (g : Nat) (s : State) : State :=
  let w (i : Nat) : W32 := BitVec.ofNat 32 (blockField r (4 * i) 4)
  let se := wordAt s.intc.sense g
  let s := pendSet g (presentWord s g &&& ((w 0 &&& ~~~se) ||| (w 1 &&& se))) s
  activeWrite g (w 3) s

/-- A timer channel of the image (R456, R458). -/
def adoptChan (k : Chan) (r : List Byte) : Chan :=
  let w (i : Nat) : Nat := blockField r (8 * i) 8
  let v (i b : Nat) : TmrVal := { act := BitVec.ofNat 48 (w i), pend := if w 2 / 2 ^ b % 2 = 1 then some (BitVec.ofNat 48 (w (i + 1))) else none }
  { k with
    ctl := BitVec.ofNat 10 (w 0), out := w 0 / 2 ^ 11 % 2 == 1, div := BitVec.ofNat 32 (w 1), acc := BitVec.ofNat 33 (w 1 / 2 ^ 32),
    stat := BitVec.ofNat 10 (w 2), irqen := BitVec.ofNat 6 (w 3), mfrac := BitVec.ofNat 32 (w 3 / 2 ^ 32), cnt := BitVec.ofNat 48 (w 4),
    period := v 5 10, cmpa := v 7 11, cmpb := v 9 12, capr := BitVec.ofNat 48 (w 11), capf := BitVec.ofNat 48 (w 12),
    width := BitVec.ofNat 48 (w 13), wcnt := if w 14 / 2 ^ 63 = 1 then some (BitVec.ofNat 48 (w 14)) else none, ratio := BitVec.ofNat 64 (w 15) }

/-- The make-up of the adopted channels in ascending order (R432, R433, R458); a channel chained to one outside the set finds no wraps. -/
def adoptMakeUp (slow : Nat) : List ChanId → Option (Nat × Nat) → State → State
  | [], _, s => s
  | n :: t, prev, s =>
    let before := match prev with
      | some (m, w) => if m + 1 == n.val && n.val % 16 != 0 then w else 0
      | none => 0
    let (s, w) := makeUp n slow before s
    adoptMakeUp slow t (some (n.val, w)) s

/-- A captured core of the image installed on core `c` and released (R458): areas, registers, and a RETX from the frozen TSB. -/
def adoptCore (n : BitVec 6) (r : List Byte) (c : CoreId) (s : State) : State :=
  let w (o : Nat) : Word := BitVec.ofNat 64 (blockField r o 8)
  let t := Tsb.ofBytes (r.take 256)
  let s := (drainN s c 8).1
  let s := s.modCore c (fun k =>
    let k0 : Core := { k.started 0 with sb := k.sb }
    let k1 := loadLower (loadUpper s.build k0 (r.drop 0x700)) ((r.drop 0x100).take 1536)
    { k1 with
      slice := n, pid := w 0x68 &&& 0xFFFF, ptroot := w 0x60 &&& 0x1F_FFFF_FFFF_F001, vecbase := w 0x70 &&& 0xFFFF_FFFF_FFFF_F000,
      tsbp := w 0x78 &&& 0x1F_FFFF_FFFF_FF00, tsbceil := w 0x80 &&& 3, dftsbp := w 0x88 &&& 0x1F_FFFF_FFFF_FF00,
      savehead := w 0x90 &&& 0xFFFF_FFFF_FFFF_FFC0,
      cstat := t.cstat &&& 0x1FF, pc := t.pc, rep := if t.flags / 2 % 2 = 1 then some { left := t.rptcnt, fixed := true } else none,
      bpSkip := decide (t.flags / 16 % 2 = 1), stk := { k1.stk with fbase := t.fbase }, rstk := { k1.rstk with floor := t.rsfloor } })
  if blockField r 0xA0 8 / 256 % 2 = 1 then raiseSource (1216 + c.val) s else s

/-- Whether the image's header fits the slice (R457). -/
def headerFits (s : State) (n : BitVec 6) (d : List Byte) : Bool :=
  let f (o : Nat) : Nat := blockField d o 4
  let sl := s.slice n
  f 0 == 0x4D53_4C43 && f 8 == s.build.vlen && f 20 == (bitsOf sl.cores).length && decide (f 24 ≤ f 20) &&
  f 28 == (bitsOf sl.groups).length && f 32 == (bitsOf sl.tmrch).length && f 36 == (bitsOf sl.banks).length &&
  (sl.state == 4 || (f 12 == s.node.toNat && f 16 == n.toNat))

/-- Everything that the image holds installed (R458); the reply carries E. -/
def adoptAll (x : GCtx) (d : List Byte) (caps : List (List Byte × CoreId)) (s : State) : State :=
  let n := x.cmd.slice
  let sl := s.slice n
  let set := coreSet sl.cores
  let gs := (bitsOf sl.groups).mapIdx (fun k g => (g, (d.drop (0x40 + 64 * k)).take 64))
  let chs := (List.finRange 64).filter (fun i => bitOf sl.tmrch i.val)
  let s := gs.foldl (fun s g => adoptGroup set g.2 g.1 s) s
  let s := gs.foldl (fun s g => adoptPending g.2 g.1 s) s
  let s := (chs.mapIdx (fun k i => (i, (d.drop (0x1000 + 128 * k)).take 128))).foldl (fun s p => s.modChan p.1 (fun k => adoptChan k p.2)) s
  let e := (s.sys.count.toNat : Int) - (x.cmd.param 1).toInt - (blockField d 40 8 : Int)
  let en := e.toNat
  let s := adoptMakeUp (en * 32768 / 100000000) chs none s
  let s := caps.foldl (fun s p => adoptCore n p.1 p.2 s) s
  gReply x gDone [BitVec.ofNat 64 en] (s.modSlice ⟨n.toNat, n.isLt⟩ (fun d => { d with state := 1 }))

/-- MIGRATE_ADOPT (R457, R458). -/
def migrateAdopt (x : GCtx) (s : State) : State :=
  let n := x.cmd.slice
  let st := (s.slice n).state
  let a := (fieldOf (x.cmd.param 0) 0 53).toNat
  if n == 0 || !(st == 4 || st == 3) then badParam x 1 s
  else if fieldOf (x.cmd.param 0) 53 11 != 0 || fieldOf (x.cmd.param 2) 1 63 != 0 then badParam x 5 s
  else if !inDram s a 0x3000 then badParam x 3 s
  else match gdnFetch a 0x3000 s with
  | .wait s => gWait x s
  | .bad s => badParam x 0 s
  | .bytes d s =>
    if !headerFits s n d then badParam x 1 s
    else
      let m := blockField d 24 4
      if !inDram s a (0x3000 + 0x1000 * m) then badParam x 3 s
      else match gdnFetch (a + 0x3000) (0x1000 * m) s with
      | .wait s => gWait x s
      | .bad s => badParam x 0 s
      | .bytes e s =>
        let set := coreSet (s.slice n).cores
        let parts := (List.range m).map (fun j => (e.drop (0x1000 * j)).take 0x1000)
        let caps := parts.filterMap (fun r => (set[blockField r 0xA0 8 % 64]?).map (fun c => (r, c)))
        if caps.any (fun p => BitVec.ofNat 32 (blockField p.1 0x98 4) != s.ctl[(clusterOf p.2).val].pkg) && !bitOf (x.cmd.param 2) 0 then
          gReply x gVersion [] s
        else adoptAll x d caps s

end Sys2Proof.Machine
end

