-- ==== Sys2Proof/Machine/GdnCommands.lean ====
section
/-!
DEFINITION. Machine/GdnCommands.lean: the commands of the Gardener that report, configure and keep records, ABORT, calibration and the
measurements that it makes by itself (R472 to R480, R485 to R493).
-/
namespace Sys2Proof.Machine

/-! ### The queue registers and the leaves -/

/-- GDN_POST (R462). -/
def postCommand (m : Master) (q : Fin 4) (s : State) : State := regCommand m (q.val * 0x400 + 0x100) 1 s
/-- GDN_REPLY_ACK (R466). -/
def replyAckCommand (m : Master) (q : Fin 4) (seq : BitVec 16) (s : State) : State := regCommand m (q.val * 0x400 + 0x300) (seq.setWidth 32) s
/-- LEAF_CLEAR (R484): a write of 1 to a leaf's SET. -/
def leafClearCommand (m : Master) (i : Fin 192) (s : State) : State := regCommand m (0x1200 + 4 * i.val) 1 s

/-! ### Reports -/

/-- Retired units of a kind. -/
def retiredCount (s : State) (kind : Nat) : Nat :=
  if kind = 3 then s.mc.toList.foldl (fun n k => n + (bitsOf k.retired).length) 0 else (s.gdn.retired.filter (fun u => u.1 == kind)).length

/-- INFO (R472). -/
def infoOp (x : GCtx) (s : State) : State :=
  gReply x gDone [
    zx idVersion ||| (zx (idConfig s.build) <<< 32),
    zx s.gdn.fwver ||| (ofB s.gdn.fwslot <<< 32) ||| (ofB (!s.gdn.junior) <<< 33) ||| (zx s.node <<< 48),
    BitVec.ofNat 64 ((List.range 5).foldl (fun v i => v + min (retiredCount s i) 255 * 2 ^ (8 * i)) 0)] s

/-- PING (R472). -/
def pingOp (x : GCtx) (s : State) : State := gReply x gDone [x.cmd.param 0] s

/-- Bytes as payload words, the last one filled with zeros. -/
def payloadOf (d : List Byte) : List Word := (chunks 8 ((d.length + 7) / 8) (padTo ((d.length + 7) / 8 * 8) d)).map wordOfLe

/-- GRAFT_LIST (R289): PKG and GEN of each present cluster, then the staged packages. -/
def graftListOp (x : GCtx) (s : State) : State :=
  gReply x gDone (payloadOf (
    ((allClusters.filter s.hasCluster).flatMap (fun k => leBytes 4 s.ctl[k.val].pkg.toNat ++ leBytes 2 s.ctl[k.val].gen.toNat)) ++
    s.gdn.staged.flatMap (fun p => leBytes 4 p.pkg.toNat))) s

/-! ### Tallies and policies (R479, R480) -/

/-- A class's configuration as a parameter word. -/
def cfgWord (cls : Nat) (c : TallyCfg) : Word :=
  BitVec.ofNat 64 (cls + (if c.retire then 256 else 0) + (c.n - 1) * 65536 + c.w.toNat * 2 ^ 32)

/-- TALLY_CONFIG (R472, R479). -/
def tallyConfigOp (x : GCtx) (s : State) : State :=
  let p := x.cmd.param 0
  let cls := (fieldOf p 0 8).toNat
  let w : W32 := fieldOf p 32 32
  if h : 1 ≤ cls ∧ cls ≤ 10 then
    if w == 0 || (bitOf p 8 && (classKind cls).isNone) then badParam x 0 s
    else
      let old := s.gdn.cfg[cls - 1]
      let c : TallyCfg := { retire := bitOf p 8, n := (fieldOf p 16 3).toNat + 1, w := w }
      let ts := s.gdn.tallies.map (fun t : Tally => if t.cls == cls then { t with recent := [] } else t)
      gReply x gDone [cfgWord cls old] { s with gdn := { s.gdn with cfg := s.gdn.cfg.set (cls - 1) c, tallies := ts } }
  else badParam x 0 s

/-- Units of a class (R476). -/
def classUnits (cls : Nat) : Nat := match cls with
  | 1 | 2 | 8 | 10 => 64
  | 3 => 256
  | 4 => 32
  | 5 => 48
  | 6 | 9 => 16
  | _ => 1

/-- Whether the unit of a class is retired (R479). -/
def unitRetired (s : State) (cls unit : Nat) : Bool := match classKind cls with
  | some 3 => (s.mc[unit / 8]?).any (fun k => bitOf k.retired (unit % 8))
  | some 4 => (s.ctl[unit]?).any (fun k => !k.remap.isEmpty)
  | some kind => isRetired s kind unit
  | none => false

/-- The word that TALLY_READ returns for a unit (R479). -/
def tallyWord (s : State) (cls unit : Nat) : Word :=
  if unit ≥ classUnits cls then 0
  else
    let c := tallyCfg s cls
    let t := tallyOf s cls unit 0
    let mine := s.gdn.tallies.filter (fun t => t.cls == cls && t.unit == unit)
    let now := s.sys.count.toNat
    let n := min c.n (t.recent.filter (fun e => decide (now - e.toNat ≤ c.w.toNat * 100000))).length
    zx t.total ||| (BitVec.ofNat 64 n <<< 32) ||| (ofB (mine.any (fun t => t.lasting)) <<< 48) |||
      (ofB (mine.any (fun t => t.pending)) <<< 49) ||| (ofB (unitRetired s cls unit) <<< 50)

/-- TALLY_READ (R472, R479). -/
def tallyReadOp (x : GCtx) (s : State) : State :=
  let p := x.cmd.param 0
  let cls := (fieldOf p 0 8).toNat
  let n := (fieldOf p 32 5).toNat
  let first := (fieldOf p 16 16).toNat
  if cls = 0 || cls > 10 || n = 0 || n > 29 then badParam x 0 s
  else gReply x gDone (cfgWord cls (tallyCfg s cls) :: (List.range n).map (fun i => tallyWord s cls (first + i))) s

/-- A policy key's value and the policies with it replaced, where the value is allowed (R480). -/
def policyKey (p : Policies) (key : Nat) (v : Word) : Option (Word × Option Policies) :=
  let n := v.toNat
  let ok (b : Bool) (q : Policies) : Option Policies := if b then some q else none
  match key with
  | 1 => some (p.minCores, ok (n ≤ 16) { p with minCores := v })
  | 2 => some (p.calibS, ok (n < 2 ^ 32) { p with calibS := v })
  | 3 => some (p.avsEn, ok (n ≤ 1) { p with avsEn := v })
  | 4 => some (p.avsFloor, ok (decide (1 ≤ n) && decide (n ≤ 65535) && decide (n ≤ p.avsCeil.toNat)) { p with avsFloor := v })
  | 5 => some (p.avsCeil, ok (decide (1 ≤ n) && decide (n ≤ 65535) && decide (p.avsFloor.toNat ≤ n)) { p with avsCeil := v })
  | 6 => some (p.avsStep, ok (decide (1 ≤ n) && decide (n ≤ 20)) { p with avsStep := v })
  | 7 => some (p.roTarget, ok (decide (900 ≤ n) && decide (n ≤ 1000)) { p with roTarget := v })
  | _ => none

/-- POLICY_SET (R480). -/
def policySetOp (x : GCtx) (s : State) : State :=
  match policyKey s.gdn.pol (fieldOf (x.cmd.param 0) 0 16).toNat (x.cmd.param 1) with
  | some (old, some p) => gReply x gDone [old] { s with gdn := { s.gdn with pol := p } }
  | _ => badParam x 0 s

/-- WEEDER_CONFIG (R475). -/
def weederConfigOp (x : GCtx) (s : State) : State :=
  let old : Word := ofB s.weeder.en ||| (zx s.weeder.period <<< 16)
  gReply x gDone [old] (weedCtlWrite (fieldOf (x.cmd.param 0) 0 32) s)

/-! ### Records (R485 to R489) -/

/-- The ORIGIN of a command's records (R489): a junior's come through its port. -/
def originOf (x : GCtx) : Nat := if x.q.val = 3 then x.cmd.port + 1 else 0

/-- RECORD_WRITE (R487, R489). `ok`: the flash read back right within three attempts. -/
def recordWriteOp (ok : Bool) (x : GCtx) (s : State) : State :=
  let p := x.cmd.param 0
  let typ := (fieldOf p 0 8).toNat
  let n := (fieldOf p 16 16).toNat
  if !(typ = 5 || (0x20 ≤ typ && typ ≤ 0x3F)) then badParam x 0 s
  else
    let d := (x.cmd.pkt.drop 24).take n
    let s := commitRecord typ (originOf x) d ok s
    gReply x gDone [zx (s.gdn.flash.seq - 1)] s

/-- The record that an index names (R489), and for queue 3 a firmware slot. -/
def recordAt (s : State) (x : GCtx) (typ index : Nat) : Option (List Byte × W32) :=
  if x.q.val = 3 && (typ = 0xF0 || typ = 0xF1) then
    let d := if typ = 0xF0 then s.gdn.flash.slotA else s.gdn.flash.slotB
    if index = 0 && !d.isEmpty then some (d, 0) else none
  else
    ((s.gdn.flash.records.filter (fun r => r.typ == typ && r.origin == originOf x)).reverse[index]?).map (fun r => (r.payload, r.seq))

/-- RECORD_READ (R489). -/
def recordReadOp (x : GCtx) (s : State) : State :=
  let p := x.cmd.param 0
  match recordAt s x (fieldOf p 0 8).toNat (fieldOf p 16 16).toNat with
  | none => badParam x 0 s
  | some (d, seq) =>
    gReply x gDone ((BitVec.ofNat 64 d.length ||| (zx seq <<< 32)) :: payloadOf ((d.drop (x.cmd.param 1).toNat).take 232)) s

/-- CORE_ID.NODE changed (R19). -/
def setNode (n : BitVec 12) (s : State) : State :=
  { s with node := n, members := s.members.set 0 { s.members[0] with node := n } }

/-- NODE_SET (R32, R475); COHERENT ports depart first, and the command waits for the ends of their departures (R512). -/
def nodeSetOp (ok : Bool) (x : GCtx) (s : State) : State :=
  let p := x.cmd.param 0
  if !s.tme.quiesced then gReply x gBusy [] s
  else if s.ports.toList.any (fun o => o.state == 4 || o.state == 5) then
    gWait x (((List.finRange 6).filter (fun i : PortId => s.ports[i.val].state == 4)).foldl (fun s i => startDepart i true s) s)
  else
    let old := s.node
    let n : BitVec 12 := fieldOf p 0 12
    let s := setNode n s
    let s := if bitOf p 12 then
        let rest := ((s.gdn.flash.inForce 5 0).map (fun r => r.payload.drop 2)).getD []
        commitRecord 5 0 (leBytes 2 n.toNat ++ rest) ok s
      else s
    gReply x gDone [zx old] s

/-- A list of ten 32-bit words with another beside it, class by class. -/
def pairWords (a b : Vector W32 10) : List Byte := (a.toList.zip b.toList).flatMap (fun p => leBytes 4 p.1.toNat ++ leBytes 4 p.2.toNat)

/-- TALLY_HISTORY_WRITE (R488, R489). -/
def tallyHistoryWrite (ok : Bool) (s : State) : State :=
  if !gdnServes s then s else commitRecord 3 0 (leBytes 8 s.sys.count.toNat ++ pairWords s.gdn.events s.gdn.marks) ok s

/-- AGEING_DATA_WRITE (R488, R489). -/
def ageingDataWrite (ok : Bool) (s : State) : State :=
  if !gdnServes s then s
  else commitRecord 4 0 (leBytes 8 s.sys.count.toNat ++ leBytes 2 s.gdn.avsMv.toNat ++ [0, 0] ++
    (List.finRange 4).flatMap (fun r => leBytes 2 ((s.gdn.roBase[r.val].map BitVec.toNat).getD 0) ++ leBytes 2 s.gdn.roLast[r.val].toNat)) ok s

/-! ### ABORT (R473) -/

/-- The oldest command of a queue with a SEQ whose reply is not ready, with its slot. -/
def abortTarget (s : State) (q : Fin 4) (seq : Nat) : Option (Nat × GCmd) :=
  let l := s.gdn.q[q.val].slots
  let i := l.findIdx (fun c => !c.isReady && c.seq == seq)
  (l[i]?).map (fun c => (i, c))

/-- The outcomes of clusters as a payload word: 4 bits each (R291). -/
def outcomeWord (out : List Nat) : Word := BitVec.ofNat 64 ((out.mapIdx (fun i o => o % 16 * 2 ^ (4 * i))).foldl (· + ·) 0)

/-- The outcome of a cluster set in the list of sixteen; one other than NOT_REQUESTED, APPLIED and DEFERRED sets the leaf (R484). -/
def setOutcome (graft : Bool) (k : ClusterId) (o : Nat) (out : List Nat) (s : State) : List Nat × State :=
  (out.set k.val o, if graft && !(o = 0 || o = 1 || o = 8) then setLeaf 1 4 k.val s else s)

/-- The outcome of every cluster of a list set. -/
def setOutcomes (graft : Bool) (o : Nat) : List ClusterId → List Nat → State → List Nat × State
  | [], out, s => (out, s)
  | k :: t, out, s =>
    let (out, s) := setOutcome graft k o out s
    setOutcomes graft o t out s

/-- A cluster's cores released, as far as nothing else keeps them stopped. -/
def releaseCluster (k : ClusterId) (s : State) : State := forEach (coresOf k) releaseCore s

/-- The chains that an inventory gives the clusters (R488). -/
def inventoryChains : Nat → List Byte → List (List W32)
  | 0, _ => []
  | n + 1, d =>
    let m := blockField d 0 1
    (List.range m).map (fun i => BitVec.ofNat 32 (blockField d (4 + 4 * i) 4)) :: inventoryChains n (d.drop (4 + 4 * m))

/-- The payload of the graft inventory (R488). -/
def inventoryPayload (ch : List (List W32)) : List Byte :=
  ch.flatMap (fun l => leBytes 1 l.length ++ [0, 0, 0] ++ l.flatMap (fun p => leBytes 4 p.toNat))

/-- The inventory with the chains of the clusters whose outcome is APPLIED or DEFERRED; the others keep what it names for them (R291). -/
def commitInventory (out : List Nat) (s : State) : State :=
  let old := inventoryChains 16 (((s.gdn.flash.inForce 1 0).map Record.payload).getD [])
  let new := s.gdn.chain.toList
  let ch := (List.range 16).map (fun i => if out[i]? = some 1 || out[i]? = some 8 then (new[i]?).getD [] else (old[i]?).getD [])
  commitRecord 1 0 (inventoryPayload ch) (Config.freeBool s.free) { s with free := s.free + 1 }

/-- The end of a GRAFT_APPLY (R291). -/
def graftDone (x : GCtx) (persist aborted : Bool) (out : List Nat) (s : State) : State :=
  let s := if persist && (out.contains 1 || out.contains 8) then commitInventory out s else s
  let asked := out.filter (· != 0)
  let st := if aborted then gAborted else if asked.all (· == 2) then gRefused else gDone
  gReply x st [outcomeWord out] (setJob x.q none s)

/-- What an ABORT does to a command that is executing: none where it has no abort point (R292, R455, R473, R474). -/
def abortExecuting (y : GCtx) (s : State) : Option State :=
  match s.gdn.job[y.q.val] with
  | some (.final n) => some (finalGiveUp y n gAborted s)
  | some (.quiesce _ todo out) =>
    let (out, s) := setOutcomes false 6 todo out s
    some (gReply y gAborted [outcomeWord out] (setJob y.q none (forEach (todo.take 1) releaseCluster s)))
  | some (.graft pkg force persist todo out ph _) =>
    match ph with
    | some (.writing _ _) | some .resuming => some (setJob y.q (some (.graft pkg force persist todo out ph true)) s)
    | _ =>
      let (out, s) := setOutcomes true 6 todo out s
      some (graftDone y persist true out (forEach (todo.take 1) releaseCluster s))
  | _ => none

/-- ABORT (R463, R473): accepted whatever executes. -/
def abortRow (q : Fin 4) (s : State) : State :=
  match nextAbort s q with
  | none => s
  | some (i, c) =>
    if !gdnServes s then s
    else
      let x : GCtx := { q := q, slot := i, cmd := c }
      let s := setCmd q i (fun c => { c with st := .executing }) s
      if q.val = 3 then gReply x gBadOpcode [] s
      else if !headerOk c || !paramsOk c then badParam x 7 s
      else
        let p := c.param 0
        let tq : Fin 4 := ⟨(fieldOf p 0 2).toNat, (fieldOf p 0 2).isLt⟩
        match abortTarget s tq (fieldOf p 16 16).toNat with
        | none => gReply x gNothing [] s
        | some (j, t) =>
          if t.st == .posted then gReply x gDone [] (gReplyAt tq j gAborted [] false s)
          else match abortExecuting { q := tq, slot := j, cmd := t } s with
            | some s => gReply x gDone [] s
            | none => gReply x gNothing [] s

/-- A command whose opcode is in no row of R472 (R471). -/
def unlistedOpcode (q : Fin 4) (s : State) : State := gdnRow q (fun c => (opQueues c.opcode).isNone) (fun _ s => s) s

/-! ### Calibration (R492, R534) -/

/-- The make-up ratio of a channel for a count, rounded to nearest with ties up (R492). -/
def channelRatio (c d : Nat) : BitVec 64 := BitVec.ofNat 64 ((2 * c * 2 ^ 33 + d) / (2 * d))

/-- The ratios written for a count within range, or SLOWCLK_FAIL (R492). -/
def writeRatios (slow timers : Bool) (c : Nat) (s : State) : State :=
  if c < 99900000 || c > 100100000 then setLeaf 8 0 0 s
  else
    let s := if slow then { s with sys := { s.sys with ratio := BitVec.ofNat 64 (c * 2 ^ 17), mfrac := 0 } } else s
    if !timers then s
    else forEach ((List.finRange 64).filter (fun n => s.hasChan n && (s.chan n).src == 0 && (s.chan n).makeup))
      (fun n s => s.modChan n (fun k => { k with ratio := channelRatio c k.divisor, mfrac := 0 })) s

/-- CALIBRATE. `c` is what the count gives; `failed` names the DRAM channels whose retraining fails. -/
def calibrateOp (c : W32) (failed : List McId) (x : GCtx) (s : State) : State :=
  let p := x.cmd.param 0
  let counts := bitOf p 0 || bitOf p 1
  let s := if counts then writeRatios (bitOf p 0) (bitOf p 1) c.toNat s else s
  let bad := (List.finRange 4).foldl (fun v m => if bitOf p (4 + m.val) && s.hasMc m && failed.contains m then v + 2 ^ (32 + m.val) else v) 0
  gReply x gDone [(if counts then zx c else 0) ||| BitVec.ofNat 64 bad] s

/-- AUTOMATIC_CALIBRATE (R492). -/
def automaticCalibrate (c : W32) (s : State) : State :=
  if !gdnServes s || s.gdn.pol.calibS == 0 then s else writeRatios true true c.toNat s

/-! ### Ring oscillators and voltage (R493, R574) -/

/-- Whether a count is below `t` thousandths of a baseline. -/
def belowRatio (c b t : Nat) : Bool := decide (c * 1000 < t * b)

/-- The running region with the lowest ratio of latest count to baseline. -/
def slowestRegion (s : State) (rs : List RegionId) : Option RegionId :=
  rs.foldl (fun m r => match m with
    | none => some r
    | some q =>
      let base (r : RegionId) : Nat := (s.gdn.roBase[r.val].map BitVec.toNat).getD 1
      if s.gdn.roLast[r.val].toNat * base q < s.gdn.roLast[q.val].toNat * base r then some r else some q) none

/-- The voltage that R493 asks for next, for a ratio and a voltage in force. -/
def avsNext (p : Policies) (low high : Bool) (mv : Nat) : Nat :=
  if low then (if mv ≥ p.avsCeil.toNat then mv else min (mv + p.avsStep.toNat) p.avsCeil.toNat)
  else if high then (if mv ≤ p.avsFloor.toNat then mv else max (mv - p.avsStep.toNat) p.avsFloor.toNat)
  else mv

/-- RING_OSCILLATOR_MEASUREMENT. `counts` holds each region's count; `ok`: the regulator answers a request without error. -/
def ringOscillator (counts : Vector (BitVec 16) 4) (ok : Bool) (s : State) : State :=
  if !gdnServes s then s
  else
    let rs := allRegions.filter (fun r => s.hasRegion r && (s.region r).state == 0)
    let s := forEach rs (fun r s => { s with gdn := { s.gdn with
      roLast := s.gdn.roLast.set r.val counts[r.val],
      roBase := if s.gdn.roBase[r.val].isSome then s.gdn.roBase else s.gdn.roBase.set r.val (some counts[r.val]) } }) s
    match slowestRegion s rs with
    | none => s
    | some r =>
      let c := s.gdn.roLast[r.val].toNat
      let b := (s.gdn.roBase[r.val].map BitVec.toNat).getD 0
      let p := s.gdn.pol
      let low := belowRatio c b p.roTarget.toNat
      let high := !belowRatio c b (p.roTarget.toNat + 10)
      let s := if low && decide (p.avsCeil.toNat ≤ s.gdn.avsMv.toNat) then setLeaf 11 4 r.val s else s
      if p.avsEn == 1 && ok then { s with gdn := { s.gdn with avsMv := BitVec.ofNat 16 (avsNext p low high s.gdn.avsMv.toNat) } } else s

end Sys2Proof.Machine
end

