-- ==== Sys2Proof/Machine/Retire.lean ====
section
/-!
DEFINITION. Machine/Retire.lean: retirement and restoration by command, and of pending units (R478, R481 to R483, R536).
-/
namespace Sys2Proof.Machine

/-- The reply to a retirement or restoration: the retired-unit list is committed first (R482), and the change raises source 1212. `ok`:
the flash read back right within three attempts. -/
def replyUnit (x : GCtx) (ok : Bool) (s : State) : State := gReply x gDone [] (raiseSource 1212 (commitRetired ok s))

/-- FORCE of a retirement. -/
def GCmd.force (c : GCmd) : Bool := bitOf (c.param 0) 8

/-- RETIRE_CORE (R481). -/
def retireCoreOp (ok : Bool) (x : GCtx) (s : State) : State :=
  let c : CoreId := ⟨(fieldOf (x.cmd.param 0) 0 6).toNat, (fieldOf (x.cmd.param 0) 0 6).isLt⟩
  if !s.hasCore c then badParam x 0 s
  else if (s.core c).retired then gReply x gRetired [] s
  else if !x.cmd.force && (!coreFree s c || !minCoresAllow s (regionOf c)) then gReply x gRefused [] s
  else replyUnit x ok (setLeaf 0 1 c.val (retireCoreUnit c s))

/-- RETIRE_BANK (R481). -/
def retireBankOp (ok : Bool) (x : GCtx) (s : State) : State :=
  let b : BankId := ⟨(fieldOf (x.cmd.param 0) 0 8).toNat, (fieldOf (x.cmd.param 0) 0 8).isLt⟩
  if !s.hasBank b then badParam x 0 s
  else if isRetired s 1 b.val then gReply x gRetired [] s
  else if !x.cmd.force && !bankFree s b then gReply x gRefused [] s
  else replyUnit x ok (setLeaf 5 3 b.val (retireBankUnit b s))

/-- Lanes of a port that are not retired. -/
def lanesLeft (s : State) (p : PortId) : Nat := 8 - (bitsOf s.ports[p.val].retired).length

/-- RETIRE_LANE (R481, R507). -/
def retireLaneOp (ok : Bool) (x : GCtx) (s : State) : State :=
  let w := x.cmd.param 0
  let l := (fieldOf w 3 3).toNat
  if h : (fieldOf w 0 3).toNat < 6 then
    let p : PortId := ⟨(fieldOf w 0 3).toNat, h⟩
    if !s.hasPort p then badParam x 0 s
    else if isRetired s 2 (p.val * 8 + l) then gReply x gRetired [] s
    else if !x.cmd.force && decide (lanesLeft s p < 3) then gReply x gRefused [] s
    else
      let s := retireLaneUnit p l s
      let s := if lanesLeft s p < 2 && s.ports[p.val].state != 0 then portDown p s else s
      replyUnit x ok (setLeaf 9 1 (p.val * 8 + l) s)
  else badParam x 0 s

/-- The cached lines of a rank, of those that any cache or the directory holds (R536). -/
def rankLines (s : State) (m : McId) (r : Nat) : List Nat :=
  let all := s.dirty.map DirtyLine.line ++ s.dir.map DirLine.line ++ s.poisoned.map Prod.snd ++
    allCores.flatMap (fun c => (s.core c).l1d.map L1Line.line ++ (s.core c).l1i.map L1Line.line) ++
    allClusters.flatMap (fun k => s.l2[k.val].map L2Line.line)
  (all.filter (fun l => decide (l * 64 < dramTop s) && rankAt s (l * 64) == (m, r))).dedup

/-- A rank retired (R536): every cached copy removed, modified data discarded; its addresses become bus errors. -/
def retireRankUnit (m : McId) (r : Nat) (s : State) : State :=
  let ls := rankLines s m r
  let s := ls.foldl (fun s l => icInvLine (dcInvLine (homeSnoop s l true) l) l) s
  let k := s.mc[m.val]
  listRetired 3 (m.val * 8 + r) { s with mc := s.mc.set m.val { k with retired := k.retired ||| (1 : BitVec 4) <<< r } }

/-- RETIRE_RANK (R481, R536). -/
def retireRankOp (ok : Bool) (x : GCtx) (s : State) : State :=
  let w := x.cmd.param 0
  let m : McId := ⟨(fieldOf w 0 2).toNat, (fieldOf w 0 2).isLt⟩
  let r := (fieldOf w 2 3).toNat
  if !s.hasMc m || !(decide (r < 4) && bitOf s.mc[m.val].present r) then badParam x 0 s
  else if bitOf s.mc[m.val].retired r then gReply x gRetired [] s
  else if !x.cmd.force then gReply x gRefused [] s
  else replyUnit x ok (setLeaf 6 1 (m.val * 8 + r) (retireRankUnit m r s))

/-! ### RESTORE_UNIT (R483) -/

/-- LASTING, PENDING and the window of a unit cleared in every class that acts on its kind (R479). -/
def clearTallies (kind unit : Nat) (s : State) : State :=
  { s with gdn := { s.gdn with tallies := s.gdn.tallies.map (fun t : Tally =>
      if t.unit == unit && (classKind t.cls == some kind || (kind == 0 && t.cls == 8)) then
        { t with lasting := false, pending := false, recent := [] } else t) } }

/-- A unit removed from the retired-unit list. -/
def unlistRetired (kind unit : Nat) (s : State) : State :=
  { s with gdn := { s.gdn with retired := s.gdn.retired.filter (· != (kind, unit)) } }

/-- Whether a core may be restored (R483). -/
def coreRestorable (s : State) (c : CoreId) : Bool := s.hasCore c && ((s.core c).retired || (s.core c).run == .tripled)

/-- A core restored (R483): a retired one returns to slice 0. -/
def restoreCore (c : CoreId) (s : State) : State :=
  let s := if (s.core c).retired then s.modSlice 0 (fun d => { d with cores := d.cores ||| (1 : BitVec 64) <<< c.val }) else s
  clearTallies 0 c.val (unlistRetired 0 c.val (startCore c s))

/-- A bank restored (R379, R438): OWNER 0xFF, REQ ON, with zero fill, in slice 0. -/
def restoreBank (b : BankId) (s : State) : State :=
  let s := s.modBank b (fun k => { k with owner := 0xFF, oldOwner := 0xFF, handoverDone := true, req := 0, pstate := 3, fromOff := true })
  let s := s.modSlice 0 (fun d => { d with banks := d.banks ||| (1 : BitVec 256) <<< b.val })
  clearTallies 1 b.val (unlistRetired 1 b.val s)

/-- A control-store word restored (R483): its address is served by the control store again, rewritten from the authoritative copy. -/
def restoreWord (k : ClusterId) (i : Nat) (s : State) : State :=
  let st := s.ctl[k.val]
  match st.remap.find? (fun e : Nat × Nat => e.1 == i) with
  | none => s
  | some (_, a) =>
    let st : CtlStore := { st with remap := st.remap.filter (fun e : Nat × Nat => e.1 != i), badWords := st.badWords.filter (· != a) }
    let ts := s.gdn.tallies.map (fun t : Tally => if t.cls == 6 && t.unit == k.val && (t.sub == 1 + a) then
      { t with lasting := false, pending := false, recent := [] } else t)
    unlistRetired 4 (k.val * 4096 + i) { s with ctl := s.ctl.set k.val st, gdn := { s.gdn with tallies := ts } }

/-- RESTORE_UNIT (R483). -/
def restoreUnitOp (ok : Bool) (x : GCtx) (s : State) : State :=
  let w := x.cmd.param 0
  let u := (fieldOf w 16 16).toNat
  match (fieldOf w 0 4).toNat with
  | 0 => if h : u < 64 then
      (if coreRestorable s ⟨u, h⟩ then replyUnit x ok (restoreCore ⟨u, h⟩ s) else badParam x 0 s)
    else badParam x 0 s
  | 1 => if h : u < 256 then
      (if isRetired s 1 u then replyUnit x ok (restoreBank ⟨u, h⟩ s) else badParam x 0 s)
    else badParam x 0 s
  | 2 => if h : u / 8 < 6 then
      (if isRetired s 2 u then
        let p : PortId := ⟨u / 8, h⟩
        let s := setPort p (fun o => { o with retired := o.retired &&& ~~~((1 : Byte) <<< (u % 8)) }) s
        replyUnit x ok (clearTallies 2 u (unlistRetired 2 u (startRetrain p s)))
      else badParam x 0 s)
    else badParam x 0 s
  | 3 => if h : u / 8 < 4 then
      (if bitOf s.mc[u / 8].retired (u % 8) then
        let k := s.mc[u / 8]
        let s : State := { s with mc := s.mc.set (u / 8) { k with retired := k.retired &&& ~~~((1 : BitVec 4) <<< (u % 8)) } }
        replyUnit x ok (clearTallies 3 u (unlistRetired 3 u s))
      else badParam x 0 s)
    else badParam x 0 s
  | 4 => if h : u / 4096 < 16 then
      (if isRetired s 4 u then replyUnit x ok (restoreWord ⟨u / 4096, h⟩ (u % 4096) s) else badParam x 0 s)
    else badParam x 0 s
  | 5 => if h : u < 16 then
      let cs := (coresOf ⟨u, h⟩).filter (coreRestorable s)
      if cs.isEmpty then badParam x 0 s else replyUnit x ok (forEach cs restoreCore s)
    else badParam x 0 s
  | _ => badParam x 0 s

/-! ### Pending units (R478) -/

/-- PENDING_RETIREMENT: a pending core or bank that has become free is retired. -/
def pendingRetirement (kind : Bool) (unit : Fin 256) (s : State) : State :=
  let kn := if kind then 1 else 0
  let waits := s.gdn.tallies.any (fun t => t.pending && t.unit == unit.val && classKind t.cls == some kn)
  let free : Bool := if kind then bankFree s unit
    else if h : unit.val < 64 then coreFree s ⟨unit.val, h⟩ && minCoresAllow s (regionOf ⟨unit.val, h⟩) else false
  if !gdnServes s || !waits || !free || isRetired s kn unit.val then s
  else
    let ts := s.gdn.tallies.map (fun t : Tally => if t.unit == unit.val && classKind t.cls == some kn then { t with pending := false } else t)
    autoRetire kn unit.val 0 { s with gdn := { s.gdn with tallies := ts } }

end Sys2Proof.Machine
end

