-- ==== Sys2Proof/Machine/Quiesce.lean ====
section
/-!
DEFINITION. Machine/Quiesce.lean: graft packages and their application, and the quiesce of clusters (R275 to R292, R446, R474, R543).
-/
namespace Sys2Proof.Machine

/-! ### Packages (R275 to R278) -/

/-- A key of a sorted list of pairs written. -/
def putKey {α : Type} (l : List (Nat × α)) (k : Nat) (v : α) : List (Nat × α) := match l with
  | [] => [(k, v)]
  | (j, w) :: t => if k < j then (k, v) :: (j, w) :: t else if k = j then (k, v) :: t else (j, w) :: putKey t k v

/-- A package's changes made to an image (R277). -/
def Image.applied (i d : Image) : Image :=
  { micro := d.micro.foldl (fun l p => putKey l p.1 p.2) i.micro, disp := d.disp.foldl (fun l p => putKey l p.1 p.2) i.disp,
    timing := d.timing ++ i.timing.filter (fun t : TimingItem => !d.timing.any (fun u : TimingItem => u.table == t.table && u.op == t.op)) }

/-- One DISPATCH item (R276, R278): none where it is refused. -/
def dispItem (d : List Byte) : Option (Nat × BitVec 16) :=
  let t := blockField d 0 1
  let o := blockField d 1 1
  let e : BitVec 16 := BitVec.ofNat 16 (blockField d 2 2)
  if t > 3 || o ≥ 0xF0 || (t = 0 && o = 0x0F) || bitOf e 15 then none else some (t * 256 + o, e)

/-- One TIMING item (R276). -/
def timingItem (d : List Byte) : TimingItem :=
  { table := BitVec.ofNat 8 (blockField d 0 1), op := BitVec.ofNat 8 (blockField d 1 1), fixed := BitVec.ofNat 16 (blockField d 2 2),
    unit := BitVec.ofNat 16 (blockField d 4 2), kind := BitVec.ofNat 8 (blockField d 6 1) }

/-- The records of a decrypted body (R276), with the bytes that they take; none where a record is incomplete or refused, or END does not
come (R278 item 6). -/
def parseBody : Nat → List Byte → Option (Image × Nat)
  | 0, _ => none
  | fuel + 1, d =>
    if d.length < 4 then none
    else
      let n := blockField d 2 2
      let typ := blockField d 0 1
      let rest (size : Nat) (f : Image → Image) : Option (Image × Nat) :=
        if d.length < size then none
        else (parseBody fuel (d.drop size)).map (fun p => (f p.1, p.2 + size))
      if blockField d 1 1 != 0 then none
      else if typ = 0 then (if n = 0 then some ({}, 4) else none)
      else if typ = 1 then
        let a := blockField d 4 4
        if a + n > 0x4000 then none
        else rest (8 + 4 * n) (fun i => { i with micro := ((List.range n).map (fun j =>
          (a + j, (BitVec.ofNat 32 (blockField d (8 + 4 * j) 4) : W32)))) ++ i.micro })
      else if typ = 2 then
        let es := (List.range n).map (fun j => dispItem ((d.drop (4 + 4 * j)).take 4))
        if es.any Option.isNone then none else rest (4 + 4 * n) (fun i => { i with disp := es.filterMap id ++ i.disp })
      else if typ = 3 then rest (4 + 8 * n) (fun i => { i with timing := (List.range n).map (fun j => timingItem ((d.drop (4 + 8 * j)).take 8)) ++ i.timing })
      else none

/-- Whether every DISPATCH item with MC = 1 has a TIMING item (R278 item 6). -/
def timingsGiven (i : Image) : Bool :=
  i.disp.all (fun p => !bitOf p.2 14 || i.timing.any (fun t : TimingItem => t.table.toNat * 256 + t.op.toNat == p.1))

/-- A package checked in the order of R278. -/
def checkPackage (s : State) (d : List Byte) : Except GStatus Staged :=
  let l := blockField d 0x18 4
  let pkg := blockField d 8 4
  if blockField d 0 4 != 0x5446_5247 || blockField d 4 2 != 1 || blockField d 6 2 != 0 || ofLe ((d.drop 0x28).take 24) != 0 || pkg = 0 ||
      pkg = 0xFFFF_FFFF || l % 16 != 0 || l > 81920 || d.length != l + 273 then .error gBadParam
  else match s.gdn.keys with
  | none => .error gAuth
  | some (vhash, dec) =>
    let pub := (d.drop (0x50 + l)).take 97
    if Config.sha384 pub != vhash then .error gAuth
    else if !Config.ecdsaOk pub ((d.drop (0xB1 + l)).take 96) (Config.sha384 (d.take (0xB1 + l))) then .error gAuth
    else if !(decide (blockField d 0x10 4 / 256 ≤ idVersion.toNat / 256) && decide (idVersion.toNat / 256 ≤ blockField d 0x14 4 / 256)) then
      .error gVersion
    else match Config.gcmOpen dec ((d.drop 0x1C).take 12) (d.take 0x40) ((d.drop 0x40).take l) ((d.drop (0x40 + l)).take 16) with
    | none => .error gAuth
    | some body => match parseBody (body.length + 1) body with
      | none => .error gBadParam
      | some (i, size) =>
        if !timingsGiven i then .error gBadParam
        else .ok { pkg := BitVec.ofNat 32 pkg, base := BitVec.ofNat 32 (blockField d 0x0C 4), delta := i, size := size, raw := d }

/-- GRAFT_STAGE (R289, R290). -/
def graftStageOp (ok : Bool) (x : GCtx) (s : State) : State :=
  let a := (fieldOf (x.cmd.param 0) 0 53).toNat
  let n := (fieldOf (x.cmd.param 1) 0 32).toNat
  if n > 81920 + 273 then badParam x 0 s
  else match gdnFetch a n s with
  | .wait s => gWait x s
  | .bad s => badParam x 0 s
  | .bytes d s => match checkPackage s d with
    | .error e => if e == gBadParam then badParam x 0 s else gReply x e [] s
    | .ok p =>
      let others := s.gdn.staged.filter (fun q => q.pkg != p.pkg)
      if others.length ≥ 8 || others.foldl (fun t q => t + q.size) p.size > 128 * 1024 then gReply x gBusy [] s
      else
        let s := if bitOf (x.cmd.param 1) 32 then commitRecord 6 0 d ok s else s
        gReply x gDone [zx p.pkg, zx p.base, BitVec.ofNat 64 p.delta.micro.length, BitVec.ofNat 64 p.delta.disp.length]
          { s with gdn := { s.gdn with staged := others ++ [p] } }

/-! ### Quiescing a cluster (R281, R282) -/

/-- Whether a quiesce policy forbids a quiesce of cluster `k` (R287, R446). -/
def policyForbids (s : State) (k : ClusterId) : Bool :=
  s.slices.toList.any (fun d => d.state != 0 && (coresOf k).any (fun c => bitOf d.cores c.val) && (d.qpol == 1 || (d.qpol == 2 && !d.qwin)))

/-- The cores of a cluster asked to stop. -/
def askCluster (k : ClusterId) (s : State) : State := forEach (coresOf k) quiesceCore s

/-- Whether the quiesce of a cluster is reached (R281): every core stopped and its store buffer drained. A transfer of the barrow is one
command, so none is under way. -/
def clusterStopped (s : State) (k : ClusterId) : Bool := (coresOf k).all (fun c => coreStopped s c && (s.core c).sb.isEmpty)

/-- What a stop leaves of the work in progress (R234, R268, R282): fold decisions go, and a microcoded operation restarts from its last
COMMIT with EVT = 1. -/
def flushCluster (k : ClusterId) (s : State) : State :=
  forEach (coresOf k) (fun c s => s.modCore c (fun x => { x with micro := none, lastIssue := none })) s

/-! ### GRAFT_APPLY (R281 to R292) -/

/-- The image that a package gives cluster `k` (R277). -/
def newImage (s : State) (k : ClusterId) (pkg : W32) : Image :=
  if pkg == 0 then {}
  else match s.gdn.staged.find? (fun p => p.pkg == pkg) with
    | some p => s.ctl[k.val].img.applied p.delta
    | none => s.ctl[k.val].img

/-- Whether the Gardener would hold a fifth distinct image (R273, R288). -/
def fifthImage (s : State) (k : ClusterId) (i : Image) : Bool :=
  decide (4 < ((allClusters.filter s.hasCluster).map (fun q => if q == k then i else s.ctl[q.val].img)).dedup.length)

/-- UCODE_ID and the image of cluster `k` take a package (R281, R286). -/
def adoptImage (k : ClusterId) (pkg : W32) (s : State) : State :=
  let st := s.ctl[k.val]
  let i := newImage s k pkg
  let ch := if pkg == 0 then [] else s.gdn.chain[k.val] ++ [pkg]
  { s with
    ctl := s.ctl.set k.val { st with img := i, pkg := pkg, gen := st.gen + 1 },
    gdn := { s.gdn with chain := s.gdn.chain.set k.val ch } }

/-- The application goes on to the next cluster that needs work, and takes the outcomes of those that do not (R281, R286 to R288). -/
def graftNext (x : GCtx) (pkg : W32) (force persist : Bool) : List ClusterId → List Nat → State → State
  | [], out, s => graftDone x persist false out s
  | k :: t, out, s =>
    let st := s.ctl[k.val]
    let i := newImage s k pkg
    let r := s.region (clusterRegion k)
    let base := ((s.gdn.staged.find? (fun p => p.pkg == pkg)).map Staged.base).getD 0
    let job (ph : Option QPhase) : Option GJob := some (.graft pkg force persist (k :: t) out ph false)
    let take (o : Nat) (s : State) : State := (let (out, s) := setOutcome true k o out s; graftNext x pkg force persist t out s)
    if !force && policyForbids s k then take 2 s
    else if pkg != 0 && st.pkg != base then take 3 s
    else if fifthImage s k i then take 7 s
    else if r.waking then setJob x.q (job none) s
    else if r.state == 3 then take 8 (adoptImage k pkg s)
    else if r.state == 2 then setJob x.q (job (some (.writing false false))) s
    else setJob x.q (job (some .stopping)) (askCluster k s)

/-- The clusters of a mask. -/
def maskClusters (m : BitVec 16) : List ClusterId := allClusters.filter (fun k => bitOf m k.val)

/-- GRAFT_APPLY accepted (R291). -/
def graftApplyStart (x : GCtx) (s : State) : State :=
  let p := x.cmd.param 0
  let pkg : W32 := fieldOf p 0 32
  let ks := maskClusters (fieldOf p 32 16)
  if (pkg != 0 && !s.gdn.staged.any (fun q => q.pkg == pkg)) || ks.isEmpty || ks.any (fun k => !s.hasCluster k) then badParam x 0 s
  else graftNext x pkg (bitOf p 48) (bitOf p 49) ks (List.replicate 16 0) s

/-- A cluster's part of a GRAFT_APPLY ends with an outcome, and the command goes on, or stops where an ABORT asked it to (R292). -/
def graftTake (x : GCtx) (pkg : W32) (force persist abort : Bool) (k : ClusterId) (t : List ClusterId) (o : Nat) (out : List Nat) (s : State) : State :=
  let (out, s) := setOutcome true k o out s
  if abort then
    let (out, s) := setOutcomes true 6 t out s
    graftDone x persist true out s
  else graftNext x pkg force persist t out s

/-- GRAFT_APPLY: the command is accepted, or one that waits for a region's change goes on (R550). -/
def graftApply (q : Fin 4) (s : State) : State :=
  if !gdnServes s then s
  else match executingOf s q, s.gdn.job[q.val] with
  | some x, some (.graft pkg force persist todo out none _) => graftNext x pkg force persist todo out s
  | _, _ => gdnOp 0x0031 q graftApplyStart s

/-- GRAFT_VERIFY: the write and verification of cluster `k` end, with or without a mismatch (R285). -/
def graftVerify (k : ClusterId) (ok : Bool) (q : Fin 4) (s : State) : State :=
  if !gdnServes s then s
  else match executingOf s q, s.gdn.job[q.val] with
  | some x, some (.graft pkg force persist (j :: t) out (some (.writing again back)) abort) =>
    if j != k then s
    else
      let job (ph : QPhase) : State := setJob q (some (.graft pkg force persist (j :: t) out (some ph) abort)) s
      if ok && !back then job .resuming
      else if ok then graftTake x pkg force persist abort k t 5 out (releaseCluster k (flushCluster k s))
      else if back then
        let s := forEach ((coresOf k).filter (fun c => !(s.core c).retired)) (fun c s => setLeaf 0 1 c.val (retireCoreUnit c s)) s
        graftTake x pkg force persist abort k t 9 out (raiseSource 1212 (commitRetiredFree s))
      else if again then job (.writing true true)
      else job (.writing true false)
  | _, _ => s

/-- GRAFT_RESUME: cluster `k` takes the new image and its cores run (R281, R283, R286). -/
def graftResume (k : ClusterId) (q : Fin 4) (s : State) : State :=
  if !gdnServes s then s
  else match executingOf s q, s.gdn.job[q.val] with
  | some x, some (.graft pkg force persist (j :: t) out (some .resuming) abort) =>
    if j != k then s
    else graftTake x pkg force persist abort k t 1 out (releaseCluster k (flushCluster k (adoptImage k pkg s)))
  | _, _ => s

/-! ### QUIESCE_CLUSTER and RESUME_CLUSTER (R474) -/

/-- The command goes on to the next cluster whose policy lets it. -/
def quiesceNext (x : GCtx) (force : Bool) : List ClusterId → List Nat → State → State
  | [], out, s =>
    let asked := out.filter (· != 0)
    gReply x (if asked.all (· == 2) then gRefused else gDone) [outcomeWord out] (setJob x.q none s)
  | k :: t, out, s =>
    if !force && policyForbids s k then quiesceNext x force t (out.set k.val 2) s
    else setJob x.q (some (.quiesce force (k :: t) out)) (askCluster k s)

/-- QUIESCE_CLUSTER (R474). -/
def quiesceClusterOp (x : GCtx) (s : State) : State :=
  let p := x.cmd.param 0
  let ks := maskClusters (fieldOf p 0 16)
  if ks.isEmpty || ks.any (fun k => !s.hasCluster k) then badParam x 0 s
  else quiesceNext x (bitOf p 16) ks (List.replicate 16 0) s

/-- RESUME_CLUSTER (R474). -/
def resumeClusterOp (x : GCtx) (s : State) : State :=
  let ks := maskClusters (fieldOf (x.cmd.param 0) 0 16)
  if ks.isEmpty || ks.any (fun k => !s.hasCluster k) then badParam x 0 s
  else
    let on := ks.filter (fun k => s.gdn.quiet.contains k)
    let s : State := { s with gdn := { s.gdn with quiet := s.gdn.quiet.filter (fun k => !on.contains k) } }
    gReply x gDone [] (forEach on releaseCluster s)

/-- The clusters of a region. -/
def clustersOf (r : RegionId) : List ClusterId := allClusters.filter (fun k => clusterRegion k == r)

/-- QUIESCE_REACHED: cluster `k` has stopped and drained (R281, R474, R543). -/
def quiesceReached (k : ClusterId) (q : Fin 4) (s : State) : State :=
  if !gdnServes s || !clusterStopped s k then s
  else match executingOf s q, s.gdn.job[q.val] with
  | some _, some (.graft pkg force persist (j :: t) out (some .stopping) abort) =>
    if j != k then s else setJob q (some (.graft pkg force persist (j :: t) out (some (.writing false false)) abort)) (flushCluster k s)
  | some x, some (.quiesce force (j :: t) out) =>
    if j != k then s
    else
      let s := flushCluster k s
      let s : State := { s with gdn := { s.gdn with quiet := insertNew k s.gdn.quiet } }
      quiesceNext x force t (out.set k.val 1) s
  | some _, some (.clock r mhz false) =>
    if clusterRegion k != r || !(clustersOf r).all (clusterStopped s) then s
    else
      let s := forEach (clustersOf r) flushCluster s
      -- step 3 of R543: the request falls
      setJob q (some (.clock r mhz true)) { s with pwr := { s.pwr with clkreq := s.pwr.clkreq &&& ~~~((1 : BitVec 17) <<< r.val) } }
  | _, _ => s

/-- QUIESCE_TIMEOUT: cluster `k` has not stopped within 16 µs (R284, R474, R543). -/
def quiesceTimeout (k : ClusterId) (q : Fin 4) (s : State) : State :=
  if !gdnServes s then s
  else match executingOf s q, s.gdn.job[q.val] with
  | some x, some (.graft pkg force persist (j :: t) out (some .stopping) abort) =>
    if j != k then s else graftTake x pkg force persist abort k t 4 out (releaseCluster k s)
  | some x, some (.quiesce force (j :: t) out) =>
    if j != k then s else quiesceNext x force t (out.set k.val 4) (releaseCluster k s)
  | some x, some (.clock r _ false) =>
    if clusterRegion k != r then s else gReply x gBusy [] (setJob q none (forEach (clustersOf r) releaseCluster s))
  | _, _ => s

end Sys2Proof.Machine
end

