-- ==== Sys2Proof/Machine/Ports.lean ====
section
/-!
DEFINITION. Machine/Ports.lean: the host's requests on wz_ss_* (R560, R563, R564), the responses on wz_sm_* (R562), the key port
(R565), the TAP and the debug port (R575, R576).
-/
namespace Sys2Proof.Machine

/-! ### wz_ss_* -/

/-- Where a request stands. -/
inductive SsOut
  | done (r : SsRsp) (s : State)
  /-- It is held. -/
  | hold (s : State)

/-- The bytes of beats as 128-bit data. -/
def beatsOf (n : Nat) (d : List Byte) : List (BitVec 128) := (chunks 16 n (padTo (16 * n) d)).map (fun l => BitVec.ofNat 128 (ofLe l))

/-- The bytes of a write with their strobes. -/
def SsReq.bytes (r : SsReq) : List (Option Byte) :=
  (r.data.zip r.strb).flatMap (fun p => (List.range 16).map (fun i => if bitOf p.2 i then some (fieldOf p.1 (8 * i) 8) else none))

/-- The aligned 32-bit word that a beat's strobes name exactly (R9, R563). -/
def strobeWord (v : BitVec 16) : Option Nat := (List.range 4).find? (fun i => v == (0xF : BitVec 16) <<< (4 * i))

/-- Whether the DRAM has been trained in this start (R564). -/
def dramUp (s : State) : Bool := match s.pwr.start with
  | .step6 | .running => true
  | _ => false

/-- A request to DRAM (R346, R450, R563). -/
def ssDram (r : SsReq) (n : Nat) (s : State) : SsOut :=
  let rsp (st : BitVec 2) (d : List Byte) (s : State) : SsOut := .done { id := r.id, status := st, data := if r.write then [] else beatsOf n d } s
  if r.write then
    match obsWrite obsHost r.addr r.bytes none s with
    | (none, s) => rsp 0 [] s
    | (some .wait, s) => .hold s
    | (some .uncorr, s) => rsp 2 [] s
    | (some _, s) => rsp 1 [] s
  else match obsRead obsHost r.addr (16 * n) s with
    | (.ok d, s) => rsp 0 d s
    | (.error .wait, s) => .hold s
    | (.error .uncorr, s) => rsp 2 [] s
    | (.error _, s) => rsp 1 [] s

/-- A request to a block register (R9, R563). -/
def ssRegs (r : SsReq) (n off : Nat) (s : State) : SsOut :=
  match n, strobeWord ((r.strb.head?).getD 0) with
  | 1, some i =>
    let o := off + 4 * i
    if regWaits s o then .hold s
    else if r.write then
      .done { id := r.id, status := 0, data := [] } (regWrite .host o (fieldOf ((r.data.head?).getD 0) (32 * i) 32) s)
    else .done { id := r.id, status := 0, data := [(regRead .host o s).setWidth 128 <<< (32 * i)] } s
  | _, _ => .done { id := r.id, status := 1, data := if r.write then [] else List.replicate n 0 } s

/-- A request that the complex has taken, served or held (R549, R563, R564). -/
def ssServe (r : SsReq) (s : State) : SsOut :=
  let n := r.len + 1
  let err : SsOut := .done { id := r.id, status := 1, data := if r.write then [] else List.replicate n 0 } s
  if !isActive s then .hold s
  else if r.op.toNat ≥ 2 then err
  else match target s r.addr with
  | .regs off => ssRegs r n off s
  | .dram _ => if dramUp s then ssDram r n s else .hold s
  | _ => if !dramUp s && decide (r.addr % 2 ^ 40 < 0x40_0000_0000) then .hold s else err

/-- Held requests served in order, as far as each can be: one of an ID never passes an earlier one (R563). -/
def serveList : List SsReq → List SsReq → State → State
  | [], held, s => { s with ssHeld := held }
  | r :: t, held, s =>
    if held.any (fun h => h.id == r.id) then serveList t (held ++ [r]) s
    else match ssServe r s with
      | .done p s => serveList t held { s with ssRsp := s.ssRsp ++ [p] }
      | .hold s => serveList t (held ++ [r]) s

/-- Every held request tried. -/
def serveHeld (s : State) : State := serveList s.ssHeld [] s

/-- SS_READ and SS_WRITE: a request arrives (R563, R564): taken unless 64 are held, or a reset has not come to the end of step 1. -/
def ssRequest (r : SsReq) (s : State) : State :=
  let s := { s with ssRsp := [] }
  if inReset s || s.pwr.start == .step1 || s.ssHeld.length ≥ 64 then s
  else serveHeld { s with ssHeld := s.ssHeld ++ [r] }

/-- SS_READ. `bad`: a request with a reserved req_op. -/
def ssReadCommand (id : BitVec 10) (addr : BitVec 53) (len : BitVec 2) (strb : BitVec 16) (bad : Bool) (s : State) : State :=
  let r : SsReq := {
    id := id, write := false, op := if bad then 2 else 0, addr := alignDown addr.toNat 16, len := len.toNat,
    strb := List.replicate (len.toNat + 1) (if len == 0 then strb else 0xFFFF), data := [] }
  resumeCores (ssRequest r s)

/-- SS_WRITE: beats of data with their strobes, at most four. -/
def ssWriteCommand (id : BitVec 10) (addr : BitVec 53) (beats : List (BitVec 128 × BitVec 16)) (bad : Bool) (s : State) : State :=
  let b := beats.take 4
  if b.isEmpty then s
  else
    let r : SsReq := {
      id := id, write := true, op := if bad then 3 else 1, addr := alignDown addr.toNat 16, len := b.length - 1,
      strb := b.map Prod.snd, data := b.map Prod.fst }
    resumeCores (ssRequest r s)

/-! ### wz_sm_* -/

/-- SM_RESPONSE: the oldest outstanding request of the ID is answered; a response without one is discarded (R562). -/
def smResponse (id : BitVec 10) (ok : Bool) (d : List (BitVec 128)) (s : State) : State :=
  match pluck (fun r : SmReq => r.id == id) s.smOut with
  | some (r, rest) => resumeCores (smDone r ok d { s with smOut := rest })
  | none => s

/-! ### Keys -/

/-- KEY_VALID_RISE: the copies are captured (R565). -/
def keyRise (vhash : BitVec 384) (dec : BitVec 256) (s : State) : State :=
  if s.gdn.keys.isSome then s else { s with gdn := { s.gdn with keys := some (vhash, dec) } }

/-- KEY_VALID_FALL: the copies are cleared (R565). -/
def keyFall (s : State) : State := { s with gdn := { s.gdn with keys := none } }

/-! ### The debug port -/

/-- The result of a debug access (R576): data, or a bus error. -/
def dbgResult (bad : Bool) (v : W32) (s : State) : State :=
  { s with tap := { s.tap with bad := bad, parked := false, data := if bad || s.tap.write then s.tap.data else v } }

/-- The access in progress performed, or sent out, or held (R313, R346, R370, R549, R561, R576). -/
def dbgPerform (s : State) : State :=
  let t := s.tap
  let pa := t.addr.toNat
  let bytes : List (Option Byte) := (leBytes 4 t.data.toNat).map some
  if !isActive s then { s with tap := { t with parked := true } }
  else match target s pa with
  | .regs off =>
    if regWaits s off then { s with tap := { t with parked := true } }
    else if t.write then dbgResult false 0 (regWrite .debug off t.data s)
    else dbgResult false (regRead .debug off s) s
  | .dram _ | .spm _ _ =>
    if t.write then
      match obsWrite obsDebug pa bytes none s with
      | (none, s) => dbgResult false 0 s
      | (some .wait, s) => { s with tap := { s.tap with parked := true } }
      | (some _, s) => dbgResult true 0 s
    else match obsRead obsDebug pa 4 s with
      | (.ok d, s) => dbgResult false (BitVec.ofNat 32 (ofLe d)) s
      | (.error .wait, s) => { s with tap := { s.tap with parked := true } }
      | (.error _, s) => dbgResult true 0 s
  | .host a =>
    if smCanSend s then
      { s with
        tap := { t with parked := true },
        smOut := s.smOut ++ [{ id := 0x301, addr := a, write := t.write, len := if t.write then 0 else 4,
                               data := if t.write then bytes else [], who := .debug }] }
    else { s with tap := { t with parked := true } }
  | .board _ _ =>
    let s := { s with tap := { t with parked := true } }
    if t.write then
      let a := alignDown pa 16
      boardSend .debug a 4 (List.replicate (pa - a) none ++ bytes ++ List.replicate (12 - (pa - a)) none) 0 s
    else boardSend .debug pa 2 [] 4 s
  | .leaving => { s with tap := { t with parked := true } }
  | _ => dbgResult true 0 s

/-- Whether the access in progress has a request outstanding outside the complex. -/
def dbgOutside (s : State) : Bool := s.smOut.any (fun r => r.who == .debug) || s.cplWait.any (fun w => w.who == .debug)

/-- DBGACC: Update-DR (R576). An access in progress makes it ignored; its status reads 0b11. -/
def dbgAccess (addr : BitVec 53) (write : Bool) (data : W32) (s : State) : State :=
  if s.tap.busy then { s with tap := { s.tap with status := 3 } }
  else
    let t : Tap := { s.tap with ir := 0b01000, addr := addr, write := write, data := data, status := 2, busy := true, parked := false, bad := false }
    if addr.toNat % 4 != 0 then { s with tap := { t with bad := true } } else dbgPerform { s with tap := t }

/-- DBGACC_COMPLETION: the access completes, unless it still waits, in which case it is tried again (R549, R576). -/
def dbgCompletion (s : State) : State :=
  if !s.tap.busy then s
  else
    let s := if s.tap.parked && !dbgOutside s then dbgPerform s else s
    if s.tap.parked then s
    else { s with tap := { s.tap with busy := false, status := if s.tap.bad then 1 else 0 } }

/-- IDCODE: the identification register, with bit 0 read as 1 (R575). -/
def idcodeCommand (pins : W32) (s : State) : State := { s with tap := { s.tap with ir := 1, idcode := pins ||| 1 } }
/-- BYPASS: an instruction code other than those of IDCODE and DBGACC selects the bypass register (R575). -/
def bypassCommand (ir : BitVec 5) (s : State) : State :=
  if ir == 1 || ir == 0b01000 then s else { s with tap := { s.tap with ir := ir, bypass := 0 } }
/-- TAP_RESET: the TAP alone (R575). -/
def tapReset (s : State) : State := { s with tap := { s.tap with ir := 1 } }

end Sys2Proof.Machine
end

