-- ==== Sys2Proof/Machine/Power.lean ====
section
/-!
DEFINITION. Machine/Power.lean: clocks, region and complex power states (R540 to R550).
-/
namespace Sys2Proof.Machine

/-! ### Clocks (R540) -/

/-- Whether handshake index `i` belongs to a present unit (R538, R540). -/
def clkPresent (s : State) (i : Nat) : Bool :=
  if i < 4 then decide (i < s.build.regions)
  else if i < 7 then true
  else if i < 11 then decide (i - 7 < s.build.mcChannels)
  else decide (i - 11 < s.build.cpPorts)

/-- A request raised, unless the acknowledgement is still high (R540). -/
def reqClk (i : Nat) (s : State) : State :=
  if !clkPresent s i || bitOf s.pwr.clkack i then s
  else { s with pwr := { s.pwr with clkreq := s.pwr.clkreq ||| (1 : BitVec 17) <<< i } }

/-- A request lowered. -/
def dropClk (i : Nat) (s : State) : State := { s with pwr := { s.pwr with clkreq := s.pwr.clkreq &&& ~~~((1 : BitVec 17) <<< i) } }

/-- The indices of the DRAM channels' clocks that are present. -/
def dfiClocks (s : State) : List Nat := ((List.range 4).map (· + 7)).filter (clkPresent s)
/-- The indices of the present ports with EN = 1. -/
def portClocks (s : State) : List Nat := ((List.finRange 6).filter (fun p => s.hasPort p && s.ports[p.val].en)).map (fun p => p.val + 11)

/-- Requests raised for a list of clocks. -/
def reqClks (l : List Nat) (s : State) : State := l.foldl (fun s i => reqClk i s) s
/-- Requests lowered for a list of clocks. -/
def dropClks (l : List Nat) (s : State) : State := l.foldl (fun s i => dropClk i s) s

/-! ### Region sleep (R544 to R546) -/

/-- The present cores of a region. -/
def regionCores (s : State) (r : RegionId) : List CoreId := allCores.filter (fun c => s.hasCore c && regionOf c == r)

/-- Whether a GRAFT_APPLY, a CLOCK_SET or a POWER_SET of a queue other than `q` acts on a region (R545). -/
def regionActed (s : State) (r : RegionId) (q : Option (Fin 4)) : Bool := (List.finRange 4).any (fun p => some p != q && (match s.gdn.job[p.val] with
  | some (.graft _ _ _ (k :: _) _ (some _) _) => clusterRegion k == r
  | some (.clock x _ _) | some (.off x) | some (.powerUp x _) => x == r
  | _ => false))

/-- Whether a cluster of a region is in a quiesce (R545). -/
def regionQuiesced (s : State) (r : RegionId) : Bool := (regionCores s r).any (fun c => (s.core c).quiesced && !(s.core c).retired)

/-- Whether a region's cores let it sleep (R545): in WAIT or stopped after a triple-fault reset, none halted and none in a quiesce. -/
def coresSleep (s : State) (r : RegionId) : Bool :=
  (regionCores s r).all (fun c =>
    let k := s.core c
    !k.halted && (k.retired || k.run == .wait || k.run == .tripled)) && !regionQuiesced s r

/-- Whether a wake condition of R546 holds for a region. -/
def regionWakes (s : State) (r : RegionId) : Bool :=
  (s.region r).depth == 0 || (regionCores s r).any (fun c =>
    let k := s.core c
    !k.retired && (viewAny s c || k.mcheck.isSome || !k.late.isEmpty || k.haltReq || k.run == .run))

/-- Whether a line number is one of local memory. -/
def localLine (line : Nat) : Bool := decide (line < 2 ^ 34)

/-- A poisoned line written back with the poison pattern and removed (R343). -/
def poisonOut (line : Nat) (s : State) : State :=
  let s := { s with poisoned := s.poisoned.filter (fun p => p.2 != line) }
  if localLine line then
    let s := dropCopies (cleanLine s line) none line
    if s.pattern.contains line then s else { s with pattern := s.pattern ++ [line] }
  else match s.remote.find? (fun r => r.line == line) with
    | some r => boardSend .none (line * 64) 3 (r.data.map some) 0
        (dropCopies { s with remote := s.remote.filter (fun x => x.line != line) } none line) 3
    | none => dropCopies s none line

/-- A core's L1s and TLBs lost, modified L1D lines written back (R340, R342 to R344). -/
def napCore (c : CoreId) (s : State) : State :=
  let lines := (s.core c).l1d.map L1Line.line
  let bad := (s.poisoned.filter (fun p => p.1 == .l1d c)).map Prod.snd
  let s := bad.foldl (fun s l => poisonOut l s) s
  let s := lines.foldl (fun s l => cleanLine s l) s
  let s := s.modCore c (fun k => { k with
    itlb := [], dtlb := [], l2tlb := [], l1i := [], l1d := [], lastIssue := none, sbOpen := false, vgs := none, vgsOn := false })
  lines.foldl (fun s l => settleRemote s l) s

/-- The store buffers of a list of cores drained; whether all of them could. -/
def drainCores : List CoreId → State → State × Bool
  | [], s => (s, true)
  | c :: t, s => match drainN s c (s.core c).sb.length with
    | (s, true) => drainCores t s
    | (s, false) => (s, false)

/-- Entry to NAP once the drains are done (R545). -/
def enterNap (r : RegionId) (s : State) : State :=
  let s := tmrStop r (forEach (regionCores s r) napCore s)
  dropClk r.val (s.modRegion r (fun k => { k with state := 2, waking := false }))

/-- REGION_SLEEP_ENTRY (R545). An entry that a wake condition would abandon does not begin (R546). -/
def regionSleepEntry (r : RegionId) (s : State) : State :=
  let k := s.region r
  if !isActive s || s.pwr.start != .running || !(k.state == 0 || k.state == 1) || k.waking || k.state == k.depth || !coresSleep s r ||
      regionWakes s r then s
  else if k.depth == 1 then s.modRegion r (fun k => { k with state := 1 })
  else if regionActed s r none then s
  else match drainCores (regionCores s r) s with
    | (s, false) => s
    | (s, true) => enterNap r s

/-- The region is in RUN again with its timer block restarted (R431, R546). -/
def regionUp (r : RegionId) (s : State) : State :=
  tmrRestart r (s.modRegion r (fun k => { k with state := 0, waking := false }))

/-- What waited outside the cores for a unit to run again: the debug access, the held requests of wz_ss_*, and waiting instructions. -/
def settleWaits (s : State) : State :=
  let s := if s.tap.busy && s.tap.parked && !dbgOutside s then dbgPerform s else s
  resumeCores (serveHeld s)

/-- REGION_WAKE (R546). `access`: an access to the region's timer block is what wakes it. -/
def regionWake (r : RegionId) (access : Bool) (s : State) : State :=
  let k := s.region r
  if !isActive s || !(access || regionWakes s r) then s
  else if k.state == 1 then regionUp r s
  else if k.state == 2 && !k.waking then
    let s := s.modRegion r (fun k => { k with waking := true })
    if clkOn s r.val then settleWaits (regionUp r s) else reqClk r.val s
  else s

/-! ### OFF (R378, R431, R544, R547) -/

/-- A region's L2 lines written back, poisoned ones with the pattern, and dropped (R342, R343). -/
def offL2 (k : ClusterId) (s : State) : State :=
  let lines := s.l2[k.val].map L2Line.line
  let bad := (s.poisoned.filter (fun p => p.1 == .l2 k)).map Prod.snd
  let s := bad.foldl (fun s l => poisonOut l s) s
  let s := lines.foldl (fun s l => cleanLine s l) s
  let s := { s with l2 := s.l2.set k.val [] }
  lines.foldl (fun s l => settleRemote s l) s

/-- A bank as its region goes OFF (R378). -/
def offBank (b : BankId) (s : State) : State :=
  s.modBank b (fun k => if k.owner == 0xFE then { k with req := 2, pstate := 2 }
    else { k with owner := 0xFF, oldOwner := 0xFF, handoverDone := true, req := 2, pstate := 2, fromOff := true })

/-- The present banks of a region. -/
def regionBanks (s : State) (r : RegionId) : List BankId := allBanks.filter (fun b => s.hasBank b && bankRegion b == r)

/-- Entry to OFF once the drains are done (R547). -/
def enterOff (r : RegionId) (s : State) : State :=
  let s := forEach (regionCores s r) napCore s
  let s := forEach (clustersOf r) offL2 s
  let s := forEach (regionBanks s r) offBank s
  let s := forEach (regionCores s r) (fun c s => s.modCore c (fun k => { ({} : Core) with retired := k.retired, quiesced := k.retired })) s
  let s := forEach (clustersOf r) (fun k s => { s with ctl := s.ctl.set k.val { s.ctl[k.val] with lost := true, badWords := [], badEntries := [] } }) s
  let s := tmrLose r s
  dropClk r.val (s.modRegion r (fun k => { k with state := 3, waking := false }))

/-- A region powered up (R274, R378, R547): banks ON with zero fill, control stores written, cores started, depth set. -/
def enterUp (r : RegionId) (depth : BitVec 2) (s : State) : State :=
  let s := forEach ((regionBanks s r).filter (fun b => s.banks[b.val].owner != 0xFE)) (fun b s =>
    zeroBank b (s.modBank b (fun k => { k with req := 0, pstate := 0, fromOff := false }))) s
  let s := forEach (clustersOf r) (fun k s => { s with ctl := s.ctl.set k.val { s.ctl[k.val] with lost := false } }) s
  let s := s.modRegion r (fun k => { k with state := 0, depth := depth, waking := false })
  forEach ((regionCores s r).filter (fun c => !(s.core c).retired)) startCore s

/-! ### POWER_SET and CLOCK_SET (R472, R543 to R550) -/

/-- Whether another POWER_SET or CLOCK_SET executes (R550). -/
def powerBusy (s : State) (x : GCtx) : Bool := (List.finRange 4).any (fun p => p != x.q && (match s.gdn.job[p.val] with
  | some (.clock _ _ _) | some (.off _) | some (.powerUp _ _) => true
  | _ => false))

/-- POWER_SET's code and region. -/
def GCmd.powerCode (c : GCmd) : Nat := (fieldOf (c.param 0) 0 4).toNat
/-- The region that bits [lo + 1 : lo] of parameter word 0 name. -/
def GCmd.region (c : GCmd) (lo : Nat) : RegionId := ⟨(fieldOf (c.param 0) lo 2).toNat, (fieldOf (c.param 0) lo 2).isLt⟩

/-- POWER_SET of a region's depth, codes 0 to 2 (R545, R547). Codes 7 to 15 are refused (R472). -/
def powerSetOp (x : GCtx) (s : State) : State :=
  let code := x.cmd.powerCode
  let r := x.cmd.region 4
  if code ≥ 7 || !s.hasRegion r then badParam x 0 s
  else if powerBusy s x then gReply x gBusy [] s
  else if (s.region r).state == 3 then
    let d := BitVec.ofNat 2 code
    if clkOn s r.val then gReply x gDone [] (enterUp r d s)
    else reqClk r.val (setJob x.q (some (.powerUp r d)) s)
  else gReply x gDone [] (s.modRegion r (fun k => { k with depth := BitVec.ofNat 2 code }))

/-- Whether a slice other than 0 holds a core, bank or timer channel of a region (R547). -/
def regionHeld (s : State) (r : RegionId) : Bool :=
  (s.slices.toList.drop 1).any (fun d => fieldOf d.cores (16 * r.val) 16 != 0 || fieldOf d.tmrch (16 * r.val) 16 != 0 ||
    fieldOf d.banks (64 * r.val) 64 != 0)

/-- The region goes OFF as soon as R545's conditions hold and its store buffers have drained (R547). -/
def offTry (x : GCtx) (r : RegionId) (s : State) : State :=
  if (s.region r).waking || !coresSleep s r || regionActed s r (some x.q) then s
  else match drainCores (regionCores s r) s with
    | (s, false) => s
    | (s, true) => gReply x gDone [] (setJob x.q none (enterOff r s))

/-- POWER_SET code 3 accepted (R547). -/
def powerOffOp (x : GCtx) (s : State) : State :=
  let r := x.cmd.region 4
  if !s.hasRegion r then badParam x 0 s
  else if powerBusy s x then gReply x gBusy [] s
  else if (s.region r).state == 3 then gReply x gDone [] s
  else if regionHeld s r then gReply x gRefused [] s
  else if (List.range 4).any (fun i => (s.movers[r.val * 4 + i]?).any (fun k => k.state == 1)) then gReply x gBusy [] s
  else offTry x r (setJob x.q (some (.off r)) s)

/-- POWER_SET_OFF: the command is accepted, or one that awaits R545's conditions tries again. -/
def powerSetOff (q : Fin 4) (s : State) : State :=
  if !gdnServes s then s
  else match executingOf s q, s.gdn.job[q.val] with
  | some x, some (.off r) => offTry x r s
  | _, _ => gdnRow q (fun c => c.opcode == 0x0010 && c.powerCode == 3) powerOffOp s

/-- OFF_ENTRY_TIMEOUT: 1 ms have passed (R547). -/
def offEntryTimeout (q : Fin 4) (s : State) : State :=
  if !gdnServes s then s
  else match executingOf s q, s.gdn.job[q.val] with
  | some x, some (.off _) => gReply x gBusy [] (setJob q none s)
  | _, _ => s

/-- POWER_SET codes 4 to 6: the complex's depth (R548). -/
def powerComplexOp (x : GCtx) (s : State) : State :=
  if powerBusy s x then gReply x gBusy [] s
  else gReply x gDone [] { s with pwr := { s.pwr with depth := BitVec.ofNat 2 (x.cmd.powerCode - 4) } }

/-- CLOCK_SET (R543). -/
def clockSetOp (x : GCtx) (s : State) : State :=
  let r := x.cmd.region 0
  let mhz := (fieldOf (x.cmd.param 0) 32 32).toNat
  if !s.hasRegion r || mhz < 400 || mhz > 2000 then badParam x 0 s
  else if powerBusy s x then gReply x gBusy [] s
  else if (s.region r).state.toNat ≥ 2 then gReply x gDone [] (s.modRegion r (fun k => { k with mhz := mhz }))
  else if (clustersOf r).any (policyForbids s) then gReply x gRefused [] s
  else setJob x.q (some (.clock r mhz false)) (forEach (clustersOf r) askCluster s)

/-! ### The complex (R548, R549) -/

/-- Whether the complex's depth lets it sleep now (R548). -/
def complexSleeps (s : State) : Bool :=
  s.pwr.start == .running && s.pwr.depth != 0 && allRegions.all (fun r => !s.hasRegion r || ((s.region r).state.toNat ≥ 2 && !(s.region r).waking)) &&
  s.ports.toList.all (fun p => p.state.toNat < 3) && s.tme.quiesced && s.movers.toList.all (fun k => k.state != 1) &&
  s.gdn.q.toList.all (fun q => q.slots.all (fun c => !c.executing))

/-- Whether a wake condition of R549 holds. -/
def complexWakes (s : State) : Bool := intcWakes s || !s.ssHeld.isEmpty || (s.tap.busy && s.tap.parked)

/-- COMPLEX_SLEEP_ENTRY (R535, R548): links DOWN, DRAM in self-refresh, clocks released. -/
def complexSleepEntry (s : State) : State :=
  if !isActive s || !complexSleeps s || complexWakes s then s
  else
    let s := (List.finRange 6).foldl (fun s p => if s.ports[p.val].state != 0 then portDown p s else s) s
    let s := dropClks ([4, 7, 8, 9, 10] ++ (List.range 6).map (· + 11)) s
    let mc : Vector McChan 4 := Vector.ofFn (fun i : Fin 4 => { s.mc[i.val] with selfref := s.hasMc i })
    let s := { s with mc := mc, pwr := { s.pwr with complex := s.pwr.depth } }
    let s := allRegions.foldl (fun s r => if s.hasRegion r && (s.region r).state == 2 then tmrStop r s else s) s
    if s.pwr.complex == 2 then { (dropClks [5, 6] s) with sys := { s.sys with stopped := true, sleep := 0 } } else s

/-- The clocks that ACTIVE needs (R542). -/
def activeClocks (s : State) : List Nat := [4, 5, 6] ++ dfiClocks s

/-- COMPLEX_WAKE (R549): the clocks are requested. -/
def complexWake (s : State) : State :=
  if inReset s || s.pwr.complex == 0 || s.pwr.start == .romOnly || !complexWakes s then s
  else reqClks (activeClocks s ++ portClocks s) s

/-- The complex is ACTIVE again once its clocks are there (R410, R432, R549). -/
def complexUp (s : State) : State :=
  if s.pwr.complex == 0 || s.pwr.start == .romOnly || inReset s || !(activeClocks s).all (clkOn s) then s
  else
    let mc : Vector McChan 4 := s.mc.map (fun k : McChan => { k with selfref := false })
    let s := sysRestart { s with mc := mc, pwr := { s.pwr with complex := 0 } }
    settleWaits (intcRestart s)

/-! ### Acknowledgements (R540, R541, R543, R545, R547) -/

/-- What waits for the core clock of region `r`. -/
def coreClockUp (r : RegionId) (s : State) : State :=
  let s := if (s.region r).waking && isActive s then regionUp r s else s
  (List.finRange 4).foldl (fun s q => match executingOf s q, s.gdn.job[q.val] with
    | some x, some (.powerUp y d) => if y == r then gReply x gDone [] (setJob q none (enterUp r d s)) else s
    | some x, some (.clock y mhz true) =>
      if y == r then
        let s := s.modRegion r (fun k => { k with mhz := mhz })
        gReply x gDone [] (forEach (clustersOf r) releaseCluster (setJob q none s))
      else s
    | _, _ => s) s

/-- CLKACK_RISE: the clock comes into use. An acknowledgement of an absent unit's clock is ignored. -/
def clkAckRise (i : Fin 17) (s : State) : State :=
  if !clkPresent s i.val || bitOf s.pwr.clkack i.val then s
  else
    let s := { s with pwr := { s.pwr with clkack := s.pwr.clkack ||| (1 : BitVec 17) <<< i.val } }
    if !clkOn s i.val then s
    else
      let s := if i.val == 4 && isActive s then intcRestart s else s
      let s := if h : i.val < 4 then settleWaits (coreClockUp ⟨i.val, h⟩ s) else s
      complexUp s

/-- Whether clock `i` is wanted though its request is low: a new request had to wait for the fall of the last acknowledgement. -/
def clkWanted (s : State) (i : Nat) : Bool :=
  if inReset s then false
  else if h : i < 4 then
    (s.region ⟨i, h⟩).waking || (List.finRange 4).any (fun q => match s.gdn.job[q.val] with
      | some (.powerUp r _) | some (.clock r _ true) => r.val == i
      | _ => false)
  else if s.pwr.complex != 0 then
    ((i == 5 || i == 6) && s.pwr.complex == 1) || (complexWakes s && s.pwr.start != .romOnly && ((activeClocks s).contains i || (portClocks s).contains i))
  else i == 4 || i == 5 || i == 6 || (portClocks s).contains i || (dramUp s && (dfiClocks s).contains i)

/-- CLKACK_FALL: the acknowledgement of a released clock falls (R540); a request that had to wait for it rises. -/
def clkAckFall (i : Fin 17) (s : State) : State :=
  if !clkPresent s i.val then s
  else
    let s := { s with pwr := { s.pwr with clkack := s.pwr.clkack &&& ~~~((1 : BitVec 17) <<< i.val) } }
    if clkWanted s i.val then reqClk i.val s else s

/-! ### Starting a held core (R556) -/

/-- DOORBELL_CORE_START. -/
def doorbellStart (c : CoreId) (s : State) : State :=
  let k := s.core c
  if k.run == .held && !k.retired && s.pwr.start == .running && coreClocked s c && bitAt s.intc.pend (1216 + c.val) then startCore c s else s

end Sys2Proof.Machine
end

