-- ==== Sys2Proof/Machine/Coupling.lean ====
section
/-!
DEFINITION. Machine/Coupling.lean: the lanes, the training and the blocks of the coupling ports, and the changes of the board domain
(R495 to R512, R570).
-/
namespace Sys2Proof.Machine

/-- A command on coupling port `p`, which the build must have (R6). -/
def onPort (p : PortId) (s : State) (f : State → State) : Host.Outcome State Fault Refusal :=
  if s.hasPort p then .next (f s) else .fault .absentUnit

/-- Whether the logic of a port runs: wz_cpclk (R495, R542) with CPL_CTL.EN. -/
def portRuns (s : State) (p : PortId) : Bool := isActive s && s.ports[p.val].en && clkOn s (11 + p.val)

/-! ### Lanes (R495, R570) -/

/-- One bit of a lane mask. -/
def laneBit (l : Fin 8) : Byte := (1 : Byte) <<< l.val

/-- LANE_LOCK. -/
def laneLock (p : PortId) (l : Fin 8) (s : State) : State :=
  if portRuns s p then setPort p (fun o => { o with locked := o.locked ||| laneBit l }) s else s

/-- LANE_UNLOCK: the loss of lock on an active lane starts a retrain (R506). -/
def laneUnlock (p : PortId) (l : Fin 8) (s : State) : State :=
  if !portRuns s p then s
  else
    let was := bitOf s.ports[p.val].active l.val && decide (2 ≤ s.ports[p.val].state.toNat)
    let s := setPort p (fun o => { o with locked := o.locked &&& ~~~laneBit l }) s
    if was then startRetrain p s else s

/-- SLIP_REQUEST: a slip pulse on a lane that is not locked. -/
def slipRequest (p : PortId) (l : Fin 8) (s : State) : State :=
  if portRuns s p && !bitOf s.ports[p.val].locked l.val then
    setPort p (fun o => { o with slips := o.slips.set l.val (o.slips[l.val] + 1) }) s
  else s

/-! ### Training (R506, R507) -/

/-- TRAINING_ATTEMPT: a DOWN port attempts training. -/
def trainingAttempt (p : PortId) (s : State) : State :=
  if portRuns s p && s.ports[p.val].state == 0 then
    setPort p (fun o => { o with state := 1, back := 2, linkGot := false, peerValid := false }) s
  else s

/-- The lane sets of R507 in order of choice, each with its WIDTH code. -/
def laneSets : List (BitVec 2 × Byte) :=
  [(0, 0xFF), (1, 0x0F), (1, 0xF0), (2, 0x03), (2, 0x0C), (2, 0x30), (2, 0xC0)]

/-- The width and lanes for a set of usable lanes and the widest widths that the two ends allow (R507). -/
def chooseWidth (usable : Byte) (maxw peer : BitVec 2) : Option (BitVec 2 × Byte) :=
  laneSets.find? (fun e => decide (maxw.toNat ≤ e.1.toNat) && decide (peer.toNat ≤ e.1.toNat) && (e.2 &&& usable) == e.2)

/-- The whole replay buffer is sent again (R501): each block counts in CPL_RESEND and against each lane that showed an invalid sync
header in it. A block that has now been sent 16 times is a replay exhaustion (R502). -/
def resendAll (p : PortId) (s : State) : State :=
  let bs := s.ports[p.val].replay
  if bs.isEmpty then s
  else
    let s := setPort p (fun o => { o with
      resend := BitVec.ofNat 16 (min (o.resend.toNat + bs.length) 0xFFFF),
      replay := o.replay.map (fun b : TxBlock => { b with tries := b.tries + 1 }) }) s
    let s := bs.foldl (fun s b => ((List.finRange 8).filter (fun l => b.bad[l.val] != 0)).foldl
      (fun s l => tallyEvent 5 (p.val * 8 + l.val) 0 false s) s) s
    match s.ports[p.val].replay.find? (fun b => decide (16 ≤ b.tries)) with
    | none => s
    | some b =>
      let worst : Fin 8 := (List.finRange 8).foldl (fun m l => if b.bad[m.val] < b.bad[l.val] then l else m) 0
      let s := tallyEvent 5 (p.val * 8 + worst.val) 0 true (setPortErr p 0 s)
      startRetrain p (setPort p (fun o => { o with replay := o.replay.map (fun b : TxBlock => { b with tries := 0 }) }) s)

/-- Training has ended at both ends (R506): the port returns to the state it left, and resumes after an exhaustion with the oldest
block (R502). -/
def trainingDone (p : PortId) (s : State) : State :=
  let s := setPort p (fun o => { o with state := o.back }) s
  let s := if s.ports[p.val].replay.any (fun b => b.tries == 0) then resendAll p s else s
  pumpPort p s

/-- TRAINING_END: the lanes are deskewed, and the width is agreed from the lanes usable here, those that the peer can use and its width
offer (R496, R507). No set usable: DOWN. The LINK block of the peer completes the link-up (R503). -/
def trainingEnd (p : PortId) (lanes : Byte) (width : BitVec 2) (s : State) : State :=
  let o := s.ports[p.val]
  if !portRuns s p || o.state != 1 then s
  else match chooseWidth (o.locked &&& ~~~o.retired &&& lanes) o.maxw width with
  | none => portDown p s
  | some (w, a) =>
    let s := setPort p (fun o => { o with width := w, active := a }) s
    if o.linkGot then trainingDone p s else s

/-- RETRAIN_TIMEOUT: training not ended in time makes the port DOWN (R506). -/
def retrainTimeout (p : PortId) (s : State) : State := if s.ports[p.val].state == 1 then portDown p s else s

/-! ### Blocks (R497 to R502) -/

/-- The Ethernet CRC of R486 over bytes. -/
def ethCrc (l : List Byte) : W32 := ~~~(crcBytes 0xFFFF_FFFF l)

/-- TYPE of a block (R498). -/
def blkType (raw : List Byte) : Nat := blockField raw 0 1
/-- SEQ. -/
def blkSeq (raw : List Byte) : BitVec 12 := BitVec.ofNat 12 (blockField raw 1 2)
/-- ACK. -/
def blkAck (raw : List Byte) : BitVec 12 := BitVec.ofNat 12 (blockField raw 2 2 / 16)
/-- CRCLS. -/
def blkClass (raw : List Byte) : Nat := blockField raw 4 1 % 8
/-- CRCNT. -/
def blkCount (raw : List Byte) : Nat := blockField raw 4 2 / 8 % 256
/-- FILL. -/
def blkFill (raw : List Byte) : Nat := blockField raw 6 1

/-- Whether a block passes the checks of R499 apart from its TYPE: 256 bytes, no invalid sync header, its CRC, and FILL. -/
def blkGood (raw : List Byte) (bad : Byte) : Bool :=
  raw.length == 256 && bad == 0 && decide (blkFill raw ≤ 240) && blkFill raw % 16 == 0 &&
  ethCrc (raw.take 248) == BitVec.ofNat 32 (blockField raw 248 4)

/-- A message from its units (R504). -/
def msgOf (b : List Byte) : Msg :=
  let h := blockField b 0 8
  { cls := h % 8, op := h / 8 % 32, src := BitVec.ofNat 12 (h / 2 ^ 16), dst := BitVec.ofNat 12 (h / 2 ^ 28),
    tag := BitVec.ofNat 16 (h / 2 ^ 40), status := BitVec.ofNat 8 (h / 2 ^ 56), addr := BitVec.ofNat 40 (blockField b 8 5),
    mask := BitVec.ofNat 16 (blockField b 13 2), data := b.drop 16 }

/-- The messages of a payload, as far as each has 1 to 15 units that lie within it (R504). -/
def msgsOf : Nat → List Byte → List Msg
  | 0, _ => []
  | fuel + 1, b =>
    let n := 16 * (blockField b 1 1 % 16)
    if b.length < 16 || n == 0 || b.length < n then []
    else msgOf (b.take n) :: msgsOf fuel (b.drop n)

/-- The blocks that an ACK covers leave the replay buffer (R501); an ACK that names none of them leaves it as it is. -/
def useAck (p : PortId) (ack : BitVec 12) (s : State) : State :=
  setPort p (fun o =>
    let i := o.replay.findIdx (fun b => b.seq == ack)
    if i < o.replay.length then { o with replay := o.replay.drop (i + 1) } else o) s

/-- Credits returned by the peer (R498, R503). -/
def useCredits (p : PortId) (cls n : Nat) (s : State) : State :=
  setPort p (fun o => if cls < 5 then { o with credits := o.credits.set! cls ((o.credits[cls]?).getD 0 + n) } else o) s

/-- The credits of one class that the next block sent returns (R498, R503). -/
def returnCredits (p : PortId) (s : State) : State :=
  setPort p (fun o => match (List.range 5).find? (fun c => (o.owed[c]?).getD 0 != 0) with
    | some c => { o with owed := o.owed.set! c ((o.owed[c]?).getD 0 - min ((o.owed[c]?).getD 0) 255) }
    | none => o) s

/-- An error episode (R500): one NAK as it starts; the lanes with invalid sync headers are noted for the blocks outstanding (R502). -/
def startEpisode (p : PortId) (bad : Byte) (s : State) : State :=
  setPort p (fun o =>
    let o : Port := { o with replay := o.replay.map (fun b : TxBlock =>
      { b with bad := Vector.ofFn (fun l : Fin 8 => b.bad[l.val] + (if bitOf bad l.val then 1 else 0)) }) }
    if o.episode then o else { o with episode := true, naks := o.naks + 1 }) s

/-- Whether a port exchanges blocks: in UP and above, and for the LINK exchange at the end of training (R506). -/
def portLinked (s : State) (p : PortId) : Bool :=
  portRuns s p && (decide (2 ≤ s.ports[p.val].state.toNat) || (s.ports[p.val].state == 1 && s.ports[p.val].width != 3))

/-- A received block: nothing on a port that exchanges none; an error episode where R499 discards it; else `f`, with its ACK used
before and what it allows to be sent, sent after. -/
def rxBlock (p : PortId) (raw : List Byte) (bad : Byte) (typeOk : Nat → Bool) (f : State → State) (s : State) : State :=
  if !portLinked s p then s
  else if !blkGood raw bad then startEpisode p bad s
  else if !typeOk (blkType raw) then s
  else pumpPort p (returnCredits p (f s))

/-- ACK and credits of a block that is not sequenced. -/
def useHeader (p : PortId) (raw : List Byte) (s : State) : State :=
  useCredits p (blkClass raw) (blkCount raw) (useAck p (blkAck raw) s)

/-- DATA_BLOCK: accepted when its SEQ is the expected one (R500); its messages join the received ones. -/
def dataBlock (p : PortId) (raw : List Byte) (bad : Byte) (s : State) : State :=
  rxBlock p raw bad (· == 1) (fun s =>
    if blkSeq raw != s.ports[p.val].rxSeq then startEpisode p 0 s
    else
      let s := useHeader p raw s
      setPort p (fun o => { o with
        rxSeq := o.rxSeq + 1, episode := false, rxq := o.rxq ++ msgsOf 15 ((raw.drop 8).take (blkFill raw)) }) s) s

/-- NAK: every block from ACK + 1 onwards is sent again (R501). -/
def nakBlock (p : PortId) (raw : List Byte) (bad : Byte) (s : State) : State :=
  rxBlock p raw bad (· == 2) (fun s => resendAll p (useHeader p raw s)) s

/-- IDLE_BLOCK: ACK and credits only (R499). -/
def idleBlock (p : PortId) (raw : List Byte) (bad : Byte) (s : State) : State := rxBlock p raw bad (· == 0) (useHeader p raw) s

/-- BAD_TYPE_BLOCK: ACK and credits are used, the block is discarded, and CPL_ERR.BADTYPE is set (R499). -/
def badTypeBlock (p : PortId) (raw : List Byte) (bad : Byte) (s : State) : State :=
  rxBlock p raw bad (fun t => decide (4 ≤ t)) (fun s => setPortErr p 2 (useHeader p raw s)) s

/-- LINK_BLOCK: buffer sizes, node and version of the peer (R503, R523). In a link-up from DOWN the sizes are the credits; after a
retrain credits survive (R504). Once the width is agreed the link-up is complete. -/
def linkBlock (p : PortId) (raw : List Byte) (bad : Byte) (sizes : List Nat) (node : BitVec 12) (ver : BitVec 16) (s : State) : State :=
  rxBlock p raw bad (· == 3) (fun s =>
    let s := useAck p (blkAck raw) s
    if s.ports[p.val].state != 1 then useCredits p (blkClass raw) (blkCount raw) s
    else
      let s := setPort p (fun o => { o with
        credits := if o.peerValid then o.credits else Vector.ofFn (fun i : Fin 5 => (sizes[i.val]?).getD 0),
        peer := node, peerVer := ver, peerValid := true, linkGot := true }) s
      trainingDone p s) s

/-- RESEND_TIMEOUT: 4 µs without the ACK advancing while blocks are outstanding (R501). -/
def resendTimeout (p : PortId) (s : State) : State :=
  if portRuns s p && decide (2 ≤ s.ports[p.val].state.toNat) then pumpPort p (resendAll p s) else s

/-! ### Changes of the board domain (R508 to R510) -/

/-- CPL_CTL_ADMIT, CPL_CTL_DEPART and CPL_CTL_RETRAIN: a write of CPL_CTL with a command bit set (R523). -/
def cplCtlCommand (m : Master) (p : PortId) (bit v : W32) (s : State) : State :=
  settleWaits (regCommand m (0x50_0000 + p.val * 0x100) ((v &&& 7) ||| bit) s)

/-- ADMIT_TIMEOUT: the peer has not sent ADMIT within 1 ms: reason 4 (R508). -/
def admitTimeout (p : PortId) (s : State) : State :=
  let o := s.ports[p.val]
  if o.state == 3 && o.admitSent && o.admitGot.isNone then refuseAdmit p 4 s else s

/-- ADMISSION_COMPLETE (R508). -/
def admissionComplete (p : PortId) (s : State) : State := settleWaits (admitDone p s)

/-- Whether a departure's removals and write-backs have finished (R355, R510): no request, snoop or message for a node that leaves is
outstanding. -/
def departureOver (s : State) (p : PortId) : Bool :=
  let o := s.ports[p.val]
  s.cplWait.all (fun w => !o.leaving.contains w.node) && o.txq.all (fun m => !o.leaving.contains m.dst) &&
  o.rxq.all (fun m => !o.leaving.contains m.src) && o.replay.all (fun b => b.msgs.all (fun m => !o.leaving.contains m.dst))

/-- DEPARTURE_COMPLETE: UP, source 1198, and the accesses that waited are served under R25 (R355, R510). -/
def departureComplete (p : PortId) (s : State) : State :=
  let o := s.ports[p.val]
  if (o.state != 5 && o.leaving.isEmpty) || !departureOver s p then s
  else
    let ds := (s.dir.map (fun d : DirLine => { d with holders := d.holders.filter (fun n => !o.leaving.contains n) })).filter
      (fun d => !d.holders.isEmpty)
    let s := setPort p (fun o => { o with state := if o.state == 5 then 2 else o.state, leaving := [] }) { s with dir := ds }
    settleWaits (if o.state == 5 then raiseSource 1198 s else s)

end Sys2Proof.Machine
end

