-- ==== Sys2Proof/Machine/CplMsg.lean ====
section
/-!
DEFINITION. Machine/CplMsg.lean: what the messages of the coupling ports do (R24, R344, R345, R353, R364, R461, R503 to R505, R508 to
R510).
-/
namespace Sys2Proof.Machine

/-- What becomes of the message that a command handles. -/
inductive MsgOut
  /-- Handled: it leaves the receive buffer. -/
  | done (s : State)
  /-- It waits there, for snoops or for its target. -/
  | wait (s : State)

/-- The oldest message of a class leaves the receive buffer, and its credits go back (R503). -/
def freeMsg (p : PortId) (cls : Nat) (s : State) : State :=
  setPort p (fun o => match pluck (fun m : Msg => m.cls == cls) o.rxq with
    | some (m, rest) => { o with rxq := rest, owed := if cls < 5 then o.owed.set! cls ((o.owed[cls]?).getD 0 + m.units) else o.owed }
    | none => o) s

/-- A response sent to the originator of a message: by its member entry, else on the port of arrival (R504, R505). -/
def answer (p : PortId) (m : Msg) (op : Nat) (status : Byte) (d : List Byte) (s : State) : State :=
  match portTo s m.src with
  | some _ => respond m op status d s
  | none => queueMsg p { cls := 1, op := op, src := s.node, dst := m.src, tag := m.tag, status := status, addr := m.addr, data := d } s

/-- ERR with a status. -/
def answerErr (p : PortId) (m : Msg) (status : Byte) (s : State) : MsgOut := .done (answer p m 2 status [] s)

/-- Whether a message is a request (R505). -/
def Msg.isRequest (m : Msg) : Bool := m.cls == 0 || (m.cls == 3 && decide (m.op < 2))

/-- A message for another node goes on by its member entry; without one it is answered or discarded (R505). -/
def passOn (p : PortId) (m : Msg) (s : State) : State :=
  match portTo s m.dst with
  | some q => queueMsg q m s
  | none =>
    let s := if m.isRequest then answer p m 2 4 [] s else s
    setPortErr p 1 s

/-- Whether OP is listed for its class (R503). -/
def Msg.listed (m : Msg) : Bool := match m.cls with
  | 0 => decide (m.op ≤ 6)
  | 1 | 2 | 3 => decide (m.op ≤ 2)
  | 4 => decide (m.op ≤ 3)
  | _ => false

/-- The oldest received message of a class is handled, where it is one of the row's: `f` gives its effect at its DST. -/
def msgRow (p : PortId) (cls : Nat) (isRow : Msg → Bool) (f : Msg → State → MsgOut) (s : State) : State :=
  let o := s.ports[p.val]
  if !portRuns s p || !fabRuns s || !portCarries o cls then s
  else match o.rxq.find? (fun m => m.cls == cls) with
  | none => s
  | some m =>
    if !isRow m then s
    else if m.dst != s.node then freeMsg p cls (passOn p m s)
    else match f m s with
      | .done s => resumeCores (freeMsg p cls s)
      | .wait s => s

/-- A row of one OP. -/
def opRow (p : PortId) (cls op : Nat) (f : Msg → State → MsgOut) (s : State) : State := msgRow p cls (fun m => m.op == op) f s

/-! ### The home directory (R344, R345) -/

/-- Whether nodes other than `n` hold the line in a way that a grant to `n` must undo first. -/
def othersHold (s : State) (line : Nat) (excl : Bool) (n : BitVec 12) : Bool :=
  s.dir.any (fun d => d.line == line && (excl || d.excl) && d.holders.any (· != n))

/-- A snoop to one node, unless one for the line is outstanding there (R503). -/
def snoopNode (s : State) (n : BitVec 12) (line op : Nat) : State :=
  if s.cplWait.any (fun w => w.node == n && w.op / 32 == 2 && w.addr % 2 ^ 40 == line * 64) then s
  else boardSend .none (2 ^ 52 + n.toNat * 2 ^ 40 + line * 64) op [] 0 s

/-- The snoops that a grant to `n` needs: SNP_INV for an exclusive copy, SNP_SHARE for a shared one. -/
def snoopOthers (s : State) (line : Nat) (excl : Bool) (n : BitVec 12) : State :=
  match s.dir.find? (fun d => d.line == line) with
  | some d => (d.holders.filter (· != n)).foldl (fun s x => snoopNode s x line (if excl then 64 else 65)) s
  | none => s

/-- The home region of a line (R344). -/
def homeRegion (s : State) (line : Nat) : Nat := line % 4 % s.build.regions

/-- The line whose remote copy must be recalled before another line of the same home can be tracked: the least recently granted one of a
full directory (R345). -/
def recallFor (s : State) (line : Nat) : Option DirLine :=
  let same := s.dir.filter (fun d => homeRegion s d.line == homeRegion s line)
  if s.dir.any (fun d => d.line == line) || same.length < 32768 then none else same.head?

/-- The recall of a line's remote copies. -/
def recallLine (s : State) (d : DirLine) : State := d.holders.foldl (fun s n => snoopNode s n d.line 66) s

/-- A copy granted to `n` (R344): the line becomes the most recently granted one. -/
def dirGrant (s : State) (line : Nat) (n : BitVec 12) (excl : Bool) : State :=
  let old := ((s.dir.find? (fun d => d.line == line)).map DirLine.holders).getD []
  let d : DirLine := { line := line, holders := if excl then [n] else (old.filter (fun x => x != n)) ++ [n], excl := excl }
  { s with dir := s.dir.filter (fun d => d.line != line) ++ [d] }

/-- A node gives its copy up. -/
def dirDrop (s : State) (line : Nat) (n : BitVec 12) : State :=
  let f (d : DirLine) : DirLine := if d.line == line then { d with holders := d.holders.filter (· != n) } else d
  { s with dir := (s.dir.map f).filter (fun d => !d.holders.isEmpty) }

/-! ### Requests at the home (R503) -/

/-- RD_SHARED and RD_EXCL (R344, R353, R356, R529). A line that is bad is answered with STATUS 3; an exclusive requester then holds it
poisoned, so it is tracked. -/
def lineRequest (p : PortId) (excl : Bool) (m : Msg) (s : State) : MsgOut :=
  match localTarget s m.addr.toNat with
  | .dram a =>
    let l := a / 64
    if othersHold s l excl m.src then .wait (snoopOthers s l excl m.src)
    else match recallFor s l with
    | some d => .wait (recallLine s d)
    | none =>
      if l ∈ s.lostLines then answerErr p m 1 s
      else if s.lineBad l then
        let s := if l ∈ s.dramUe && !s.isPoisoned l && !(l ∈ s.pattern) then dramUeFound l s else s
        .done (answer p m 2 3 [] (if excl then dirGrant (dropCopies (cleanLine s l) none l) l m.src true else s))
      else
        let (d, s) := cohRead s (l * 64) 64
        let s := if excl then dropCopies s none l else s
        .done (answer p m 0 0 d (dirGrant s l m.src excl))
  | _ => answerErr p m 1 s

/-- UPGRADE: every other copy goes, and the requester's becomes exclusive, where it still holds one. -/
def upgradeRequest (p : PortId) (m : Msg) (s : State) : MsgOut :=
  match localTarget s m.addr.toNat with
  | .dram a =>
    let l := a / 64
    if othersHold s l true m.src then .wait (snoopOthers s l true m.src)
    else
      let held := s.dir.any (fun d => d.line == l && d.holders.contains m.src)
      .done (answer p m 1 0 [] (if held then dirGrant (dropCopies (cleanLine s l) none l) l m.src true else s))
  | _ => answerErr p m 1 s

/-- WR_LINE: a line written back, poisoned under STATUS 3 (R343, R504); to host space it goes out on wz_sm_* (R561). -/
def lineWrite (p : PortId) (m : Msg) (s : State) : MsgOut :=
  let d := padTo 64 m.data
  match localTarget s m.addr.toNat with
  | .dram a =>
    let l := a / 64
    let s := dirDrop s l m.src
    let s := dropCopies (cleanLine s l) none l
    let s : State :=
      if m.status == 3 then { s with pattern := insertNew l s.pattern, dramUe := s.dramUe.filter (· != l) }
      else logPhys { (clearBad s (l * 64) 64) with mem := memWrite s.mem (l * 64) d } a
    .done (answer p m 1 0 [] s)
  | .host a =>
    if smCanSend s then
      .done { s with smOut := s.smOut ++ [{ id := BitVec.ofNat 10 (0x200 + p.val * 0x20 + m.src.toNat % 32), addr := a, write := true, len := 0,
                                            data := d.map some, who := .forward m }] }
    else .wait s
  | _ => answerErr p m 1 s

/-- The bytes that MASK names in its 16-byte block: the first and how many (log entry 30). -/
def maskRange (v : BitVec 16) : Nat × Nat :=
  let l := (List.range 16).filter (fun i => bitOf v i)
  match l.head?, l.getLast? with
  | some a, some b => (a, b + 1 - a)
  | _, _ => (0, 0)

/-- The DATA of an error of an observer's read, or the read itself. -/
def answerRead (p : PortId) (m : Msg) (op lo : Nat) (r : Except ObsErr (List Byte) × State) : MsgOut :=
  match r with
  | (.ok d, s) =>
    let b := List.replicate lo 0 ++ d
    .done (if op == 2 then sendMsg { cls := 3, op := 2, src := s.node, dst := m.src, tag := m.tag, addr := m.addr, data := b } s
      else answer p m 0 0 (padTo ((b.length + 15) / 16 * 16) b) s)
  | (.error .wait, s) => .wait s
  | (.error e, s) => answerErr p m e.status s

/-- RD_UNCACHED (R9, R346, R364, R562): the bytes that MASK names, or a 64-byte line where it is 0 (log entry 30). -/
def uncachedRead (p : PortId) (m : Msg) (s : State) : MsgOut :=
  let whole := m.mask == 0
  let (lo, n) := if whole then (0, 64) else maskRange m.mask
  let base := alignDown m.addr.toNat (if whole then 64 else 16)
  match localTarget s base with
  | .dram _ | .spm _ _ => answerRead p m 0 lo (obsRead (obsPort p) (base + lo) n s)
  | .regs off =>
    if whole || n != 4 || lo % 4 != 0 then answerErr p m 1 s
    else if regWaits s (off + lo) then .wait s
    else answerRead p m 0 lo (.ok (leBytes 4 (regRead (.port p) (off + lo) s).toNat), s)
  | .host a =>
    if smCanSend s then
      .done { s with smOut := s.smOut ++ [{ id := BitVec.ofNat 10 (0x200 + p.val * 0x20 + m.src.toNat % 32), addr := a, write := false,
                                            len := if whole then 64 else 16, data := [], who := .forward m }] }
    else .wait s
  | _ => answerErr p m 1 s

/-- WR_PART (R9, R346, R364, R450, R562): the bytes that MASK names in an aligned 16-byte block. -/
def partWrite (p : PortId) (m : Msg) (s : State) : MsgOut :=
  let base := alignDown m.addr.toNat 16
  let bytes : List (Option Byte) := (List.range 16).map (fun i => if bitOf m.mask i then some ((m.data[i]?).getD 0) else none)
  let (lo, n) := maskRange m.mask
  match localTarget s base with
  | .dram _ | .spm _ _ =>
    match obsWrite (obsPort p) base bytes none s with
    | (none, s) => .done (answer p m 1 0 [] s)
    | (some .wait, s) => .wait s
    | (some e, s) => answerErr p m e.status s
  | .regs off =>
    if n != 4 || lo % 4 != 0 || m.mask != BitVec.ofNat 16 (15 * 2 ^ lo) then answerErr p m 1 s
    else if regWaits s (off + lo) then .wait s
    else
      let v : W32 := BitVec.ofNat 32 (ofLe (((bytes.drop lo).take 4).map (fun x => x.getD 0)))
      .done (answer p m 1 0 [] (regWrite (.port p) (off + lo) v s))
  | .host a =>
    if smCanSend s then
      .done { s with smOut := s.smOut ++ [{ id := BitVec.ofNat 10 (0x200 + p.val * 0x20 + m.src.toNat % 32), addr := a, write := true, len := 0,
                                            data := bytes, who := .forward m }] }
    else .wait s
  | _ => answerErr p m 1 s

/-- The operation and width of an ATOMIC's code byte (log entry 30). -/
def atomOf (code : Nat) : AtomOp × Bool :=
  ((match code / 2 with
    | 0 => .cas
    | 1 => .xchg
    | _ => .xadd), code % 2 == 1)

/-- ATOMIC at the home (R121, R122, R356, R529): the old value is answered. -/
def atomicRequest (p : PortId) (m : Msg) (s : State) : MsgOut :=
  let (lo, n) := maskRange m.mask
  let a := alignDown m.addr.toNat 16 + lo
  match localTarget s a with
  | .dram a =>
    let l := a / 64
    if remoteHolds s l true then .wait (homeSnoop s l true)
    else if l ∈ s.lostLines then answerErr p m 1 s
    else if s.lineBad l then
      answerErr p m 3 (if l ∈ s.dramUe && !s.isPoisoned l && !(l ∈ s.pattern) then dramUeFound l s else s)
    else
      let (o, wide) := atomOf (blockField m.data 16 1)
      let old := wordOfLe (memRead s.mem a n)
      let s := match atomResult o wide old (wordOfLe (m.data.take 8)) (wordOfLe ((m.data.drop 8).take 8)) with
        | some v => logPhys (cohWrite s a ((leBytes n v.toNat).map some)) a
        | none => (cohRead s a n).2
      .done (answer p m 0 0 (padTo 16 (leBytes 8 old.toNat)) s)
  | _ => answerErr p m 1 s

/-! ### Mover messages (R386, R503) -/

/-- Where the parts of [a, a + n) lie that share no line: up to the next multiple of 64. -/
def lineParts : Nat → Nat → Nat → List (Nat × Nat)
  | 0, _, _ => []
  | fuel + 1, a, n => if n = 0 then [] else
      let k := min n (64 - a % 64)
      (a, k) :: lineParts fuel (a + k) (n - k)

/-- A read by an observer over several lines: the first error, else all bytes. -/
def obsReadAll (o : Observer) : List (Nat × Nat) → List Byte → State → Except ObsErr (List Byte) × State
  | [], d, s => (.ok d, s)
  | (a, n) :: t, d, s => match obsRead o a n s with
    | (.ok b, s) => obsReadAll o t (d ++ b) s
    | (.error e, s) => (.error e, s)

/-- What would stop an observer's write of one part, found without writing, and the snoops that it needs. -/
def obsProbe (o : Observer) (a n : Nat) (s : State) : Option ObsErr × State :=
  match target s a with
  | .dram x => if remoteHolds s (x / 64) true then (some .wait, homeSnoop s (x / 64) true) else (none, s)
  | .spm b x => (obsBank s o b x n true, s)
  | _ => (some .bus, s)

/-- The first part of a write that something stops. -/
def obsProbeAll (o : Observer) : List (Nat × Nat) → State → Option ObsErr × State
  | [], s => (none, s)
  | (a, n) :: t, s => match obsProbe o a n s with
    | (none, s) => obsProbeAll o t s
    | r => r

/-- A write by an observer over several lines, all of it or none. -/
def obsWriteAll (o : Observer) (a : Nat) (d : List (Option Byte)) (s : State) : Option ObsErr × State :=
  let ps := lineParts 40 a d.length
  match obsProbeAll o ps s with
  | (some e, s) => (some e, s)
  | (none, s) => (none, ps.foldl (fun s x => (obsWrite o x.1 ((d.drop (x.1 - a)).take x.2) none s).2) s)

/-- MV_WR: a mover's bytes; MASK names those of a last unit that is not full (log entry 30). -/
def moverWriteMsg (p : PortId) (m : Msg) (s : State) : MsgOut :=
  let n := if m.mask == 0 then m.data.length else (m.data.length - 1) / 16 * 16 + (maskRange m.mask).2
  match obsWriteAll (obsPort p) m.addr.toNat ((m.data.take n).map some) s with
  | (none, s) => .done (answer p m 1 0 [] s)
  | (some .wait, s) => .wait s
  | (some e, s) => answerErr p m e.status s

/-- MV_RD: MASK bytes, answered by MV_DATA (log entry 30). -/
def moverReadMsg (p : PortId) (m : Msg) (s : State) : MsgOut :=
  answerRead p m 2 0 (obsReadAll (obsPort p) (lineParts 40 m.addr.toNat (min m.mask.toNat 224)) [] s)

/-! ### Snoops at a holder (R344, R345, R503) -/

/-- A snoop: a modified copy answers with its data, and one that is poisoned with STATUS 3 (R343). SNP_SHARE leaves a shared copy. -/
def snoopMsg (p : PortId) (share : Bool) (m : Msg) (s : State) : MsgOut :=
  let line := (2 ^ 52 + m.src.toNat * 2 ^ 40 + m.addr.toNat) / 64
  match s.remote.find? (fun r => r.line == line) with
  | none => .done (answer p m 1 0 [] (if share then s else icInvLine s line))
  | some r =>
    let bad := s.isPoisoned line
    let s : State :=
      if share && !bad then { s with remote := updFirst (fun x : RemLine => x.line == line) (fun x => { x with excl := false, modified := false }) s.remote }
      else icInvLine (dropCopies { s with remote := s.remote.filter (fun x => x.line != line), poisoned := s.poisoned.filter (fun x => x.2 != line) } none line) line
    .done (if bad then answer p m 0 3 [] s else if r.modified then answer p m 0 0 r.data s else answer p m 1 0 [] s)

/-! ### Responses -/

/-- A response: the request of its TAG is answered (R504); a response without one is discarded. -/
def responseMsg (m : Msg) (status : Byte) (s : State) : MsgOut :=
  match pluck (fun w : Pending => w.tag == m.tag && w.node == m.src) s.cplWait with
  | some (w, rest) => .done (boardDone w status m.data { s with cplWait := rest })
  | none => .done s

/-! ### Management messages -/

/-- GDN_PKT: a command packet for queue 3 (R461, R462). Before the firmware of a junior runs it carries what the junior asked for (R29),
which FIRMWARE_LOAD takes. -/
def peerPost (p : PortId) (m : Msg) (s : State) : MsgOut :=
  if s.gdn.junior && !s.gdn.fwRuns then .done s
  else .done (s.modQueue 3 (fun q =>
    if q.slots.length ≥ 16 then { q with rej := true }
    else
      let n := pktField m.data 3 1
      { q with slots := q.slots ++ [{ pkt := padTo (if n > 30 then 16 else 16 + 8 * n) m.data, port := p.val }],
               lastseq := BitVec.ofNat 16 (pktField m.data 4 2) }))

/-- The entries of a member table's bytes (log entry 31). -/
def tableOf (d : List Byte) : List (BitVec 12 × BitVec 4) :=
  ((chunks 2 ((d.length - 2) / 2) (d.drop 2)).map (fun b => (BitVec.ofNat 12 (ofLe b), BitVec.ofNat 4 (ofLe b / 4096))))

/-- ADMIT: the peer's member table and MAJOR version (R508). -/
def admitRequest (p : PortId) (m : Msg) (s : State) : MsgOut :=
  let st := s.ports[p.val].state
  if st != 2 && st != 3 then .done s
  else .done (decideAdmit p (setPort p (fun o => { o with
    admitGot := some ((tableOf m.data).take (blockField m.data 1 1 % 64), BitVec.ofNat 8 (blockField m.data 0 1)) }) s))

/-- DOMAIN_UPDATE (R508, R510, R511): members added with the port of arrival, or removed, and the news forwarded. -/
def domainUpdate (p : PortId) (m : Msg) (s : State) : MsgOut :=
  let kind := blockField m.data 1 1 / 64
  let l := (tableOf m.data).take (blockField m.data 1 1 % 64)
  if s.ports[p.val].state.toNat < 4 then .done s
  else
    let via := l.filter (fun e => (membersVia s p).contains e.1)
    match kind with
    | 1 =>
      let new := l.filter (fun e => (memberOf s e.1).isNone)
      if new.isEmpty then .done s
      else
        let s := new.foldl (fun s e => addMember p e s) { s with epoch := s.epoch + 1 }
        .done (tellDomain p 1 (new.map (fun e => (e.1, e.2 + 1))) s)
    | 2 => if via.isEmpty then .done s else .done (tellDomain p 2 via (departNodes p (via.map Prod.fst) s))
    | 3 => .done (loseMembers p (via.map Prod.fst) s)
    | _ => .done s

/-- DEPART: the peer departs (R510). -/
def departMsg (p : PortId) (s : State) : MsgOut := .done (if s.ports[p.val].state == 4 then startDepart p false s else s)

/-- UNLISTED_OP: ERR of status 5, or discarded when it is itself a response (R503). -/
def unlistedOp (p : PortId) (s : State) : State :=
  match s.ports[p.val].rxq.find? (fun m => !m.listed) with
  | none => s
  | some m => msgRow p m.cls (fun x => !x.listed) (fun m s => if m.cls == 1 then .done s else answerErr p m 5 s) s

end Sys2Proof.Machine
end

