-- ==== Sys2Proof/Machine/CouplingRows.lean ====
section
/-!
DEFINITION. Machine/CouplingRows.lean: the meanings of the commands of the coupling ports, each one call of the operation that the spec gives it.
-/
namespace Sys2Proof.Machine

/-- LANE_LOCK (R495). -/
def execLaneLock (p : PortId) (l : Fin 8) (s : State) : Host.Outcome State Fault Refusal := onPort p s (laneLock p l)

/-- LANE_UNLOCK (R495). -/
def execLaneUnlock (p : PortId) (l : Fin 8) (s : State) : Host.Outcome State Fault Refusal := onPort p s (laneUnlock p l)

/-- SLIP_REQUEST (R570). -/
def execSlipRequest (p : PortId) (l : Fin 8) (s : State) : Host.Outcome State Fault Refusal := onPort p s (slipRequest p l)

/-- TRAINING_ATTEMPT (R506). -/
def execTrainingAttempt (p : PortId) (s : State) : Host.Outcome State Fault Refusal := onPort p s (trainingAttempt p)

/-- TRAINING_END (R507). -/
def execTrainingEnd (p : PortId) (lanes : Byte) (width : BitVec 2) (s : State) : Host.Outcome State Fault Refusal :=
  onPort p s (trainingEnd p lanes width)

/-- RETRAIN_TIMEOUT (R506). -/
def execRetrainTimeout (p : PortId) (s : State) : Host.Outcome State Fault Refusal := onPort p s (retrainTimeout p)

/-- CPL_CTL_ADMIT (R508). -/
def execCplCtlAdmit (m : Master) (p : PortId) (v : W32) (s : State) : Host.Outcome State Fault Refusal :=
  onPort p s (cplCtlCommand m p 0x100 v)

/-- CPL_CTL_DEPART (R510). -/
def execCplCtlDepart (m : Master) (p : PortId) (v : W32) (s : State) : Host.Outcome State Fault Refusal :=
  onPort p s (cplCtlCommand m p 0x200 v)

/-- CPL_CTL_RETRAIN (R506). -/
def execCplCtlRetrain (m : Master) (p : PortId) (v : W32) (s : State) : Host.Outcome State Fault Refusal :=
  onPort p s (cplCtlCommand m p 0x400 v)

/-- ADMIT_TIMEOUT (R508). -/
def execAdmitTimeout (p : PortId) (s : State) : Host.Outcome State Fault Refusal := onPort p s (admitTimeout p)

/-- ADMISSION_COMPLETE (R508). -/
def execAdmissionComplete (p : PortId) (s : State) : Host.Outcome State Fault Refusal := onPort p s (admissionComplete p)

/-- DATA_BLOCK (R500). -/
def execDataBlock (p : PortId) (raw : List (Byte)) (bad : Byte) (s : State) : Host.Outcome State Fault Refusal :=
  onPort p s (dataBlock p raw bad)

/-- NAK (R501). -/
def execNak (p : PortId) (raw : List (Byte)) (bad : Byte) (s : State) : Host.Outcome State Fault Refusal := onPort p s (nakBlock p raw bad)

/-- LINK_BLOCK (R503). -/
def execLinkBlock (p : PortId) (raw : List (Byte)) (bad : Byte) (sizes : List Nat) (node : BitVec 12) (ver : Half) (s : State) : Host.Outcome State Fault Refusal :=
  onPort p s (linkBlock p raw bad sizes node ver)

/-- IDLE_BLOCK (R499). -/
def execIdleBlock (p : PortId) (raw : List (Byte)) (bad : Byte) (s : State) : Host.Outcome State Fault Refusal :=
  onPort p s (idleBlock p raw bad)

/-- RESEND_TIMEOUT (R501). -/
def execResendTimeout (p : PortId) (s : State) : Host.Outcome State Fault Refusal := onPort p s (resendTimeout p)

/-- RD_SHARED (R503). -/
def execRdShared (p : PortId) (s : State) : Host.Outcome State Fault Refusal := onPort p s (opRow p 0 0 (lineRequest p false))

/-- RD_EXCL (R503). -/
def execRdExcl (p : PortId) (s : State) : Host.Outcome State Fault Refusal := onPort p s (opRow p 0 1 (lineRequest p true))

/-- RD_UNCACHED (R503). -/
def execRdUncached (p : PortId) (s : State) : Host.Outcome State Fault Refusal := onPort p s (opRow p 0 2 (uncachedRead p))

/-- WR_LINE (R504). -/
def execWrLine (p : PortId) (s : State) : Host.Outcome State Fault Refusal := onPort p s (opRow p 0 3 (lineWrite p))

/-- WR_PART (R503). -/
def execWrPart (p : PortId) (s : State) : Host.Outcome State Fault Refusal := onPort p s (opRow p 0 4 (partWrite p))

/-- ATOMIC (R503). -/
def execAtomic (p : PortId) (s : State) : Host.Outcome State Fault Refusal := onPort p s (opRow p 0 5 (atomicRequest p))

/-- UPGRADE (R503). -/
def execUpgrade (p : PortId) (s : State) : Host.Outcome State Fault Refusal := onPort p s (opRow p 0 6 (upgradeRequest p))

/-- DATA (R503). -/
def execData (p : PortId) (s : State) : Host.Outcome State Fault Refusal := onPort p s (opRow p 1 0 (fun m => responseMsg m m.status))

/-- COMP (R503). -/
def execComp (p : PortId) (s : State) : Host.Outcome State Fault Refusal := onPort p s (opRow p 1 1 (fun m => responseMsg m m.status))

/-- ERR (R504). -/
def execErr (p : PortId) (s : State) : Host.Outcome State Fault Refusal :=
  onPort p s (opRow p 1 2 (fun m => responseMsg m (if m.status == 0 then 1 else m.status)))

/-- SNP_INV (R503). -/
def execSnpInv (p : PortId) (s : State) : Host.Outcome State Fault Refusal := onPort p s (opRow p 2 0 (snoopMsg p false))

/-- SNP_SHARE (R503). -/
def execSnpShare (p : PortId) (s : State) : Host.Outcome State Fault Refusal := onPort p s (opRow p 2 1 (snoopMsg p true))

/-- SNP_RECALL (R345). -/
def execSnpRecall (p : PortId) (s : State) : Host.Outcome State Fault Refusal := onPort p s (opRow p 2 2 (snoopMsg p false))

/-- MV_WR (R503). -/
def execMvWr (p : PortId) (s : State) : Host.Outcome State Fault Refusal := onPort p s (opRow p 3 0 (moverWriteMsg p))

/-- MV_RD (R503). -/
def execMvRd (p : PortId) (s : State) : Host.Outcome State Fault Refusal := onPort p s (opRow p 3 1 (moverReadMsg p))

/-- MV_DATA (R503). -/
def execMvData (p : PortId) (s : State) : Host.Outcome State Fault Refusal := onPort p s (opRow p 3 2 (fun m => responseMsg m 0))

/-- GDN_PKT (R461). -/
def execGdnPkt (p : PortId) (s : State) : Host.Outcome State Fault Refusal := onPort p s (opRow p 4 0 (peerPost p))

/-- ADMIT (R508). -/
def execAdmitMsg (p : PortId) (s : State) : Host.Outcome State Fault Refusal := onPort p s (opRow p 4 1 (admitRequest p))

/-- DOMAIN_UPDATE (R508). -/
def execDomainUpdate (p : PortId) (s : State) : Host.Outcome State Fault Refusal := onPort p s (opRow p 4 2 (domainUpdate p))

/-- DEPART (R510). -/
def execDepart (p : PortId) (s : State) : Host.Outcome State Fault Refusal := onPort p s (opRow p 4 3 (fun _ => departMsg p))

/-- DEPARTURE_COMPLETE (R510). -/
def execDepartureComplete (p : PortId) (s : State) : Host.Outcome State Fault Refusal := onPort p s (departureComplete p)

/-- BAD_TYPE_BLOCK (R499). -/
def execBadTypeBlock (p : PortId) (raw : List (Byte)) (bad : Byte) (s : State) : Host.Outcome State Fault Refusal :=
  onPort p s (badTypeBlock p raw bad)

/-- UNLISTED_OP (R503). -/
def execUnlistedOp (p : PortId) (s : State) : Host.Outcome State Fault Refusal := onPort p s (unlistedOp p)

end Sys2Proof.Machine
end

