-- ==== Sys2Proof/Machine/FloatRows.lean ====
section
/-!
DEFINITION. Machine/FloatRows.lean: the meanings of the commands of floating point, windows and contexts, each one call of the operation that the spec gives it.
-/
namespace Sys2Proof.Machine

/-- FADD (R197). -/
def execFadd (c : CoreId) (x : Byte) (s : State) : Host.Outcome State Fault Refusal := execCore c (.fp .fadd x) s

/-- FSUB (R197). -/
def execFsub (c : CoreId) (x : Byte) (s : State) : Host.Outcome State Fault Refusal := execCore c (.fp .fsub x) s

/-- FMUL (R197). -/
def execFmul (c : CoreId) (x : Byte) (s : State) : Host.Outcome State Fault Refusal := execCore c (.fp .fmul x) s

/-- FDIV (R197). -/
def execFdiv (c : CoreId) (x : Byte) (s : State) : Host.Outcome State Fault Refusal := execCore c (.fp .fdiv x) s

/-- FSQRT (R197). -/
def execFsqrt (c : CoreId) (x : Byte) (s : State) : Host.Outcome State Fault Refusal := execCore c (.fp .fsqrt x) s

/-- FMA (R197). -/
def execFma (c : CoreId) (x : Byte) (s : State) : Host.Outcome State Fault Refusal := execCore c (.fp .fma x) s

/-- FMIN (R195). -/
def execFmin (c : CoreId) (x : Byte) (s : State) : Host.Outcome State Fault Refusal := execCore c (.fp .fmin x) s

/-- FMAX (R195). -/
def execFmax (c : CoreId) (x : Byte) (s : State) : Host.Outcome State Fault Refusal := execCore c (.fp .fmax x) s

/-- FNEG (R195). -/
def execFneg (c : CoreId) (x : Byte) (s : State) : Host.Outcome State Fault Refusal := execCore c (.fp .fneg x) s

/-- FABS (R195). -/
def execFabs (c : CoreId) (x : Byte) (s : State) : Host.Outcome State Fault Refusal := execCore c (.fp .fabs x) s

/-- FCMP (R198). -/
def execFcmp (c : CoreId) (x : Byte) (s : State) : Host.Outcome State Fault Refusal := execCore c (.fp .fcmp x) s

/-- FCVT_FLOAT_TO_FLOAT (R199). -/
def execFcvtFloatToFloat (c : CoreId) (x : Byte) (s : State) : Host.Outcome State Fault Refusal := execCore c (.fp .fcvt x) s

/-- FCVT_INTEGER_TO_FLOAT (R199). -/
def execFcvtIntegerToFloat (c : CoreId) (x : Byte) (s : State) : Host.Outcome State Fault Refusal := execCore c (.fp .fcvt x) s

/-- FCVT_FLOAT_TO_INTEGER (R199). -/
def execFcvtFloatToInteger (c : CoreId) (x : Byte) (s : State) : Host.Outcome State Fault Refusal := execCore c (.fp .fcvt x) s

/-- FCVT_FLOAT_TO_INTEGER_TOWARD_ZERO (R199). -/
def execFcvtFloatToIntegerTowardZero (c : CoreId) (x : Byte) (s : State) : Host.Outcome State Fault Refusal := execCore c (.fp .fcvt x) s

/-- FLD (R197). -/
def execFld (c : CoreId) (x : Byte) (s : State) : Host.Outcome State Fault Refusal := execCore c (.fp .fld x) s

/-- FST (R197). -/
def execFst (c : CoreId) (x : Byte) (s : State) : Host.Outcome State Fault Refusal := execCore c (.fp .fst x) s

/-- FDUP (R200). -/
def execFdup (c : CoreId) (x : Byte) (s : State) : Host.Outcome State Fault Refusal := execCore c (.fp .fstk x) s

/-- FDROP (R200). -/
def execFdrop (c : CoreId) (x : Byte) (s : State) : Host.Outcome State Fault Refusal := execCore c (.fp .fstk x) s

/-- FSWAP (R200). -/
def execFswap (c : CoreId) (x : Byte) (s : State) : Host.Outcome State Fault Refusal := execCore c (.fp .fstk x) s

/-- FOVER (R200). -/
def execFover (c : CoreId) (x : Byte) (s : State) : Host.Outcome State Fault Refusal := execCore c (.fp .fstk x) s

/-- FROT (R200). -/
def execFrot (c : CoreId) (x : Byte) (s : State) : Host.Outcome State Fault Refusal := execCore c (.fp .fstk x) s

/-- FPUSH (R200). -/
def execFpush (c : CoreId) (x : Byte) (s : State) : Host.Outcome State Fault Refusal := execCore c (.fp .fmov x) s

/-- FPOP (R200). -/
def execFpop (c : CoreId) (x : Byte) (s : State) : Host.Outcome State Fault Refusal := execCore c (.fp .fmov x) s

/-- SAVEL (R178). -/
def execSavel (c : CoreId) (s : State) : Host.Outcome State Fault Refusal := execCore c (.win .savel) s

/-- SAVEU (R178). -/
def execSaveu (c : CoreId) (s : State) : Host.Outcome State Fault Refusal := execCore c (.win .saveu) s

/-- RESTL (R179). -/
def execRestl (c : CoreId) (s : State) : Host.Outcome State Fault Refusal := execCore c (.win .restl) s

/-- RESTU (R179). -/
def execRestu (c : CoreId) (s : State) : Host.Outcome State Fault Refusal := execCore c (.win .restu) s

/-- FLUSHW (R176). -/
def execFlushw (c : CoreId) (s : State) : Host.Outcome State Fault Refusal := execCore c (.win .flushw) s

/-- ALLOC (R176). -/
def execAlloc (c : CoreId) (k : Byte) (s : State) : Host.Outcome State Fault Refusal := execCore c (.alloc k) s

/-- FREE (R176). -/
def execFree (c : CoreId) (k : Byte) (s : State) : Host.Outcome State Fault Refusal := execCore c (.free k) s

/-- FLUSHR (R176). -/
def execFlushr (c : CoreId) (s : State) : Host.Outcome State Fault Refusal := execCore c (.win .flushr) s

end Sys2Proof.Machine
end

