-- ==== Sys2Proof/Machine/FlowRows.lean ====
section
/-!
DEFINITION. Machine/FlowRows.lean: the meanings of the commands of branches, loops, calls and atomics, each one call of the operation that the spec gives it.
-/
namespace Sys2Proof.Machine

/-- B_EQ (R115). -/
def execBEq (c : CoreId) (d : Byte) (s : State) : Host.Outcome State Fault Refusal := execCore c (.br .eq d) s

/-- B_NE (R115). -/
def execBNe (c : CoreId) (d : Byte) (s : State) : Host.Outcome State Fault Refusal := execCore c (.br .ne d) s

/-- B_LT (R115). -/
def execBLt (c : CoreId) (d : Byte) (s : State) : Host.Outcome State Fault Refusal := execCore c (.br .lt d) s

/-- B_GE (R115). -/
def execBGe (c : CoreId) (d : Byte) (s : State) : Host.Outcome State Fault Refusal := execCore c (.br .ge d) s

/-- B_LTU (R115). -/
def execBLtu (c : CoreId) (d : Byte) (s : State) : Host.Outcome State Fault Refusal := execCore c (.br .ltu d) s

/-- B_GEU (R115). -/
def execBGeu (c : CoreId) (d : Byte) (s : State) : Host.Outcome State Fault Refusal := execCore c (.br .geu d) s

/-- BZ (R115). -/
def execBz (c : CoreId) (d : Byte) (s : State) : Host.Outcome State Fault Refusal := execCore c (.br .z d) s

/-- BNZ (R115). -/
def execBnz (c : CoreId) (d : Byte) (s : State) : Host.Outcome State Fault Refusal := execCore c (.br .nz d) s

/-- BLTZ (R115). -/
def execBltz (c : CoreId) (d : Byte) (s : State) : Host.Outcome State Fault Refusal := execCore c (.br .ltz d) s

/-- BGEZ (R115). -/
def execBgez (c : CoreId) (d : Byte) (s : State) : Host.Outcome State Fault Refusal := execCore c (.br .gez d) s

/-- BGTZ (R115). -/
def execBgtz (c : CoreId) (d : Byte) (s : State) : Host.Outcome State Fault Refusal := execCore c (.br .gtz d) s

/-- BLEZ (R115). -/
def execBlez (c : CoreId) (d : Byte) (s : State) : Host.Outcome State Fault Refusal := execCore c (.br .lez d) s

/-- BR (R115). -/
def execBr (c : CoreId) (d : Byte) (s : State) : Host.Outcome State Fault Refusal := execCore c (.br .always d) s

/-- B_EQ_W (R115). -/
def execBEqW (c : CoreId) (d : Half) (s : State) : Host.Outcome State Fault Refusal := execCore c (.brW .eq d) s

/-- B_NE_W (R115). -/
def execBNeW (c : CoreId) (d : Half) (s : State) : Host.Outcome State Fault Refusal := execCore c (.brW .ne d) s

/-- B_LT_W (R115). -/
def execBLtW (c : CoreId) (d : Half) (s : State) : Host.Outcome State Fault Refusal := execCore c (.brW .lt d) s

/-- B_GE_W (R115). -/
def execBGeW (c : CoreId) (d : Half) (s : State) : Host.Outcome State Fault Refusal := execCore c (.brW .ge d) s

/-- B_LTU_W (R115). -/
def execBLtuW (c : CoreId) (d : Half) (s : State) : Host.Outcome State Fault Refusal := execCore c (.brW .ltu d) s

/-- B_GEU_W (R115). -/
def execBGeuW (c : CoreId) (d : Half) (s : State) : Host.Outcome State Fault Refusal := execCore c (.brW .geu d) s

/-- BZ_W (R115). -/
def execBzW (c : CoreId) (d : Half) (s : State) : Host.Outcome State Fault Refusal := execCore c (.brW .z d) s

/-- BNZ_W (R115). -/
def execBnzW (c : CoreId) (d : Half) (s : State) : Host.Outcome State Fault Refusal := execCore c (.brW .nz d) s

/-- BLTZ_W (R115). -/
def execBltzW (c : CoreId) (d : Half) (s : State) : Host.Outcome State Fault Refusal := execCore c (.brW .ltz d) s

/-- BGEZ_W (R115). -/
def execBgezW (c : CoreId) (d : Half) (s : State) : Host.Outcome State Fault Refusal := execCore c (.brW .gez d) s

/-- BGTZ_W (R115). -/
def execBgtzW (c : CoreId) (d : Half) (s : State) : Host.Outcome State Fault Refusal := execCore c (.brW .gtz d) s

/-- BLEZ_W (R115). -/
def execBlezW (c : CoreId) (d : Half) (s : State) : Host.Outcome State Fault Refusal := execCore c (.brW .lez d) s

/-- BR_W (R115). -/
def execBrW (c : CoreId) (d : Half) (s : State) : Host.Outcome State Fault Refusal := execCore c (.brW .always d) s

/-- DO (R116). -/
def execDoLoop (c : CoreId) (d : Byte) (s : State) : Host.Outcome State Fault Refusal := execCore c (.doLoop d) s

/-- DO_W (R116). -/
def execDoW (c : CoreId) (d : Half) (s : State) : Host.Outcome State Fault Refusal := execCore c (.doW d) s

/-- LOOP (R116). -/
def execLoop (c : CoreId) (s : State) : Host.Outcome State Fault Refusal := execCore c .loop s

/-- LEAVE (R116). -/
def execLeave (c : CoreId) (s : State) : Host.Outcome State Fault Refusal := execCore c .leave s

/-- CALL (R38). -/
def execCall (c : CoreId) (n : Fin 8) (d : Half) (s : State) : Host.Outcome State Fault Refusal := execCore c (.call n d) s

/-- CALL_L (R118). -/
def execCallL (c : CoreId) (n : Byte) (d : W32) (s : State) : Host.Outcome State Fault Refusal := execCore c (.callL n d) s

/-- CALLI (R119). -/
def execCalli (c : CoreId) (n : Byte) (s : State) : Host.Outcome State Fault Refusal := execCore c (.calli n) s

/-- RET_0 (R40). -/
def execRet0 (c : CoreId) (s : State) : Host.Outcome State Fault Refusal := execCore c (.ret012 0) s

/-- RET_1 (R40). -/
def execRet1 (c : CoreId) (s : State) : Host.Outcome State Fault Refusal := execCore c (.ret012 1) s

/-- RET_2 (R40). -/
def execRet2 (c : CoreId) (s : State) : Host.Outcome State Fault Refusal := execCore c (.ret012 2) s

/-- RET (R40). -/
def execRet (c : CoreId) (m : Byte) (s : State) : Host.Outcome State Fault Refusal := execCore c (.ret m) s

/-- JMP_L (R118). -/
def execJmpL (c : CoreId) (d : W32) (s : State) : Host.Outcome State Fault Refusal := execCore c (.jmpL d) s

/-- JMPI (R119). -/
def execJmpi (c : CoreId) (s : State) : Host.Outcome State Fault Refusal := execCore c .jmpi s

/-- JMPA (R119). -/
def execJmpa (c : CoreId) (a : Word) (s : State) : Host.Outcome State Fault Refusal := execCore c (.jmpa a) s

/-- CAS32 (R121). -/
def execCas32 (c : CoreId) (s : State) : Host.Outcome State Fault Refusal := execCore c (.atom .cas false) s

/-- CAS64 (R121). -/
def execCas64 (c : CoreId) (s : State) : Host.Outcome State Fault Refusal := execCore c (.atom .cas true) s

/-- XCHG32 (R121). -/
def execXchg32 (c : CoreId) (s : State) : Host.Outcome State Fault Refusal := execCore c (.atom .xchg false) s

/-- XCHG64 (R121). -/
def execXchg64 (c : CoreId) (s : State) : Host.Outcome State Fault Refusal := execCore c (.atom .xchg true) s

/-- XADD32 (R121). -/
def execXadd32 (c : CoreId) (s : State) : Host.Outcome State Fault Refusal := execCore c (.atom .xadd false) s

/-- XADD64 (R121). -/
def execXadd64 (c : CoreId) (s : State) : Host.Outcome State Fault Refusal := execCore c (.atom .xadd true) s

end Sys2Proof.Machine
end

