-- ==== Sys2Proof/Machine/FracRows.lean ====
section
/-!
DEFINITION. Machine/FracRows.lean: the meanings of the commands of fractional arithmetic and tills, each one call of the operation that the spec gives it.
-/
namespace Sys2Proof.Machine

/-- TCLR (R143). -/
def execTclr (c : CoreId) (x : Byte) (s : State) : Host.Outcome State Fault Refusal := execCore c (.frac .tclr x) s

/-- TMAC (R143). -/
def execTmac (c : CoreId) (x : Byte) (s : State) : Host.Outcome State Fault Refusal := execCore c (.frac .tmac x) s

/-- TMSU (R143). -/
def execTmsu (c : CoreId) (x : Byte) (s : State) : Host.Outcome State Fault Refusal := execCore c (.frac .tmsu x) s

/-- TRD (R143). -/
def execTrd (c : CoreId) (x : Byte) (s : State) : Host.Outcome State Fault Refusal := execCore c (.frac .trd x) s

/-- TSHL (R143). -/
def execTshl (c : CoreId) (x : Byte) (s : State) : Host.Outcome State Fault Refusal := execCore c (.frac .tshl x) s

/-- TSHR (R143). -/
def execTshr (c : CoreId) (x : Byte) (s : State) : Host.Outcome State Fault Refusal := execCore c (.frac .tshr x) s

/-- TMOV (R143). -/
def execTmov (c : CoreId) (x : Byte) (s : State) : Host.Outcome State Fault Refusal := execCore c (.frac .tmov x) s

/-- TLD (R143). -/
def execTld (c : CoreId) (x : Byte) (s : State) : Host.Outcome State Fault Refusal := execCore c (.frac .tld x) s

/-- QMUL (R143). -/
def execQmul (c : CoreId) (x : Byte) (s : State) : Host.Outcome State Fault Refusal := execCore c (.frac .qmul x) s

/-- QADD (R143). -/
def execQadd (c : CoreId) (x : Byte) (s : State) : Host.Outcome State Fault Refusal := execCore c (.frac .qadd x) s

/-- QSUB (R143). -/
def execQsub (c : CoreId) (x : Byte) (s : State) : Host.Outcome State Fault Refusal := execCore c (.frac .qsub x) s

/-- QNEG (R143). -/
def execQneg (c : CoreId) (x : Byte) (s : State) : Host.Outcome State Fault Refusal := execCore c (.frac .qneg x) s

/-- QABS (R143). -/
def execQabs (c : CoreId) (x : Byte) (s : State) : Host.Outcome State Fault Refusal := execCore c (.frac .qabs x) s

/-- QRND (R144). -/
def execQrnd (c : CoreId) (x : Byte) (s : State) : Host.Outcome State Fault Refusal := execCore c (.frac .qrnd x) s

/-- FMACXY (R148). -/
def execFmacxy (c : CoreId) (x : Byte) (s : State) : Host.Outcome State Fault Refusal := execCore c (.frac .fmacxy x) s

/-- FMSUXY (R148). -/
def execFmsuxy (c : CoreId) (x : Byte) (s : State) : Host.Outcome State Fault Refusal := execCore c (.frac .fmsuxy x) s

end Sys2Proof.Machine
end

