-- ==== Sys2Proof/Machine/Start.lean ====
section
/-!
DEFINITION. Machine/Start.lean: the resets and the start-up sequence (R29, R30, R280, R482, R490, R534, R551 to R555, R564).
-/
namespace Sys2Proof.Machine

/-! ### The resets (R551, R552) -/

/-- What both resets leave of the Gardener: the flash, the captured keys and the voltage in force (R430, R552, R565). -/
def resetGardener (g : Gardener) : Gardener := { flash := g.flash, keys := g.keys, avsMv := g.avsMv }

/-- What both resets leave of a control store until it is rebuilt at start (R280): the spares in use, which the retired-unit list names
(R271). -/
def resetCtl (k : CtlStore) : CtlStore := { remap := k.remap, lost := true }

/-- Everything but the scratchpad, DRAM, the system counter and the node ID at its reset value (R57, R411, R552). -/
def resetCommon (s : State) : State :=
  { ({} : State) with
    build := s.build, ctl := s.ctl.map resetCtl, mem := s.mem, dramUe := s.dramUe, pattern := s.pattern, spmCe := s.spmCe, spmUe := s.spmUe,
    slices := resetSlices s.build, node := s.node, members := (Vector.replicate 16 {}).set 0 { node := s.node, valid := true, port := 7 },
    intc := { pin := s.intc.pin }, sys := { count := s.sys.count }, gdn := resetGardener s.gdn, tap := s.tap, free := s.free, pending := s.pending,
    pwr := { clkack := s.pwr.clkack } }

/-- The cells of the scratchpad. -/
def spmCells (m : List Host.Cell) : List Host.Cell := m.filter (fun c => decide (0x80_0000_0000 ≤ c.1))

/-- POR_ASSERT: wz_por_n low (R552). DRAM contents are undefined afterwards: they read as unlisted memory does (log entry 1). -/
def porAssert (s : State) : State :=
  let c := resetCommon s
  { c with
    mem := [], dramUe := [], pattern := [], spmCe := [], spmUe := [], sys := {},
    pwr := { c.pwr with por := true, sysrst := s.pwr.sysrst, start := .inReset } }

/-- A bank at wz_sysrst_n (R378): contents kept unless it was OFF; owner 0xFF, ON. -/
def sysrstBank (b : BankId) (old : Bank) (s : State) : State :=
  let s := if old.pstate == 2 || (old.pstate == 3 && old.fromOff) then zeroBank b s else s
  s.modBank b (fun _ => {})

/-- SYSRST_ASSERT: wz_sysrst_n low (R551, R552): modified lines are discarded; DRAM and the scratchpad keep their contents. While
wz_por_n is low it adds nothing. -/
def sysrstAssert (s : State) : State :=
  if s.pwr.por then { s with pwr := { s.pwr with sysrst := true } }
  else
    let s := sysRestart s
    let m := s.dirty.foldl (fun m d => memWrite m (d.line * 64) d.copy) s.mem
    let banks := s.banks
    let c := resetCommon { s with mem := m }
    let c := forEach allBanks (fun b s => sysrstBank b banks[b.val] s) c
    { c with pwr := { c.pwr with por := false, sysrst := true, start := .inReset } }

/-- RESET_RELEASE: a reset rises, and with both high the sequence begins (R551, R553). `strap` is wz_node_strap, sampled at the
release of wz_por_n (R19, R567). -/
def resetRelease (por : Bool) (strap : BitVec 12) (s : State) : State :=
  let s : State := if por then (if s.pwr.por then setNode strap { s with pwr := { s.pwr with por := false } } else s)
    else { s with pwr := { s.pwr with sysrst := false } }
  if s.pwr.por || s.pwr.sysrst || s.pwr.start != .inReset then s
  else reqClks [5, 6, 4] { s with pwr := { s.pwr with start := .step1 } }

/-! ### Steps 1 and 2 -/

/-- GARDENER_ROM_BOOT: step 1 (R29, R553). -/
def romBoot (s : State) : State :=
  if s.pwr.start != .step1 || !clkOn s 5 then s
  else reqClks (portClocks s) { s with
    pwr := { s.pwr with start := .step2 }, gdn := { s.gdn with junior := !s.gdn.flash.fitted } }

/-- Whether a firmware image is valid (R490). -/
def imageValid (s : State) (d : List Byte) : Bool :=
  let l := blockField d 16 4
  let r := blockField d 20 4
  let pub := (d.drop (64 + l)).take 97
  let pages := (l - r + 16383) / 16384
  decide (d.length ≤ 0x40_0000) && d.length == 64 + l + 193 && blockField d 0 4 == 0x5746_4447 && decide (r ≤ l) && decide (67584 ≤ r) &&
  decide (r - 67584 + 48 * pages ≤ 120 * 1024) &&
  (match s.gdn.keys with
    | some (v, _) => Config.sha384 pub == v
    | none => false) &&
  Config.ecdsaOk pub ((d.drop (64 + l + 97)).take 96) (Config.sha384 (d.take (64 + l + 97))) &&
  decide (blockField d 8 4 ≤ idVersion.toNat) && decide (idVersion.toNat ≤ blockField d 12 4)

/-- A firmware slot: A or B. -/
def slotOf (s : State) (b : Bool) : List Byte := if b then s.gdn.flash.slotB else s.gdn.flash.slotA
/-- FWVER of an image. -/
def imageVer (d : List Byte) : W32 := BitVec.ofNat 32 (blockField d 4 4)

/-- The slot to boot, and whether it is a fall-back (R490). -/
def bootSlot (s : State) : Option (Bool × Bool) :=
  let ok (b : Bool) : Bool := s.gdn.badSlot != some b && imageValid s (slotOf s b)
  match s.gdn.flash.inForce 7 0 with
  | some r =>
    let b := blockField r.payload 0 1 == 1
    if ok b then some (b, false) else if ok (!b) then some (!b, true) else none
  | none =>
    if ok false && ok true then some (decide ((imageVer (slotOf s false)).toNat < (imageVer (slotOf s true)).toNat), false)
    else if ok false then some (false, false) else if ok true then some (true, false) else none

/-- The complex PARKED with its Gardener running the ROM alone (R30, R490), with the leaf that says why. -/
def romOnly (leaf : Nat) (s : State) : State :=
  setLeaf 11 leaf 0 { s with pwr := { s.pwr with start := .romOnly, complex := 1 } }

/-- Whether a coupling port's link is up (R29, R506). -/
def anyLink (s : State) : Bool := s.ports.toList.any (fun p => decide (2 ≤ p.state.toNat))

/-- FIRMWARE_LOAD: step 2 (R29, R490). A junior waits for a link to the senior. -/
def firmwareLoad (s : State) : State :=
  if s.pwr.start != .step2 || !gdnRuns s || (s.gdn.junior && !anyLink s) then s
  else match bootSlot s with
  | none => romOnly 2 s
  | some (b, fall) =>
    let s := if fall then setLeaf 11 1 (if b then 1 else 0) s else s
    { s with
      pwr := { s.pwr with start := .step3 },
      gdn := { s.gdn with fwver := imageVer (slotOf s b), fwslot := b, fwRuns := true } }

/-- NO_FLASH_NO_PEER: 1 s has passed since the release of wz_por_n (R30). -/
def noFlashNoPeer (s : State) : State :=
  if s.pwr.start != .step2 || !gdnRuns s || s.gdn.flash.fitted || anyLink s then s else romOnly 0 s

/-! ### Step 3 (R482, R486 to R488) -/

/-- A unit of the retired-unit list retired again (R482). -/
def retireAgain (u : Nat × Nat) (s : State) : State := match u.1 with
  | 0 => if h : u.2 < 64 then retireCoreUnit ⟨u.2, h⟩ s else s
  | 1 => if h : u.2 < 256 then retireBankUnit ⟨u.2, h⟩ s else s
  | 2 => if h : u.2 / 8 < 6 then retireLaneUnit ⟨u.2 / 8, h⟩ (u.2 % 8) s else s
  | 3 => if h : u.2 / 8 < 4 then
      let k := s.mc[u.2 / 8]
      listRetired 3 u.2 { s with mc := s.mc.set (u.2 / 8) { k with retired := k.retired ||| (1 : BitVec 4) <<< (u.2 % 8) } }
    else s
  | _ => listRetired u.1 u.2 s

/-- The entries of a retired-unit list (R488). -/
def retiredList (d : List Byte) : List (Nat × Nat) :=
  (List.range (blockField d 0 4)).map (fun i => (blockField d (4 + 4 * i) 4 % 16, blockField d (4 + 4 * i) 4 / 65536))

/-- RECORD_RECOVERY: step 3. `bad` gives the places, among the committed records, of those whose CRC fails (R486). -/
def recordRecovery (bad : List Nat) (s : State) : State :=
  if s.pwr.start != .step3 || !gdnRuns s then s
  else
    let f := s.gdn.flash
    let fails := bad.filterMap (fun i => f.records[i]?)
    let s := fails.foldl (fun s r => setLeaf 11 3 r.typ s) s
    let f := { f with records := f.records.filter (fun r => !fails.contains r) }
    let s := { s with gdn := { s.gdn with flash := f, retired := [] } }
    let units := ((f.inForce 2 0).map (fun r => retiredList r.payload)).getD []
    let s := units.foldl (fun s u => retireAgain u s) s
    let s : State := match f.inForce 3 0 with
      | some r => { s with gdn := { s.gdn with
          events := Vector.ofFn (fun i : Fin 10 => BitVec.ofNat 32 (blockField r.payload (8 + 8 * i.val) 4)),
          marks := Vector.ofFn (fun i : Fin 10 => BitVec.ofNat 32 (blockField r.payload (12 + 8 * i.val) 4)) } }
      | none => s
    let s : State := match f.inForce 4 0 with
      | some r => { s with gdn := { s.gdn with
          roBase := Vector.ofFn (fun i : Fin 4 =>
            let b := blockField r.payload (12 + 4 * i.val) 2
            if b = 0 then none else some (BitVec.ofNat 16 b)),
          roLast := Vector.ofFn (fun i : Fin 4 => BitVec.ofNat 16 (blockField r.payload (14 + 4 * i.val) 2)) } }
      | none => s
    -- spares that the list does not name are free again (R271)
    let ctl : Vector CtlStore 16 := Vector.ofFn (fun k : Fin 16 =>
      { s.ctl[k.val] with remap := s.ctl[k.val].remap.filter (fun e : Nat × Nat => units.contains (4, k.val * 4096 + e.1)) })
    { s with ctl := ctl, pwr := { s.pwr with start := .step4 } }

/-! ### Step 4 (R280) -/

/-- A chain applied to the base image up to the first package that fails: the image, the packages applied, and whether one failed. -/
def applyChain (s : State) : List W32 → Image → List W32 → Image × List W32 × Bool
  | [], i, done => (i, done, false)
  | p :: t, i, done =>
    match s.gdn.flash.records.reverse.find? (fun r => r.typ == 6 && r.pkg == p) with
    | none => (i, done, true)
    | some r => match checkPackage s r.payload with
      | .error _ => (i, done, true)
      | .ok g => applyChain s t (i.applied g.delta) (done ++ [p])

/-- The image of cluster `k` built and its store written (R280). -/
def startImage (k : ClusterId) (chain : List W32) (s : State) : State :=
  let (i, done, failed) := applyChain s chain {} []
  let s := if failed then setLeaf 1 2 k.val s else s
  let st : CtlStore := { img := i, pkg := (done.getLast?).getD 0, gen := 0, remap := s.ctl[k.val].remap }
  { s with ctl := s.ctl.set k.val st, gdn := { s.gdn with chain := s.gdn.chain.set k.val done } }

/-- GRAFT_START_APPLICATION: step 4. -/
def graftStart (s : State) : State :=
  if s.pwr.start != .step4 || !gdnRuns s then s
  else
    let chains := inventoryChains 16 (((s.gdn.flash.inForce 1 0).map Record.payload).getD [])
    let s := forEach (allClusters.filter s.hasCluster) (fun k s => startImage k ((chains[k.val]?).getD []) s) s
    { s with pwr := { s.pwr with start := .step5 } }

/-! ### Step 5 (R525, R526, R553, R554) -/

/-- A channel after its training at start: a failed one has every rank retired for this start only. -/
def trainedChan (c : DramConfig) (failed : Bool) (k : McChan) : McChan :=
  let k : McChan := { k with dens := BitVec.ofNat 2 c.dens.val, x8 := c.x8, ranks := BitVec.ofNat 3 (c.ranks.val + 1), speed := BitVec.ofNat 4 c.speed.val }
  let cap := min ((c.ranks.val + 1) * (rankSize k / 2 ^ 30)) 64
  let all : BitVec 4 := onesTo 4 (c.ranks.val + 1)
  { k with cap := BitVec.ofNat 7 cap, present := all, retired := if failed then k.retired ||| all else k.retired }

/-- DRAM_TRAINING: step 5. The first command raises the clock requests; one with every acknowledgement there trains the channels.
`failed` names the channels whose training fails. -/
def dramTraining (c : DramConfig) (failed : List McId) (s : State) : State :=
  if s.pwr.start != .step5 || !gdnRuns s then s
  else if !(dfiClocks s).all (clkOn s) then reqClks (dfiClocks s) s
  else
    let mc : Vector McChan 4 := Vector.ofFn (fun i : Fin 4 => if s.hasMc i then trainedChan c (failed.contains i) s.mc[i.val] else s.mc[i.val])
    let s := { s with mc := mc, ilv := c.ilv && (s.build.mcChannels == 2 || s.build.mcChannels == 4), pwr := { s.pwr with start := .step6 } }
    let s := (List.finRange 4).foldl (fun s i => if s.hasMc i && failed.contains i then
      (List.range (c.ranks.val + 1)).foldl (fun s r => setLeaf 6 1 (i.val * 8 + r) s) s else s) s
    settleWaits s

/-! ### Step 6 (R553 to R555) -/

/-- CORE_RELEASE: step 6. The first command raises the clock requests of the regions; one with every acknowledgement there puts them in
RUN and releases the first core. `boot` is wz_boot_addr, sampled at that release (R555, R568). -/
def coreRelease (boot : BitVec 53) (s : State) : State :=
  let rs := allRegions.filter s.hasRegion
  if s.pwr.start != .step6 || !gdnRuns s then s
  else if !rs.all (fun r => clkOn s r.val) then reqClks (rs.map (fun r => r.val)) s
  else
    let s := forEach (rs.filter (fun r => (s.region r).state == 3)) (fun r s => s.modRegion r (fun k => { k with state := 0 })) s
    let s := { s with pwr := { s.pwr with start := .running, boot := some (s.pwr.boot.getD boot) } }
    match allCores.find? (fun c => s.hasCore c && !(s.core c).retired) with
    | some c => if (s.core c).run == .held then startCore c s else s
    | none => s

/-! ### Overlay pages (R490) -/

/-- OVERLAY_PAGE_READ: whether the first and, if it comes to that, the second reading of a page have the digest kept for it. After two
failures the Gardener starts again from ROM with the slot treated as invalid. -/
def overlayPageRead (first second : Bool) (s : State) : State :=
  if !gdnServes s || first || second then s
  else { s with
    pwr := { s.pwr with start := .step1 }, gdn := { s.gdn with fwRuns := false, fwver := 0, badSlot := some s.gdn.fwslot } }

/-! ### FIRMWARE_UPDATE (R491) -/

/-- The status of an image that FIRMWARE_UPDATE refuses, in the order of R278. -/
def updateStatus (s : State) (d : List Byte) (down : Bool) : Option GStatus :=
  let l := blockField d 16 4
  let r := blockField d 20 4
  let pub := (d.drop (64 + l)).take 97
  if d.length > 0x40_0000 || d.length != 64 + l + 193 || blockField d 0 4 != 0x5746_4447 || ofLe ((d.drop 24).take 40) != 0 || r > l || r < 67584 ||
      r - 67584 + 48 * ((l - r + 16383) / 16384) > 120 * 1024 then some gBadParam
  else if !(match s.gdn.keys with | some (v, _) => Config.sha384 pub == v | none => false) then some gAuth
  else if !Config.ecdsaOk pub ((d.drop (64 + l + 97)).take 96) (Config.sha384 (d.take (64 + l + 97))) then some gAuth
  else if !(decide (blockField d 8 4 ≤ idVersion.toNat) && decide (idVersion.toNat ≤ blockField d 12 4)) then some gVersion
  else if !down && decide ((imageVer d).toNat < s.gdn.fwver.toNat) then some gVersion
  else none

/-- FIRMWARE_UPDATE. `ok`: the commit of the boot selection reads back right. -/
def firmwareUpdateOp (ok : Bool) (x : GCtx) (s : State) : State :=
  let a := (fieldOf (x.cmd.param 0) 0 53).toNat
  let n := (fieldOf (x.cmd.param 1) 0 32).toNat
  if s.gdn.junior then gReply x gBadOpcode [] s
  else if n > 0x40_0000 then badParam x 0 s
  else match gdnFetch a n s with
  | .wait s => gWait x s
  | .bad s => badParam x 0 s
  | .bytes d s => match updateStatus s d (bitOf (x.cmd.param 1) 32) with
    | some e => if e == gBadParam then badParam x 0 s else gReply x e [] s
    | none =>
      let b := !s.gdn.fwslot
      let f := s.gdn.flash
      let f : Flash := if b then { f with slotB := d } else { f with slotA := d }
      let s := commitRecord 7 0 ((if b then 1 else 0) :: [0, 0, 0] ++ leBytes 4 (imageVer d).toNat) ok { s with gdn := { s.gdn with flash := f } }
      gReply x gAccepted [zx (imageVer d) ||| (ofB b <<< 32)] s

/-! ### Ticks (R430 to R432) -/

/-- SYSTEM_COUNTER_TICK. -/
def systemTick (s : State) : State :=
  if s.pwr.por || s.sys.stopped then s else { s with sys := { s.sys with count := s.sys.count + 1 } }
/-- SLEEP_COUNTER_TICK. -/
def sleepTick (s : State) : State := if s.pwr.por then s else slowTick s

end Sys2Proof.Machine
end

