-- ==== Sys2Proof/Machine/GardenerRows.lean ====
section
/-!
DEFINITION. Machine/GardenerRows.lean: the meanings of the commands of the Gardener, each one call of the operation that the spec gives it.
-/
namespace Sys2Proof.Machine

/-- GDN_POST (R462). -/
def execGdnPost (m : Master) (q : Fin 4) (s : State) : Host.Outcome State Fault Refusal := .next (postCommand m q s)

/-- GDN_REPLY_ACK (R466). -/
def execGdnReplyAck (m : Master) (q : Fin 4) (seq : Half) (s : State) : Host.Outcome State Fault Refusal :=
  .next (replyAckCommand m q seq s)

/-- LEAF_CLEAR (R484). -/
def execLeafClear (m : Master) (i : Fin 192) (s : State) : Host.Outcome State Fault Refusal := .next (leafClearCommand m i s)

/-- INFO (R472). -/
def execInfo (q : Fin 4) (s : State) : Host.Outcome State Fault Refusal := .next (gdnOp 0x0001 q infoOp s)

/-- PING (R472). -/
def execPing (q : Fin 4) (s : State) : Host.Outcome State Fault Refusal := .next (gdnOp 0x0002 q pingOp s)

/-- POWER_SET (R545). -/
def execPowerSet (q : Fin 4) (s : State) : Host.Outcome State Fault Refusal :=
  .next (gdnRow q (fun c => c.opcode == 0x0010 && (decide (c.powerCode < 3) || decide (7 ≤ c.powerCode))) powerSetOp s)

/-- POWER_SET_OFF (R547). -/
def execPowerSetOff (q : Fin 4) (s : State) : Host.Outcome State Fault Refusal := .next (powerSetOff q s)

/-- POWER_SET_COMPLEX (R548). -/
def execPowerSetComplex (q : Fin 4) (s : State) : Host.Outcome State Fault Refusal :=
  .next (gdnRow q (fun c => c.opcode == 0x0010 && decide (4 ≤ c.powerCode) && decide (c.powerCode ≤ 6)) powerComplexOp s)

/-- CLOCK_SET (R543). -/
def execClockSet (q : Fin 4) (s : State) : Host.Outcome State Fault Refusal := .next (gdnOp 0x0011 q clockSetOp s)

/-- QUIESCE_CLUSTER (R474). -/
def execQuiesceCluster (q : Fin 4) (s : State) : Host.Outcome State Fault Refusal := .next (gdnOp 0x0020 q quiesceClusterOp s)

/-- RESUME_CLUSTER (R474). -/
def execResumeCluster (q : Fin 4) (s : State) : Host.Outcome State Fault Refusal := .next (gdnOp 0x0021 q resumeClusterOp s)

/-- QUIESCE_REACHED (R281). -/
def execQuiesceReached (k : ClusterId) (q : Fin 4) (s : State) : Host.Outcome State Fault Refusal := onCluster k s (quiesceReached k q)

/-- QUIESCE_TIMEOUT (R284). -/
def execQuiesceTimeout (k : ClusterId) (q : Fin 4) (s : State) : Host.Outcome State Fault Refusal := onCluster k s (quiesceTimeout k q)

/-- GRAFT_STAGE (R290). -/
def execGraftStage (ok : Bool) (q : Fin 4) (s : State) : Host.Outcome State Fault Refusal := .next (gdnOp 0x0030 q (graftStageOp ok) s)

/-- GRAFT_APPLY (R281). -/
def execGraftApply (q : Fin 4) (s : State) : Host.Outcome State Fault Refusal := .next (graftApply q s)

/-- GRAFT_VERIFY (R285). -/
def execGraftVerify (k : ClusterId) (ok : Bool) (q : Fin 4) (s : State) : Host.Outcome State Fault Refusal :=
  onCluster k s (graftVerify k ok q)

/-- GRAFT_RESUME (R283). -/
def execGraftResume (k : ClusterId) (q : Fin 4) (s : State) : Host.Outcome State Fault Refusal := onCluster k s (graftResume k q)

/-- GRAFT_LIST (R289). -/
def execGraftList (q : Fin 4) (s : State) : Host.Outcome State Fault Refusal := .next (gdnOp 0x0032 q graftListOp s)

/-- RETIRE_CORE (R481). -/
def execRetireCore (ok : Bool) (q : Fin 4) (s : State) : Host.Outcome State Fault Refusal := .next (gdnOp 0x0040 q (retireCoreOp ok) s)

/-- RETIRE_BANK (R481). -/
def execRetireBank (ok : Bool) (q : Fin 4) (s : State) : Host.Outcome State Fault Refusal := .next (gdnOp 0x0041 q (retireBankOp ok) s)

/-- RETIRE_LANE (R481). -/
def execRetireLane (ok : Bool) (q : Fin 4) (s : State) : Host.Outcome State Fault Refusal := .next (gdnOp 0x0042 q (retireLaneOp ok) s)

/-- RETIRE_RANK (R536). -/
def execRetireRank (ok : Bool) (q : Fin 4) (s : State) : Host.Outcome State Fault Refusal := .next (gdnOp 0x0043 q (retireRankOp ok) s)

/-- RESTORE_UNIT (R483). -/
def execRestoreUnit (ok : Bool) (q : Fin 4) (s : State) : Host.Outcome State Fault Refusal := .next (gdnOp 0x0044 q (restoreUnitOp ok) s)

/-- PENDING_RETIREMENT (R478). -/
def execPendingRetirement (kind : Bool) (unit : Fin 256) (s : State) : Host.Outcome State Fault Refusal :=
  .next (pendingRetirement kind unit s)

/-- TALLY_CONFIG (R479). -/
def execTallyConfig (q : Fin 4) (s : State) : Host.Outcome State Fault Refusal := .next (gdnOp 0x0050 q tallyConfigOp s)

/-- TALLY_READ (R479). -/
def execTallyRead (q : Fin 4) (s : State) : Host.Outcome State Fault Refusal := .next (gdnOp 0x0051 q tallyReadOp s)

/-- POLICY_SET (R480). -/
def execPolicySet (q : Fin 4) (s : State) : Host.Outcome State Fault Refusal := .next (gdnOp 0x0052 q policySetOp s)

/-- RECORD_WRITE (R489). -/
def execRecordWrite (ok : Bool) (q : Fin 4) (s : State) : Host.Outcome State Fault Refusal := .next (gdnOp 0x0060 q (recordWriteOp ok) s)

/-- RECORD_READ (R489). -/
def execRecordRead (q : Fin 4) (s : State) : Host.Outcome State Fault Refusal := .next (gdnOp 0x0061 q recordReadOp s)

/-- WEEDER_CONFIG (R475). -/
def execWeederConfig (q : Fin 4) (s : State) : Host.Outcome State Fault Refusal := .next (gdnOp 0x0080 q weederConfigOp s)

/-- CALIBRATE (R492). -/
def execCalibrate (count : W32) (failed : List McId) (q : Fin 4) (s : State) : Host.Outcome State Fault Refusal :=
  .next (gdnOp 0x0081 q (calibrateOp count failed) s)

/-- AUTOMATIC_CALIBRATE (R492). -/
def execAutomaticCalibrate (count : W32) (s : State) : Host.Outcome State Fault Refusal := .next (automaticCalibrate count s)

/-- NODE_SET (R475). -/
def execNodeSet (ok : Bool) (q : Fin 4) (s : State) : Host.Outcome State Fault Refusal := .next (gdnOp 0x0090 q (nodeSetOp ok) s)

/-- ABORT (R473). -/
def execAbort (q : Fin 4) (s : State) : Host.Outcome State Fault Refusal := .next (abortRow q s)

/-- FIRMWARE_UPDATE (R491). -/
def execFirmwareUpdate (ok : Bool) (q : Fin 4) (s : State) : Host.Outcome State Fault Refusal :=
  .next (gdnOp 0x00FF q (firmwareUpdateOp ok) s)

/-- RING_OSCILLATOR_MEASUREMENT (R493). -/
def execRingOscillatorMeasurement (counts : List (Half)) (ok : Bool) (s : State) : Host.Outcome State Fault Refusal :=
  .next (ringOscillator (Vector.ofFn (fun i : Fin 4 => (counts[i.val]?).getD 0)) ok s)

/-- TALLY_HISTORY_WRITE (R489). -/
def execTallyHistoryWrite (ok : Bool) (s : State) : Host.Outcome State Fault Refusal := .next (tallyHistoryWrite ok s)

/-- AGEING_DATA_WRITE (R489). -/
def execAgeingDataWrite (ok : Bool) (s : State) : Host.Outcome State Fault Refusal := .next (ageingDataWrite ok s)

/-- OFF_ENTRY_TIMEOUT (R547). -/
def execOffEntryTimeout (q : Fin 4) (s : State) : Host.Outcome State Fault Refusal := .next (offEntryTimeout q s)

/-- UNLISTED_OPCODE (R471). -/
def execUnlistedOpcode (q : Fin 4) (s : State) : Host.Outcome State Fault Refusal := .next (unlistedOpcode q s)

end Sys2Proof.Machine
end

