-- ==== Sys2Proof/Machine/IrqRows.lean ====
section
/-!
DEFINITION. Machine/IrqRows.lean: the meanings of the commands of the interrupt controller and the timers, each one call of the operation that the spec gives it.
-/
namespace Sys2Proof.Machine

/-- IRQ_EDGE (R393). -/
def execIrqEdge (n : Fin 1024) (s : State) : Host.Outcome State Fault Refusal := onIrq n s (irqEdge n.val)

/-- IRQ_LEVEL_CHANGE (R394). -/
def execIrqLevelChange (n : Fin 1024) (high : Bool) (s : State) : Host.Outcome State Fault Refusal := onIrq n s (irqLevel n.val high)

/-- INTC_PEND_SET (R395). -/
def execIntcPendSet (m : Master) (g : Fin 40) (v : W32) (s : State) : Host.Outcome State Fault Refusal :=
  .next (intcGroupCommand m 0x100 g v s)

/-- INTC_PEND_CLR (R395). -/
def execIntcPendClr (m : Master) (g : Fin 40) (v : W32) (s : State) : Host.Outcome State Fault Refusal :=
  .next (intcGroupCommand m 0x200 g v s)

/-- INTC_MASK_SET (R401). -/
def execIntcMaskSet (m : Master) (g : Fin 40) (v : W32) (s : State) : Host.Outcome State Fault Refusal :=
  .next (intcGroupCommand m 0x400 g v s)

/-- INTC_MASK_CLR (R400). -/
def execIntcMaskClr (m : Master) (g : Fin 40) (v : W32) (s : State) : Host.Outcome State Fault Refusal :=
  .next (intcGroupCommand m 0x500 g v s)

/-- INTC_SENSE_WRITE (R396). -/
def execIntcSenseWrite (m : Master) (g : Fin 40) (v : W32) (s : State) : Host.Outcome State Fault Refusal :=
  .next (intcGroupCommand m 0x700 g v s)

/-- INTC_ROUTE_WRITE (R402). -/
def execIntcRouteWrite (m : Master) (n : Fin 1280) (v : W32) (s : State) : Host.Outcome State Fault Refusal := .next (routeCommand m n v s)

/-- INTC_ACTIVE_WRITE (R411). -/
def execIntcActiveWrite (m : Master) (g : Fin 40) (v : W32) (s : State) : Host.Outcome State Fault Refusal :=
  .next (intcGroupCommand m 0x600 g v s)

/-- INTC_CLAIM (R403). -/
def execIntcClaim (c : CoreId) (v : W32) (s : State) : Host.Outcome State Fault Refusal := onCore c s (claimCommand c v)

/-- INTC_COMPLETE (R405). -/
def execIntcComplete (c : CoreId) (v : W32) (s : State) : Host.Outcome State Fault Refusal := onCore c s (completeCommand c v)

/-- HOLDOFF_END (R408). -/
def execHoldoffEnd (g : Fin 40) (s : State) : Host.Outcome State Fault Refusal := .next (holdoffCommand g s)

/-- CHANNEL_TICK (R417). -/
def execChannelTick (n : ChanId) (s : State) : Host.Outcome State Fault Refusal := onChan n s (channelTick n)

/-- TMR_IN_RISE (R424). -/
def execTmrInRise (n : ChanId) (s : State) : Host.Outcome State Fault Refusal := onChan n s (tmrInRise n)

/-- TMR_IN_FALL (R425). -/
def execTmrInFall (n : ChanId) (s : State) : Host.Outcome State Fault Refusal := onChan n s (tmrInFall n)

/-- HOLDING_WORD_WRITE (R419). -/
def execHoldingWordWrite (m : Master) (n : Option ChanId) (r : HoldReg) (v : W32) (s : State) : Host.Outcome State Fault Refusal :=
  holdingCommand m n r v s

/-- PENDING_COMMIT (R420). -/
def execPendingCommit (m : Master) (n : ChanId) (r : PendReg) (v : W32) (s : State) : Host.Outcome State Fault Refusal :=
  onChan n s (chanCommand m n (pendOffset r) v)

/-- LOAD_NOW (R421). -/
def execLoadNow (m : Master) (n : ChanId) (r : PendReg) (v : W32) (s : State) : Host.Outcome State Fault Refusal :=
  onChan n s (chanCommand m n (pendOffset r + 4) v)

/-- TMR_CNT_HI_WRITE (R422). -/
def execTmrCntHiWrite (m : Master) (n : ChanId) (v : W32) (s : State) : Host.Outcome State Fault Refusal :=
  onChan n s (chanCommand m n 0x24 v)

/-- OUTSET (R428). -/
def execOutset (m : Master) (n : ChanId) (s : State) : Host.Outcome State Fault Refusal := onChan n s (chanCommand m n 0x10 1)

/-- OUTCLR (R428). -/
def execOutclr (m : Master) (n : ChanId) (s : State) : Host.Outcome State Fault Refusal := onChan n s (chanCommand m n 0x10 2)

/-- CLRACC (R416). -/
def execClracc (m : Master) (n : ChanId) (s : State) : Host.Outcome State Fault Refusal := onChan n s (chanCommand m n 0x10 4)

/-- TMR_MKUP_RATIO_WRITE (R432). -/
def execTmrMkupRatioWrite (m : Master) (n : Option ChanId) (v : W32) (s : State) : Host.Outcome State Fault Refusal := ratioCommand m n v s

end Sys2Proof.Machine
end

