-- ==== Sys2Proof/Machine/MemRows.lean ====
section
/-!
DEFINITION. Machine/MemRows.lean: the meanings of the commands of loads, stores and the store buffer, each one call of the operation that the spec gives it.
-/
namespace Sys2Proof.Machine

/-- LD8U (R107). -/
def execLd8u (c : CoreId) (s : State) : Host.Outcome State Fault Refusal := execCore c (.ld 0 false) s

/-- LD8S (R107). -/
def execLd8s (c : CoreId) (s : State) : Host.Outcome State Fault Refusal := execCore c (.ld 0 true) s

/-- LD16U (R107). -/
def execLd16u (c : CoreId) (s : State) : Host.Outcome State Fault Refusal := execCore c (.ld 1 false) s

/-- LD16S (R107). -/
def execLd16s (c : CoreId) (s : State) : Host.Outcome State Fault Refusal := execCore c (.ld 1 true) s

/-- LD32U (R107). -/
def execLd32u (c : CoreId) (s : State) : Host.Outcome State Fault Refusal := execCore c (.ld 2 false) s

/-- LD32S (R107). -/
def execLd32s (c : CoreId) (s : State) : Host.Outcome State Fault Refusal := execCore c (.ld 2 true) s

/-- LD64 (R107). -/
def execLd64 (c : CoreId) (s : State) : Host.Outcome State Fault Refusal := execCore c (.ld 3 false) s

/-- LDX16S (R107). -/
def execLdx16s (c : CoreId) (s : State) : Host.Outcome State Fault Refusal := execCore c (.ldS16 false) s

/-- LDY16S (R107). -/
def execLdy16s (c : CoreId) (s : State) : Host.Outcome State Fault Refusal := execCore c (.ldS16 true) s

/-- LDX (R43). -/
def execLdx (c : CoreId) (m : Byte) (s : State) : Host.Outcome State Fault Refusal := execCore c (.ldS false m) s

/-- LDY (R43). -/
def execLdy (c : CoreId) (m : Byte) (s : State) : Host.Outcome State Fault Refusal := execCore c (.ldS true m) s

/-- LDD8 (R107). -/
def execLdd8 (c : CoreId) (m : Byte) (d : Byte) (s : State) : Host.Outcome State Fault Refusal := execCore c (.ldd8 m d) s

/-- LDD16 (R107). -/
def execLdd16 (c : CoreId) (m : Byte) (d : Half) (s : State) : Host.Outcome State Fault Refusal := execCore c (.ldd16 m d) s

/-- LDPC (R107). -/
def execLdpc (c : CoreId) (m : Byte) (d : W32) (s : State) : Host.Outcome State Fault Refusal := execCore c (.ldpc m d) s

/-- LDA64 (R107). -/
def execLda64 (c : CoreId) (a : Word) (s : State) : Host.Outcome State Fault Refusal := execCore c (.lda64 a) s

/-- LOAD_DATA_RETURN (R111). -/
def execLoadDataReturn (c : CoreId) (r : LoadReturn) (s : State) : Host.Outcome State Fault Refusal := onCore c s (loadDataReturn c r)

/-- LDL (R39). -/
def execLdl (c : CoreId) (k : Byte) (s : State) : Host.Outcome State Fault Refusal := execCore c (.ldl k) s

/-- STL (R39). -/
def execStl (c : CoreId) (k : Byte) (s : State) : Host.Outcome State Fault Refusal := execCore c (.stl k) s

/-- ST8 (R108). -/
def execSt8 (c : CoreId) (s : State) : Host.Outcome State Fault Refusal := execCore c (.st 0) s

/-- ST16 (R108). -/
def execSt16 (c : CoreId) (s : State) : Host.Outcome State Fault Refusal := execCore c (.st 1) s

/-- ST32 (R108). -/
def execSt32 (c : CoreId) (s : State) : Host.Outcome State Fault Refusal := execCore c (.st 2) s

/-- ST64 (R108). -/
def execSt64 (c : CoreId) (s : State) : Host.Outcome State Fault Refusal := execCore c (.st 3) s

/-- STX16 (R108). -/
def execStx16 (c : CoreId) (s : State) : Host.Outcome State Fault Refusal := execCore c (.stS16 false) s

/-- STY16 (R108). -/
def execSty16 (c : CoreId) (s : State) : Host.Outcome State Fault Refusal := execCore c (.stS16 true) s

/-- STX (R108). -/
def execStx (c : CoreId) (m : Byte) (s : State) : Host.Outcome State Fault Refusal := execCore c (.stS false m) s

/-- STY (R108). -/
def execSty (c : CoreId) (m : Byte) (s : State) : Host.Outcome State Fault Refusal := execCore c (.stS true m) s

/-- STD8 (R108). -/
def execStd8 (c : CoreId) (m : Byte) (d : Byte) (s : State) : Host.Outcome State Fault Refusal := execCore c (.std8 m d) s

/-- STD16 (R108). -/
def execStd16 (c : CoreId) (m : Byte) (d : Half) (s : State) : Host.Outcome State Fault Refusal := execCore c (.std16 m d) s

/-- STPC (R108). -/
def execStpc (c : CoreId) (m : Byte) (d : W32) (s : State) : Host.Outcome State Fault Refusal := execCore c (.stpc m d) s

/-- STORE_BUFFER_DRAIN (R230). -/
def execStoreBufferDrain (c : CoreId) (s : State) : Host.Outcome State Fault Refusal := onCore c s (storeBufferDrain c)

end Sys2Proof.Machine
end

