-- ==== Sys2Proof/Machine/TmeRecv.lean ====
section
/-!
DEFINITION. Machine/TmeRecv.lean: the frames that the train message engine receives, its retransmission, and the timebase exchange
(R513 to R522, R572).
-/
namespace Sys2Proof.Machine

/-! ### Frames (R514) -/

/-- A big-endian field of the Ethernet header. -/
def beField (l : List Byte) (o n : Nat) : Nat := ((l.drop o).take n).foldl (fun v b => v * 256 + b.toNat) 0

/-- The complex's own MAC address (R514). -/
def ownMac (s : State) : Nat := s.tme.macpfx.toNat / 4096 * 4096 + s.node.toNat

/-- Data bytes of a frame: LEN, but none for READ_REQ, whose LEN gives what it asks for (R514). -/
def frameData (h : List Byte) : Nat := if blockField h 0 1 / 16 = 4 then 0 else blockField h 0x0A 2

/-- The frame after its 14-byte Ethernet header. -/
def frameOf (h : List Byte) : TmeFrame :=
  { kind := blockField h 0 1 / 16, reset := blockField h 1 1 % 2 == 1, src := BitVec.ofNat 12 (blockField h 2 2),
    dst := BitVec.ofNat 12 (blockField h 4 2), seq := BitVec.ofNat 16 (blockField h 6 2), ack := BitVec.ofNat 16 (blockField h 8 2),
    len := blockField h 0x0A 2, status := BitVec.ofNat 8 (blockField h 0x0C 1), addr := BitVec.ofNat 40 (blockField h 0x10 5),
    tag := BitVec.ofNat 32 (blockField h 0x18 4), data := (h.drop 0x20).take (frameData h) }

/-- Whether a frame passes the checks of R514 and R572. -/
def frameGood (s : State) (raw : List Byte) (rxErr : Bool) : Bool :=
  let h := raw.drop 14
  let n := 0x20 + frameData h
  !rxErr && beField raw 0 6 == ownMac s && beField raw 12 2 == s.tme.etype.toNat && decide (n + 4 ≤ h.length) &&
  ethCrc (h.take n) == BitVec.ofNat 32 (blockField h n 4) && (frameOf h).dst == s.node

/-- A frame discarded and counted (R514, R572). -/
def dropFrame (s : State) : State :=
  raiseSource 1205 { s with tme := { s.tme with rxdrop := BitVec.ofNat 16 (min (s.tme.rxdrop.toNat + 1) 0xFFFF) } }

/-- An ACK frame sent for the last frame accepted from a node (R515, R516). -/
def sendAck (n : BitVec 12) (status : Byte) (s : State) : State :=
  { s with tme := { s.tme with lastTx := some { kind := 0, src := s.node, dst := n, ack := (tmePeer s n).rx.getD 0xFFFF, status := status } } }

/-! ### Acknowledgement (R515, R516, R518) -/

/-- A failure or target error recorded, with its source. -/
def tmeFailed (f : TmeFrame) (s : State) : State :=
  raiseSource 1202 { s with tme := { s.tme with failNode := f.dst, failKind := BitVec.ofNat 4 f.kind, failAddr := f.addr } }

/-- A mover channel by the tag of its frame. -/
def tagMover (t : W32) : Option (Fin 16) := if h : t.toNat < 16 then some ⟨t.toNat, h⟩ else none

/-- What the acknowledgement of a frame does at its source: a descriptor or a mover's block completes, or meets the error. -/
def ackedFrame (f : TmeFrame) (status : Byte) (s : State) : State :=
  let s := match f.desc with
    | some i => descDone i (if status == 0 then 1 else 3) s
    | none => s
  let s := if f.kind == 1 || (f.kind == 4 && status != 0) then
      match tagMover f.tag with
      | some n => moverAnswer n (status == 0) [] s
      | none => s
    else s
  if status == 0 then s else tmeFailed f s

/-- An ACK of a node: every frame up to it is acknowledged; STATUS is that of the frame which ACK names. -/
def useTmeAck (n : BitVec 12) (ack : BitVec 16) (status : Byte) (s : State) : State :=
  let p := tmePeer s n
  let i := p.out.findIdx (fun f => f.seq == ack)
  if p.out.length ≤ i then s
  else
    let done := p.out.take (i + 1)
    let s := setTmePeer { p with out := p.out.drop (i + 1), tries := 0 } s
    let s := done.foldl (fun s f => ackedFrame f (if f.seq == ack then status else 0) s) s
    let s := setTmePeer ((tmePeer s n).fill 64) s
    tmeSettle (takeDescs 4096 s)

/-- A frame from the stream port: discarded and counted, or its ACK used and, where it is one of the row's, `f` applied. -/
def rxFrame (raw : List Byte) (rxErr : Bool) (isRow : Nat → Bool) (f : TmeFrame → State → State) (s : State) : State :=
  if !fabRuns s || !s.tme.en then s
  else if !frameGood s raw rxErr then dropFrame s
  else
    let x := frameOf (raw.drop 14)
    if !isRow x.kind then s
    else resumeCores (f x (useTmeAck x.src x.ack (if x.kind == 0 then x.status else 0) s))

/-- ACK. -/
def ackFrame (raw : List Byte) (rxErr : Bool) (s : State) : State := rxFrame raw rxErr (· == 0) (fun _ s => s) s

/-- RESERVED_KIND_FRAME: discarded and counted. -/
def reservedFrame (raw : List Byte) (rxErr : Bool) (s : State) : State :=
  if !fabRuns s || !s.tme.en then s
  else if !frameGood s raw rxErr || decide (8 ≤ (frameOf (raw.drop 14)).kind) then dropFrame s
  else s

/-! ### Sequenced kinds -/

/-- What a target does with a sequenced frame: nothing, so that it is not accepted; or its effect and the STATUS of its ACK. -/
inductive TmeDone
  | later (s : State)
  | acked (status : Byte) (s : State)

/-- A sequenced frame: the next SEQ alone is accepted, a RESET frame starts a new sequence, and a frame that has been accepted before is
acknowledged again (R515). -/
def rxSequenced (raw : List Byte) (rxErr : Bool) (kind : Nat) (f : TmeFrame → State → TmeDone) (s : State) : State :=
  rxFrame raw rxErr (· == kind) (fun x s =>
    let r := (tmePeer s x.src).rx
    let next : Bool := x.reset || (match r with
      | some v => x.seq == v + 1
      | none => false)
    if next then
      match f x s with
      | .later s => s
      | .acked st s => sendAck x.src st (setTmePeer { (tmePeer s x.src) with rx := some x.seq } s)
    else match r with
      | some v => if (v - x.seq).toNat < 0x8000 then sendAck x.src 0 s else s
      | none => s) s

/-- Whether an enabled window covers [a, a + n) of local DRAM with the permission (R516, R523). -/
def winCovers (s : State) (a n : Nat) (st : Bool) : Bool :=
  s.tme.win.toList.any (fun w => bitOf w.perm 2 && bitOf w.perm (if st then 1 else 0) &&
    decide (w.base.toNat * 4096 ≤ a) && decide (a + n ≤ w.limit.toNat * 4096))

/-- Why the TME's access to one part is refused, or must wait (R364, R370, R516). -/
def tmeProbe (a n : Nat) (st : Bool) (s : State) : Option ObsErr × State :=
  match target s a with
  | .dram x =>
    if !winCovers s a n st then (some .refused, s)
    else if remoteHolds s (x / 64) st then (some .wait, homeSnoop s (x / 64) st)
    else (none, s)
  | .spm b x => (obsBank s obsTme b x n st, s)
  | _ => (some .bus, s)

/-- The first part that something stops. -/
def tmeProbeAll (st : Bool) : List (Nat × Nat) → State → Option ObsErr × State
  | [], s => (none, s)
  | (a, n) :: t, s => match tmeProbe a n st s with
    | (none, s) => tmeProbeAll st t s
    | r => r

/-- A refused frame: its STATUS, and the inbound-refusal source (R516). -/
def refuseFrame (e : ObsErr) (s : State) : TmeDone := match e with
  | .wait => .later s
  | .uncorr => .acked 3 s
  | e => .acked e.status (raiseSource 1206 s)

/-- Writes of a frame, all of them or none (R450, R516). -/
def tmeWrites (ws : List (Nat × List (Option Byte))) (s : State) : TmeDone :=
  match tmeProbeAll true (ws.flatMap (fun w => lineParts 40 w.1 w.2.length)) s with
  | (some e, s) => refuseFrame e s
  | (none, s) => .acked 0 (ws.foldl (fun s w => (obsWriteAll obsTme w.1 w.2 s).2) s)

/-- WRITE. -/
def writeFrame (raw : List Byte) (rxErr : Bool) (s : State) : State :=
  rxSequenced raw rxErr 1 (fun x s => tmeWrites [(x.addr.toNat, x.data.map some)] s) s

/-- A record of a WRITE_REC frame (R514): the row and its bytes. -/
def recordOf (b : List Byte) : Nat × List (Option Byte) :=
  let h := blockField b 0 8
  (h % 2 ^ 40 / 16 * 16, (List.range 16).map (fun i => if h / 2 ^ (40 + i) % 2 = 1 then some ((b[8 + i]?).getD 0) else none))

/-- WRITE_REC. -/
def writeRecFrame (raw : List Byte) (rxErr : Bool) (s : State) : State :=
  rxSequenced raw rxErr 2 (fun x s => tmeWrites ((chunks 24 (x.data.length / 24) x.data).map recordOf) s) s

/-- MSG (R518, R519): placed in the next slot of the receive ring; a full ring does not accept it; one of LEN 0 is not placed. -/
def msgFrame (raw : List Byte) (rxErr : Bool) (s : State) : State :=
  rxSequenced raw rxErr 3 (fun x s =>
    if x.len == 0 then .acked 0 s
    else
      let next : BitVec 12 := BitVec.ofNat 12 ((s.tme.rxhead.toNat + 1) % ringSlots s.tme.rxsize)
      let a := localAddr s (s.tme.rxbase.toNat + 2048 * s.tme.rxhead.toNat)
      let d := (raw.drop 14).take 0x20 ++ x.data
      if next == s.tme.rxtail || !dramRange s a d.length then .later s
      else match (linesOf a d.length).find? (fun l => remoteHolds s l true) with
        | some l => .later (homeSnoop s l true)
        | none =>
          let s := physWrite a d s
          .acked 0 (raiseSource 1200 { s with tme := { s.tme with rxhead := next } })) s

/-- READ_REQ (R516, R520, R529): the data goes back in a READ_DATA frame. -/
def readReqFrame (raw : List Byte) (rxErr : Bool) (s : State) : State :=
  rxSequenced raw rxErr 4 (fun x s =>
    let ps := lineParts 40 x.addr.toNat x.len
    match tmeProbeAll false ps s with
    | (some e, s) => refuseFrame e s
    | (none, s) => match obsReadAll obsTme ps [] s with
      | (.error e, s) => refuseFrame e s
      | (.ok d, s) => .acked 0 (tmeQueue { kind := 5, src := s.node, dst := x.src, len := d.length, tag := x.tag, data := d } s)) s

/-- READ_DATA (R520): the bytes that a channel waits for. -/
def readDataFrame (raw : List Byte) (rxErr : Bool) (s : State) : State :=
  rxSequenced raw rxErr 5 (fun x s => .acked 0 (match tagMover x.tag with
    | some n => if s.movers[n.val].writing then s else moverAnswer n true x.data s
    | none => s)) s

/-! ### Timebase exchange (R522) -/

/-- TBX_REQ: answered with the stamps of its arrival and of the response. -/
def tbxReqFrame (raw : List Byte) (rxErr : Bool) (s : State) : State :=
  rxFrame raw rxErr (· == 6) (fun x s =>
    let t := leBytes 8 s.sys.count.toNat
    { s with tme := { s.tme with lastTx := some { kind := 7, src := s.node, dst := x.src, len := 16, tag := x.tag, data := t ++ t } } }) s

/-- DELTA from the four stamps. -/
def tbxDelta (t1 t2 t3 t4 : Int) : Int := ((t2 - t1) + (t3 - t4)) / 2
/-- RTT, saturating. -/
def tbxRtt (t1 t2 t3 t4 : Int) : Nat := min ((t4 - t1) - (t3 - t2)).toNat 0xFFFF_FFFF

/-- TBX_RSP: DELTA, RTT, VALID and the exchange source, where an exchange with the node is under way. -/
def tbxRspFrame (raw : List Byte) (rxErr : Bool) (s : State) : State :=
  rxFrame raw rxErr (· == 7) (fun x s =>
    if !bitOf s.tme.tbxStat 0 || x.src != s.tme.tbxNode then s
    else
      let t1 : Int := s.tme.tbxT1.toNat
      let t2 : Int := blockField x.data 0 8
      let t3 : Int := blockField x.data 8 8
      let t4 : Int := s.sys.count.toNat
      raiseSource 1203 { s with tme := { s.tme with
        tbxStat := 2, tbxDelta := BitVec.ofInt 64 (tbxDelta t1 t2 t3 t4), tbxRtt := BitVec.ofNat 32 (tbxRtt t1 t2 t3 t4) } }) s

/-- TBX_TIMEOUT: no response within RTO: FAIL and the exchange source. -/
def tbxTimeout (s : State) : State :=
  if bitOf s.tme.tbxStat 0 then raiseSource 1203 { s with tme := { s.tme with tbxStat := 4 } } else s

/-! ### Retransmission and delivery failure (R515) -/

/-- Stores and descriptors that a frame carries (R523). -/
def TmeFrame.items (f : TmeFrame) : Nat := if f.kind == 2 then f.len / 24 else if f.desc.isSome then 1 else 0

/-- What becomes of a discarded frame's descriptor or channel (R518, R520). -/
def lostFrame (f : TmeFrame) (s : State) : State :=
  let s := match f.desc with
    | some i => descDone i 2 s
    | none => s
  if f.kind == 1 || f.kind == 4 then
    match tagMover f.tag with
    | some n => moverAnswer n false [] s
    | none => s
  else s

/-- Delivery to a node has failed: TME_FAIL, the failure source, and every frame for it discarded. -/
def tmeFailNode (n : BitVec 12) (s : State) : State :=
  let s := match s.tme.acc with
    | some (x, _) => if x == n then closeFrame s else s
    | none => s
  let p := tmePeer s n
  match p.out with
  | [] => s
  | f :: _ =>
    let fs := p.out ++ p.wait
    let s := setTmePeer { p with out := [], wait := [], tries := 0, failed := true, reset := true } s
    let s := countDrops (fs.foldl (fun k f => k + f.items) 0) (tmeFailed f s)
    let s := fs.foldl (fun s f => lostFrame f s) s
    tmeSettle (takeDescs 4096 s)

/-- TME_RETRANSMIT: RTO without progress: the frames from the oldest are sent again, or after RETRY attempts delivery has failed. -/
def tmeRetransmit (n : BitVec 12) (s : State) : State :=
  let p := tmePeer s n
  if !fabRuns s || !s.tme.en || p.out.isEmpty then s
  else if p.tries < max s.tme.retry.toNat 1 then setTmePeer { p with tries := p.tries + 1 } s
  else resumeCores (tmeFailNode n s)

/-- FRAME_CLOSE: 500 ns after the first record of the open frame (R517). -/
def frameClose (s : State) : State := if fabRuns s && s.tme.en then closeFrame s else s

/-! ### Register writes (R518, R521 to R523) -/

/-- A write of a TME register at an offset. -/
def tmeCommand (m : Master) (o : Nat) (v : W32) (s : State) : State := resumeCores (regCommand m (0x58_0000 + o) v s)

/-- QUIESCE: TME_CTL written with EN as it is. -/
def quiesceCommand (m : Master) (on : Bool) (s : State) : State :=
  tmeCommand m 0 ((if s.tme.en then 1 else 0) ||| (if on then 2 else 0)) s

end Sys2Proof.Machine
end

