-- ==== Sys2Proof/Machine/Dram.lean ====
section
/-!
DEFINITION. Machine/Dram.lean: the patrol scrubber and the DFI events of the DRAM controller (R527, R528, R530).
-/
namespace Sys2Proof.Machine

/-- A command on DRAM channel `c`, which the build must have (R6). -/
def onMc (c : McId) (s : State) (f : State → State) : Host.Outcome State Fault Refusal :=
  if s.hasMc c then .next (f s) else .fault .absentUnit

/-- State with a DRAM channel changed. -/
def State.modMc (s : State) (c : McId) (f : McChan → McChan) : State := { s with mc := s.mc.set c.val (f s.mc[c.val]) }

/-- PATROL_SCRUB of a line of a present, unretired rank (R530). `found`: nothing, a corrected error, or an uncorrectable one, which the
line keeps for its next reader. A poison pattern adds nothing (R343). -/
def patrolScrub (line : Nat) (found : Option Bool) (s : State) : State :=
  let c := (dramMap s (line * 64)).1
  let k := s.mc[c.val]
  if !fabRuns s || s.scrub == 0 || !dramServed s (line * 64) || k.training || k.selfref then s
  else if line ∈ s.pattern then s
  else if line ∈ s.dramUe || found == some true then dramUeFound line { s with dramUe := insertNew line s.dramUe }
  else if found == some false then dramCe (line * 64) s
  else s

/-- DFI_PHYMSTR: a request of the PHY is granted, or has ended. -/
def dfiPhymstr (c : McId) (req : Bool) (s : State) : State := s.modMc c (fun k => { k with phymstr := req })

/-- DFI_UPDATE. -/
def dfiUpdate (c : McId) (s : State) : State := s.modMc c (fun k => { k with updates := k.updates + 1 })

/-- DFI_ERROR: a corrected event against rank 0 of the channel. -/
def dfiError (c : McId) (s : State) : State :=
  tallyEvent 4 (c.val * 8) 0 false (s.modMc c (fun k => { k with cecnt := if k.cecnt = 0xFFFF then k.cecnt else k.cecnt + 1 }))

end Sys2Proof.Machine
end

