-- ==== Sys2Proof/Machine/PortRows.lean ====
section
/-!
DEFINITION. Machine/PortRows.lean: the meanings of the commands of the DRAM controller, the host ports, the TAP, the debug port and the ticks, each one call of the operation that the spec gives it.
-/
namespace Sys2Proof.Machine

/-- PATROL_SCRUB (R530). -/
def execPatrolScrub (line : Nat) (found : Option Bool) (s : State) : Host.Outcome State Fault Refusal := .next (patrolScrub line found s)

/-- DFI_PHYMSTR (R527). -/
def execDfiPhymstr (c : McId) (req : Bool) (s : State) : Host.Outcome State Fault Refusal := onMc c s (dfiPhymstr c req)

/-- DFI_UPDATE (R527). -/
def execDfiUpdate (c : McId) (s : State) : Host.Outcome State Fault Refusal := onMc c s (dfiUpdate c)

/-- DFI_ERROR (R527). -/
def execDfiError (c : McId) (s : State) : Host.Outcome State Fault Refusal := onMc c s (dfiError c)

/-- SS_READ (R563). -/
def execSsRead (id : BitVec 10) (addr : BitVec 53) (len : BitVec 2) (strb : Half) (badOp : Bool) (s : State) : Host.Outcome State Fault Refusal :=
  .next (ssReadCommand id addr len strb badOp s)

/-- SS_WRITE (R563). -/
def execSsWrite (id : BitVec 10) (addr : BitVec 53) (beats : List (BitVec 128 × Half)) (badOp : Bool) (s : State) : Host.Outcome State Fault Refusal :=
  .next (ssWriteCommand id addr beats badOp s)

/-- SM_RESPONSE (R562). -/
def execSmResponse (id : BitVec 10) (ok : Bool) (data : List (BitVec 128)) (s : State) : Host.Outcome State Fault Refusal :=
  .next (smResponse id ok data s)

/-- DBGACC (R576). -/
def execDbgacc (addr : BitVec 53) (write : Bool) (data : W32) (s : State) : Host.Outcome State Fault Refusal :=
  .next (dbgAccess addr write data s)

/-- IDCODE (R575). -/
def execIdcode (pins : W32) (s : State) : Host.Outcome State Fault Refusal := .next (idcodeCommand pins s)

/-- BYPASS (R575). -/
def execBypass (ir : BitVec 5) (s : State) : Host.Outcome State Fault Refusal := .next (bypassCommand ir s)

/-- TAP_RESET (R575). -/
def execTapReset (s : State) : Host.Outcome State Fault Refusal := .next (tapReset s)

/-- SYSTEM_COUNTER_TICK (R430). -/
def execSystemCounterTick (s : State) : Host.Outcome State Fault Refusal := .next (systemTick s)

/-- SLEEP_COUNTER_TICK (R431). -/
def execSleepCounterTick (s : State) : Host.Outcome State Fault Refusal := .next (sleepTick s)

/-- DBGACC_COMPLETION (R576). -/
def execDbgaccCompletion (s : State) : Host.Outcome State Fault Refusal := .next (dbgCompletion s)

end Sys2Proof.Machine
end

