-- ==== Sys2Proof/Machine/PowerRows.lean ====
section
/-!
DEFINITION. Machine/PowerRows.lean: the meanings of the commands of power, reset and start-up, each one call of the operation that the spec gives it.
-/
namespace Sys2Proof.Machine

/-- REGION_SLEEP_ENTRY (R545). -/
def execRegionSleepEntry (r : RegionId) (s : State) : Host.Outcome State Fault Refusal := .next (regionSleepEntry r s)

/-- REGION_WAKE (R546). -/
def execRegionWake (r : RegionId) (access : Bool) (s : State) : Host.Outcome State Fault Refusal := .next (regionWake r access s)

/-- COMPLEX_SLEEP_ENTRY (R548). -/
def execComplexSleepEntry (s : State) : Host.Outcome State Fault Refusal := .next (complexSleepEntry s)

/-- COMPLEX_WAKE (R549). -/
def execComplexWake (s : State) : Host.Outcome State Fault Refusal := .next (complexWake s)

/-- CLKACK_RISE (R541). -/
def execClkackRise (i : Fin 17) (s : State) : Host.Outcome State Fault Refusal := .next (clkAckRise i s)

/-- CLKACK_FALL (R540). -/
def execClkackFall (i : Fin 17) (s : State) : Host.Outcome State Fault Refusal := .next (clkAckFall i s)

/-- POR_ASSERT (R552). -/
def execPorAssert (s : State) : Host.Outcome State Fault Refusal := .next (porAssert s)

/-- SYSRST_ASSERT (R552). -/
def execSysrstAssert (s : State) : Host.Outcome State Fault Refusal := .next (sysrstAssert s)

/-- RESET_RELEASE (R553). -/
def execResetRelease (por : Bool) (strap : BitVec 12) (s : State) : Host.Outcome State Fault Refusal := .next (resetRelease por strap s)

/-- GARDENER_ROM_BOOT (R553). -/
def execGardenerRomBoot (s : State) : Host.Outcome State Fault Refusal := .next (romBoot s)

/-- FIRMWARE_LOAD (R490). -/
def execFirmwareLoad (s : State) : Host.Outcome State Fault Refusal := .next (firmwareLoad s)

/-- RECORD_RECOVERY (R482). -/
def execRecordRecovery (bad : List Nat) (s : State) : Host.Outcome State Fault Refusal := .next (recordRecovery bad s)

/-- GRAFT_START_APPLICATION (R280). -/
def execGraftStartApplication (s : State) : Host.Outcome State Fault Refusal := .next (graftStart s)

/-- DRAM_TRAINING (R553). -/
def execDramTraining (cfg : DramConfig) (failed : List McId) (s : State) : Host.Outcome State Fault Refusal :=
  .next (dramTraining cfg failed s)

/-- CORE_RELEASE (R555). -/
def execCoreRelease (boot : BitVec 53) (s : State) : Host.Outcome State Fault Refusal := .next (coreRelease boot s)

/-- NO_FLASH_NO_PEER (R30). -/
def execNoFlashNoPeer (s : State) : Host.Outcome State Fault Refusal := .next (noFlashNoPeer s)

/-- OVERLAY_PAGE_READ (R490). -/
def execOverlayPageRead (first : Bool) (second : Bool) (s : State) : Host.Outcome State Fault Refusal :=
  .next (overlayPageRead first second s)

/-- DOORBELL_CORE_START (R556). -/
def execDoorbellCoreStart (c : CoreId) (s : State) : Host.Outcome State Fault Refusal := onCore c s (doorbellStart c)

/-- KEY_VALID_RISE (R565). -/
def execKeyValidRise (vhash : BitVec 384) (dec : BitVec 256) (s : State) : Host.Outcome State Fault Refusal := .next (keyRise vhash dec s)

/-- KEY_VALID_FALL (R565). -/
def execKeyValidFall (s : State) : Host.Outcome State Fault Refusal := .next (keyFall s)

end Sys2Proof.Machine
end

