-- ==== Sys2Proof/Machine/SliceRows.lean ====
section
/-!
DEFINITION. Machine/SliceRows.lean: the meanings of the commands of slices and migration, each one call of the operation that the spec gives it.
-/
namespace Sys2Proof.Machine

/-- SLC_PIDINV (R442). -/
def execSlcPidinv (m : Master) (v : W32) (s : State) : Host.Outcome State Fault Refusal := .next (pidInvCommand m v s)

/-- SLICE_CREATE (R448). -/
def execSliceCreate (q : Fin 4) (s : State) : Host.Outcome State Fault Refusal := .next (gdnOp 0x0070 q sliceCreate s)

/-- SLICE_RESIZE (R447). -/
def execSliceResize (q : Fin 4) (s : State) : Host.Outcome State Fault Refusal := .next (gdnOp 0x0071 q sliceResize s)

/-- SLICE_DESTROY (R449). -/
def execSliceDestroy (q : Fin 4) (s : State) : Host.Outcome State Fault Refusal := .next (gdnOp 0x0072 q sliceDestroy s)

/-- MIGRATE_START (R454). -/
def execMigrateStart (q : Fin 4) (s : State) : Host.Outcome State Fault Refusal := .next (gdnOp 0x0073 q migrateStart s)

/-- MIGRATE_ROUND (R453). -/
def execMigrateRound (q : Fin 4) (s : State) : Host.Outcome State Fault Refusal := .next (gdnOp 0x0074 q migrateRound s)

/-- MIGRATE_FINAL (R455). -/
def execMigrateFinal (q : Fin 4) (s : State) : Host.Outcome State Fault Refusal := .next (migrateFinal q s)

/-- MIGRATE_FINAL_TIMEOUT (R455). -/
def execMigrateFinalTimeout (q : Fin 4) (s : State) : Host.Outcome State Fault Refusal := .next (migrateFinalTimeout q s)

/-- MIGRATE_ADOPT (R458). -/
def execMigrateAdopt (q : Fin 4) (s : State) : Host.Outcome State Fault Refusal := .next (gdnOp 0x0076 q migrateAdopt s)

end Sys2Proof.Machine
end

