-- ==== Sys2Proof/Machine/SpmRows.lean ====
section
/-!
DEFINITION. Machine/SpmRows.lean: the meanings of the commands of the scratchpad, the weeder and the bank movers, each one call of the operation that the spec gives it.
-/
namespace Sys2Proof.Machine

/-- SPM_BANK_OWNER_WRITE (R365). -/
def execSpmBankOwnerWrite (m : Master) (b : BankId) (v : W32) (s : State) : Host.Outcome State Fault Refusal :=
  onBank b s (bankOwnerCommand m b v)

/-- HANDOVER_DONE (R366). -/
def execHandoverDone (b : BankId) (s : State) : Host.Outcome State Fault Refusal := onBank b s (handoverDoneRow b)

/-- SPM_BANK_PWR_WRITE (R376). -/
def execSpmBankPwrWrite (m : Master) (b : BankId) (v : W32) (s : State) : Host.Outcome State Fault Refusal :=
  onBank b s (bankPwrCommand m b v)

/-- BANK_POWER_CHANGE_DONE (R376). -/
def execBankPowerChangeDone (b : BankId) (s : State) : Host.Outcome State Fault Refusal := onBank b s (bankPowerDone b)

/-- CORRECTION_WRITE_BACK (R361). -/
def execCorrectionWriteBack (b : BankId) (w : Fin 16384) (s : State) : Host.Outcome State Fault Refusal :=
  onBank b s (correctionWriteBack b w)

/-- WEEDER_STEAL (R373). -/
def execWeederSteal (found : List (BankId × Bool)) (s : State) : Host.Outcome State Fault Refusal := .next (weederSteal found s)

/-- SPM_MV_START (R382). -/
def execSpmMvStart (m : Master) (n : Fin 16) (s : State) : Host.Outcome State Fault Refusal := .next (mvStartCommand m n s)

/-- SPM_MV_ABORT (R387). -/
def execSpmMvAbort (m : Master) (n : Fin 16) (s : State) : Host.Outcome State Fault Refusal := .next (mvAbortCommand m n s)

/-- MOVER_BLOCK (R386). -/
def execMoverBlock (n : Fin 16) (s : State) : Host.Outcome State Fault Refusal := .next (moverBlock n s)

end Sys2Proof.Machine
end

