-- ==== Sys2Proof/Machine/StackRows.lean ====
section
/-!
DEFINITION. Machine/StackRows.lean: the meanings of the commands of the stack, literals, ILL and the reserved encodings, each one call of the operation that the spec gives it.
-/
namespace Sys2Proof.Machine

/-- NOP (R98). -/
def execNop (c : CoreId) (s : State) : Host.Outcome State Fault Refusal := execCore c .nop s

/-- DUP (R98). -/
def execDup (c : CoreId) (s : State) : Host.Outcome State Fault Refusal := execCore c (.stk .dup) s

/-- DROP (R98). -/
def execDrop (c : CoreId) (s : State) : Host.Outcome State Fault Refusal := execCore c (.stk .drop) s

/-- SWAP (R98). -/
def execSwap (c : CoreId) (s : State) : Host.Outcome State Fault Refusal := execCore c (.stk .swap) s

/-- OVER (R98). -/
def execOver (c : CoreId) (s : State) : Host.Outcome State Fault Refusal := execCore c (.stk .over) s

/-- ROT (R98). -/
def execRot (c : CoreId) (s : State) : Host.Outcome State Fault Refusal := execCore c (.stk .rot) s

/-- NROT (R98). -/
def execNrot (c : CoreId) (s : State) : Host.Outcome State Fault Refusal := execCore c (.stk .nrot) s

/-- NIP (R98). -/
def execNip (c : CoreId) (s : State) : Host.Outcome State Fault Refusal := execCore c (.stk .nip) s

/-- TUCK (R98). -/
def execTuck (c : CoreId) (s : State) : Host.Outcome State Fault Refusal := execCore c (.stk .tuck) s

/-- DUP2 (R98). -/
def execDup2 (c : CoreId) (s : State) : Host.Outcome State Fault Refusal := execCore c (.stk .dup2) s

/-- DROP2 (R98). -/
def execDrop2 (c : CoreId) (s : State) : Host.Outcome State Fault Refusal := execCore c (.stk .drop2) s

/-- SWAP2 (R98). -/
def execSwap2 (c : CoreId) (s : State) : Host.Outcome State Fault Refusal := execCore c (.stk .swap2) s

/-- OVER2 (R98). -/
def execOver2 (c : CoreId) (s : State) : Host.Outcome State Fault Refusal := execCore c (.stk .over2) s

/-- PICK (R99). -/
def execPick (c : CoreId) (k : Byte) (s : State) : Host.Outcome State Fault Refusal := execCore c (.pick k) s

/-- DEPTH (R99). -/
def execDepth (c : CoreId) (s : State) : Host.Outcome State Fault Refusal := execCore c .depth s

/-- ILL (R99). -/
def execIll (c : CoreId) (s : State) : Host.Outcome State Fault Refusal := execCore c .ill s

/-- RESERVED_ENCODING (R88). -/
def execReservedEncoding (c : CoreId) (bytes : List (Byte)) (s : State) : Host.Outcome State Fault Refusal := execCore c (.reserved bytes) s

/-- LIT_M1 (R100). -/
def execLitM1 (c : CoreId) (s : State) : Host.Outcome State Fault Refusal := execCore c .litM1 s

/-- LIT_0_TO_LIT_10 (R100). -/
def execLit0ToLit10 (c : CoreId) (k : Fin 11) (s : State) : Host.Outcome State Fault Refusal := execCore c (.lit k) s

/-- LIT8 (R100). -/
def execLit8 (c : CoreId) (imm : Byte) (s : State) : Host.Outcome State Fault Refusal := execCore c (.lit8 imm) s

/-- LIT16 (R100). -/
def execLit16 (c : CoreId) (imm : Half) (s : State) : Host.Outcome State Fault Refusal := execCore c (.lit16 imm) s

/-- LIT32 (R100). -/
def execLit32 (c : CoreId) (imm : W32) (s : State) : Host.Outcome State Fault Refusal := execCore c (.lit32 imm) s

/-- LIT64 (R100). -/
def execLit64 (c : CoreId) (imm : Word) (s : State) : Host.Outcome State Fault Refusal := execCore c (.lit64 imm) s

/-- LITPC (R100). -/
def execLitpc (c : CoreId) (d : W32) (s : State) : Host.Outcome State Fault Refusal := execCore c (.litpc d) s

end Sys2Proof.Machine
end

