-- ==== Sys2Proof/Machine/SystemRows.lean ====
section
/-!
DEFINITION. Machine/SystemRows.lean: the meanings of the commands of system instructions, fences, TLB and cache operations, block operations and repeats, each one call of the operation that the spec gives it.
-/
namespace Sys2Proof.Machine

/-- CRD (R51). -/
def execCrd (c : CoreId) (n : Half) (s : State) : Host.Outcome State Fault Refusal := execCore c (.crd n) s

/-- CWR (R54). -/
def execCwr (c : CoreId) (n : Half) (s : State) : Host.Outcome State Fault Refusal := execCore c (.cwr n) s

/-- SYSCALL (R127). -/
def execSyscall (c : CoreId) (code : Byte) (s : State) : Host.Outcome State Fault Refusal := execCore c (.syscall code) s

/-- HYPCALL (R127). -/
def execHypcall (c : CoreId) (code : Byte) (s : State) : Host.Outcome State Fault Refusal := execCore c (.hypcall code) s

/-- RETX (R305). -/
def execRetx (c : CoreId) (s : State) : Host.Outcome State Fault Refusal := execCore c .retx s

/-- WAIT (R128). -/
def execWait (c : CoreId) (s : State) : Host.Outcome State Fault Refusal := execCore c .wait s

/-- WAIT_END (R128). -/
def execWaitEnd (c : CoreId) (s : State) : Host.Outcome State Fault Refusal := onCore c s (waitEnd c)

/-- FENCE_O (R125). -/
def execFenceO (c : CoreId) (s : State) : Host.Outcome State Fault Refusal := execCore c .fenceO s

/-- FENCE_S (R125). -/
def execFenceS (c : CoreId) (s : State) : Host.Outcome State Fault Refusal := execCore c .fenceS s

/-- FENCE_I (R126). -/
def execFenceI (c : CoreId) (s : State) : Host.Outcome State Fault Refusal := execCore c .fenceI s

/-- TLBI_ALL (R336). -/
def execTlbiAll (c : CoreId) (s : State) : Host.Outcome State Fault Refusal := execCore c (.tlbi 0) s

/-- TLBI_BY_ADDRESS (R336). -/
def execTlbiByAddress (c : CoreId) (s : State) : Host.Outcome State Fault Refusal := execCore c (.tlbi 1) s

/-- TLBI_BY_PID (R336). -/
def execTlbiByPid (c : CoreId) (s : State) : Host.Outcome State Fault Refusal := execCore c (.tlbi 2) s

/-- TLBI_BY_ADDRESS_AND_PID (R336). -/
def execTlbiByAddressAndPid (c : CoreId) (s : State) : Host.Outcome State Fault Refusal := execCore c (.tlbi 3) s

/-- TLBI_STAGE2 (R336). -/
def execTlbiStage2 (c : CoreId) (s : State) : Host.Outcome State Fault Refusal := execCore c (.tlbi 4) s

/-- DC_CLEAN (R341). -/
def execDcClean (c : CoreId) (s : State) : Host.Outcome State Fault Refusal := execCore c (.cache 0) s

/-- DC_INV (R341). -/
def execDcInv (c : CoreId) (s : State) : Host.Outcome State Fault Refusal := execCore c (.cache 1) s

/-- DC_CLINV (R341). -/
def execDcClinv (c : CoreId) (s : State) : Host.Outcome State Fault Refusal := execCore c (.cache 2) s

/-- IC_INV (R341). -/
def execIcInv (c : CoreId) (s : State) : Host.Outcome State Fault Refusal := execCore c (.cache 3) s

/-- IC_INVALL (R341). -/
def execIcInvall (c : CoreId) (s : State) : Host.Outcome State Fault Refusal := execCore c (.cache 4) s

/-- L1_LOCK (R340). -/
def execL1Lock (c : CoreId) (s : State) : Host.Outcome State Fault Refusal := execCore c (.cache 5) s

/-- L2_LOCK (R340). -/
def execL2Lock (c : CoreId) (s : State) : Host.Outcome State Fault Refusal := execCore c (.cache 6) s

/-- UNLOCK (R340). -/
def execUnlock (c : CoreId) (s : State) : Host.Outcome State Fault Refusal := execCore c (.cache 7) s

/-- BRK (R127). -/
def execBrk (c : CoreId) (s : State) : Host.Outcome State Fault Refusal := execCore c .brk s

/-- MOVE (R131). -/
def execMove (c : CoreId) (units : Nat) (s : State) : Host.Outcome State Fault Refusal := execUnits c .move units s

/-- FILL (R131). -/
def execFill (c : CoreId) (units : Nat) (s : State) : Host.Outcome State Fault Refusal := execUnits c .fill units s

/-- CRC32 (R132). -/
def execCrc32 (c : CoreId) (units : Nat) (s : State) : Host.Outcome State Fault Refusal := execUnits c .crc32 units s

/-- CMPS (R131). -/
def execCmps (c : CoreId) (units : Nat) (s : State) : Host.Outcome State Fault Refusal := execUnits c .cmps units s

/-- XLAT (R133). -/
def execXlat (c : CoreId) (m : Byte) (s : State) : Host.Outcome State Fault Refusal := execCore c (.xlat m) s

/-- RPT (R79). -/
def execRpt (c : CoreId) (body : CoreOp) (iters : Nat) (s : State) : Host.Outcome State Fault Refusal := execRepeat c body none iters s

/-- RPTN (R81). -/
def execRptn (c : CoreId) (count : Byte) (body : CoreOp) (s : State) : Host.Outcome State Fault Refusal :=
  execRepeat c body (some count) 64 s

end Sys2Proof.Machine
end

