-- ==== Sys2Proof/Machine/TmeRows.lean ====
section
/-!
DEFINITION. Machine/TmeRows.lean: the meanings of the commands of the train message engine, each one call of the operation that the spec gives it.
-/
namespace Sys2Proof.Machine

/-- ACK (R515). -/
def execAck (raw : List (Byte)) (rxErr : Bool) (s : State) : Host.Outcome State Fault Refusal := .next (ackFrame raw rxErr s)

/-- WRITE (R516). -/
def execWrite (raw : List (Byte)) (rxErr : Bool) (s : State) : Host.Outcome State Fault Refusal := .next (writeFrame raw rxErr s)

/-- WRITE_REC (R516). -/
def execWriteRec (raw : List (Byte)) (rxErr : Bool) (s : State) : Host.Outcome State Fault Refusal := .next (writeRecFrame raw rxErr s)

/-- MSG (R519). -/
def execMsg (raw : List (Byte)) (rxErr : Bool) (s : State) : Host.Outcome State Fault Refusal := .next (msgFrame raw rxErr s)

/-- READ_REQ (R520). -/
def execReadReq (raw : List (Byte)) (rxErr : Bool) (s : State) : Host.Outcome State Fault Refusal := .next (readReqFrame raw rxErr s)

/-- READ_DATA (R520). -/
def execReadData (raw : List (Byte)) (rxErr : Bool) (s : State) : Host.Outcome State Fault Refusal := .next (readDataFrame raw rxErr s)

/-- TBX_REQ (R522). -/
def execTbxReq (raw : List (Byte)) (rxErr : Bool) (s : State) : Host.Outcome State Fault Refusal := .next (tbxReqFrame raw rxErr s)

/-- TBX_RSP (R522). -/
def execTbxRsp (raw : List (Byte)) (rxErr : Bool) (s : State) : Host.Outcome State Fault Refusal := .next (tbxRspFrame raw rxErr s)

/-- TME_RETRANSMIT (R515). -/
def execTmeRetransmit (node : BitVec 12) (s : State) : Host.Outcome State Fault Refusal := .next (tmeRetransmit node s)

/-- FRAME_CLOSE (R517). -/
def execFrameClose (s : State) : Host.Outcome State Fault Refusal := .next (frameClose s)

/-- TME_TXTAIL_WRITE (R518). -/
def execTmeTxtailWrite (m : Master) (v : W32) (s : State) : Host.Outcome State Fault Refusal := .next (tmeCommand m 0x30 v s)

/-- QUIESCE (R521). -/
def execQuiesce (m : Master) (on : Bool) (s : State) : Host.Outcome State Fault Refusal := .next (quiesceCommand m on s)

/-- TME_FAIL_CLR (R515). -/
def execTmeFailClr (m : Master) (node : BitVec 12) (s : State) : Host.Outcome State Fault Refusal :=
  .next (tmeCommand m 0x6C (node.setWidth 32) s)

/-- TBX_START (R522). -/
def execTbxStart (m : Master) (node : BitVec 12) (s : State) : Host.Outcome State Fault Refusal :=
  .next (tmeCommand m 0x80 (node.setWidth 32 ||| 0x1_0000) s)

/-- TBX_TIMEOUT (R522). -/
def execTbxTimeout (s : State) : Host.Outcome State Fault Refusal := .next (tbxTimeout s)

/-- RESERVED_KIND_FRAME (R514). -/
def execReservedKindFrame (raw : List (Byte)) (rxErr : Bool) (s : State) : Host.Outcome State Fault Refusal :=
  .next (reservedFrame raw rxErr s)

end Sys2Proof.Machine
end

