-- ==== Sys2Proof/Machine/UnitRows.lean ====
section
/-!
DEFINITION. Machine/UnitRows.lean: the meanings of the commands of what a core does apart from its instructions, and register writes, each one call of the operation that the spec gives it.
-/
namespace Sys2Proof.Machine

/-- TABLE_WALK (R331). -/
def execTableWalk (c : CoreId) (u : WalkFor) (va : Word) (bytes : List (Byte)) (s : State) : Host.Outcome State Fault Refusal :=
  onCore c s (tableWalk c u va bytes)

/-- OPERAND_SPILL (R155). -/
def execOperandSpill (c : CoreId) (s : State) : Host.Outcome State Fault Refusal := onCore c s (barrowRow c false false)

/-- OPERAND_REFILL (R155). -/
def execOperandRefill (c : CoreId) (s : State) : Host.Outcome State Fault Refusal := onCore c s (barrowRow c false true)

/-- RETURN_SPILL (R155). -/
def execReturnSpill (c : CoreId) (s : State) : Host.Outcome State Fault Refusal := onCore c s (barrowRow c true false)

/-- RETURN_REFILL (R155). -/
def execReturnRefill (c : CoreId) (s : State) : Host.Outcome State Fault Refusal := onCore c s (barrowRow c true true)

/-- EVENT_ENTRY (R300). -/
def execEventEntry (c : CoreId) (s : State) : Host.Outcome State Fault Refusal := onCore c s (eventEntry c)

/-- TRIPLE_FAULT (R308). -/
def execTripleFault (c : CoreId) (s : State) : Host.Outcome State Fault Refusal := onCore c s (tripleFault c)

/-- MICROCODE_TIMEOUT (R267). -/
def execMicrocodeTimeout (c : CoreId) (s : State) : Host.Outcome State Fault Refusal := onCore c s (microcodeTimeout c)

/-- WORD_REPAIR (R270). -/
def execWordRepair (k : ClusterId) (table : Bool) (idx : Nat) (s : State) : Host.Outcome State Fault Refusal :=
  onCluster k s (wordRepair k table idx)

/-- CHECK_PORT_SCAN (R272). -/
def execCheckPortScan (k : ClusterId) (bad : List (Bool × Nat)) (s : State) : Host.Outcome State Fault Refusal :=
  onCluster k s (checkPortScan k bad)

/-- DEBUG_HALT (R317). -/
def execDebugHalt (c : CoreId) (s : State) : Host.Outcome State Fault Refusal := onCore c s (debugHalt c)

/-- HALTREQ (R317). -/
def execHaltreq (m : Master) (c : CoreId) (v : W32) (s : State) : Host.Outcome State Fault Refusal := onCore c s (dbgctlCommand m c 0x100 v)

/-- RESUME (R317). -/
def execResume (m : Master) (c : CoreId) (v : W32) (s : State) : Host.Outcome State Fault Refusal := onCore c s (dbgctlCommand m c 0x200 v)

/-- STEP (R317). -/
def execStep (m : Master) (c : CoreId) (v : W32) (s : State) : Host.Outcome State Fault Refusal := onCore c s (dbgctlCommand m c 0x400 v)

/-- REGISTER_WRITE (R10). -/
def execRegisterWrite (m : Master) (r : RegRef) (v : Word) (s : State) : Host.Outcome State Fault Refusal := registerWrite m r v s

end Sys2Proof.Machine
end

