-- ==== Sys2Proof/Machine/VectorRows.lean ====
section
/-!
DEFINITION. Machine/VectorRows.lean: the meanings of the commands of the vector page, each one call of the operation that the spec gives it.
-/
namespace Sys2Proof.Machine

/-- VADD (R202). -/
def execVadd (c : CoreId) (t : Byte) (m : Option (Byte)) (s : State) : Host.Outcome State Fault Refusal := execCore c (.vec .vadd t m) s

/-- VSUB (R202). -/
def execVsub (c : CoreId) (t : Byte) (m : Option (Byte)) (s : State) : Host.Outcome State Fault Refusal := execCore c (.vec .vsub t m) s

/-- VMUL (R202). -/
def execVmul (c : CoreId) (t : Byte) (m : Option (Byte)) (s : State) : Host.Outcome State Fault Refusal := execCore c (.vec .vmul t m) s

/-- VMULH (R202). -/
def execVmulh (c : CoreId) (t : Byte) (m : Option (Byte)) (s : State) : Host.Outcome State Fault Refusal := execCore c (.vec .vmulh t m) s

/-- VFMA (R202). -/
def execVfma (c : CoreId) (t : Byte) (m : Option (Byte)) (s : State) : Host.Outcome State Fault Refusal := execCore c (.vec .vfma t m) s

/-- VFMS (R202). -/
def execVfms (c : CoreId) (t : Byte) (m : Option (Byte)) (s : State) : Host.Outcome State Fault Refusal := execCore c (.vec .vfms t m) s

/-- VDIV (R202). -/
def execVdiv (c : CoreId) (t : Byte) (m : Option (Byte)) (s : State) : Host.Outcome State Fault Refusal := execCore c (.vec .vdiv t m) s

/-- VSQRT (R202). -/
def execVsqrt (c : CoreId) (t : Byte) (m : Option (Byte)) (s : State) : Host.Outcome State Fault Refusal := execCore c (.vec .vsqrt t m) s

/-- VMIN (R202). -/
def execVmin (c : CoreId) (t : Byte) (m : Option (Byte)) (s : State) : Host.Outcome State Fault Refusal := execCore c (.vec .vmin t m) s

/-- VMAX (R202). -/
def execVmax (c : CoreId) (t : Byte) (m : Option (Byte)) (s : State) : Host.Outcome State Fault Refusal := execCore c (.vec .vmax t m) s

/-- VABS (R202). -/
def execVabs (c : CoreId) (t : Byte) (m : Option (Byte)) (s : State) : Host.Outcome State Fault Refusal := execCore c (.vec .vabs t m) s

/-- VNEG (R202). -/
def execVneg (c : CoreId) (t : Byte) (m : Option (Byte)) (s : State) : Host.Outcome State Fault Refusal := execCore c (.vec .vneg t m) s

/-- VAND (R203). -/
def execVand (c : CoreId) (t : Byte) (m : Option (Byte)) (s : State) : Host.Outcome State Fault Refusal := execCore c (.vec .vand t m) s

/-- VOR (R203). -/
def execVor (c : CoreId) (t : Byte) (m : Option (Byte)) (s : State) : Host.Outcome State Fault Refusal := execCore c (.vec .vor t m) s

/-- VXOR (R203). -/
def execVxor (c : CoreId) (t : Byte) (m : Option (Byte)) (s : State) : Host.Outcome State Fault Refusal := execCore c (.vec .vxor t m) s

/-- VNOT (R203). -/
def execVnot (c : CoreId) (t : Byte) (m : Option (Byte)) (s : State) : Host.Outcome State Fault Refusal := execCore c (.vec .vnot t m) s

/-- VSHL (R203). -/
def execVshl (c : CoreId) (t : Byte) (m : Option (Byte)) (s : State) : Host.Outcome State Fault Refusal := execCore c (.vec .vshl t m) s

/-- VSHR (R203). -/
def execVshr (c : CoreId) (t : Byte) (m : Option (Byte)) (s : State) : Host.Outcome State Fault Refusal := execCore c (.vec .vshr t m) s

/-- VSAR (R203). -/
def execVsar (c : CoreId) (t : Byte) (m : Option (Byte)) (s : State) : Host.Outcome State Fault Refusal := execCore c (.vec .vsar t m) s

/-- VSHLS (R203). -/
def execVshls (c : CoreId) (t : Byte) (m : Option (Byte)) (s : State) : Host.Outcome State Fault Refusal := execCore c (.vec .vshls t m) s

/-- VSHRS (R203). -/
def execVshrs (c : CoreId) (t : Byte) (m : Option (Byte)) (s : State) : Host.Outcome State Fault Refusal := execCore c (.vec .vshrs t m) s

/-- VSARS (R203). -/
def execVsars (c : CoreId) (t : Byte) (m : Option (Byte)) (s : State) : Host.Outcome State Fault Refusal := execCore c (.vec .vsars t m) s

/-- VCMP_EQ (R194). -/
def execVcmpEq (c : CoreId) (t : Byte) (m : Option (Byte)) (s : State) : Host.Outcome State Fault Refusal := execCore c (.vec .vcmpEq t m) s

/-- VCMP_NE (R194). -/
def execVcmpNe (c : CoreId) (t : Byte) (m : Option (Byte)) (s : State) : Host.Outcome State Fault Refusal := execCore c (.vec .vcmpNe t m) s

/-- VCMP_LT (R194). -/
def execVcmpLt (c : CoreId) (t : Byte) (m : Option (Byte)) (s : State) : Host.Outcome State Fault Refusal := execCore c (.vec .vcmpLt t m) s

/-- VCMP_LE (R194). -/
def execVcmpLe (c : CoreId) (t : Byte) (m : Option (Byte)) (s : State) : Host.Outcome State Fault Refusal := execCore c (.vec .vcmpLe t m) s

/-- VCMP_GT (R194). -/
def execVcmpGt (c : CoreId) (t : Byte) (m : Option (Byte)) (s : State) : Host.Outcome State Fault Refusal := execCore c (.vec .vcmpGt t m) s

/-- VCMP_GE (R194). -/
def execVcmpGe (c : CoreId) (t : Byte) (m : Option (Byte)) (s : State) : Host.Outcome State Fault Refusal := execCore c (.vec .vcmpGe t m) s

/-- VCMP_UN (R194). -/
def execVcmpUn (c : CoreId) (t : Byte) (m : Option (Byte)) (s : State) : Host.Outcome State Fault Refusal := execCore c (.vec .vcmpUn t m) s

/-- MTAIL (R194). -/
def execMtail (c : CoreId) (t : Byte) (m : Option (Byte)) (s : State) : Host.Outcome State Fault Refusal := execCore c (.vec .mtail t m) s

/-- MAND (R194). -/
def execMand (c : CoreId) (t : Byte) (m : Option (Byte)) (s : State) : Host.Outcome State Fault Refusal := execCore c (.vec .mand t m) s

/-- MOR (R194). -/
def execMor (c : CoreId) (t : Byte) (m : Option (Byte)) (s : State) : Host.Outcome State Fault Refusal := execCore c (.vec .mor t m) s

/-- MXOR (R194). -/
def execMxor (c : CoreId) (t : Byte) (m : Option (Byte)) (s : State) : Host.Outcome State Fault Refusal := execCore c (.vec .mxor t m) s

/-- MANDN (R194). -/
def execMandn (c : CoreId) (t : Byte) (m : Option (Byte)) (s : State) : Host.Outcome State Fault Refusal := execCore c (.vec .mandn t m) s

/-- MPOP (R194). -/
def execMpop (c : CoreId) (t : Byte) (m : Option (Byte)) (s : State) : Host.Outcome State Fault Refusal := execCore c (.vec .mpop t m) s

/-- MMOV (R194). -/
def execMmov (c : CoreId) (t : Byte) (m : Option (Byte)) (s : State) : Host.Outcome State Fault Refusal := execCore c (.vec .mmov t m) s

/-- MRD (R194). -/
def execMrd (c : CoreId) (t : Byte) (m : Option (Byte)) (s : State) : Host.Outcome State Fault Refusal := execCore c (.vec .mrd t m) s

/-- MWR (R194). -/
def execMwr (c : CoreId) (t : Byte) (m : Option (Byte)) (s : State) : Host.Outcome State Fault Refusal := execCore c (.vec .mwr t m) s

/-- VCVT (R205). -/
def execVcvt (c : CoreId) (t : Byte) (m : Option (Byte)) (s : State) : Host.Outcome State Fault Refusal := execCore c (.vec .vcvt t m) s

/-- VBCAST (R204). -/
def execVbcast (c : CoreId) (t : Byte) (m : Option (Byte)) (s : State) : Host.Outcome State Fault Refusal := execCore c (.vec .vbcast t m) s

/-- VPERM (R204). -/
def execVperm (c : CoreId) (t : Byte) (m : Option (Byte)) (s : State) : Host.Outcome State Fault Refusal := execCore c (.vec .vperm t m) s

/-- VSLIDEUP (R204). -/
def execVslideup (c : CoreId) (t : Byte) (m : Option (Byte)) (s : State) : Host.Outcome State Fault Refusal :=
  execCore c (.vec .vslideup t m) s

/-- VSLIDEDN (R204). -/
def execVslidedn (c : CoreId) (t : Byte) (m : Option (Byte)) (s : State) : Host.Outcome State Fault Refusal :=
  execCore c (.vec .vslidedn t m) s

/-- VZIPLO (R204). -/
def execVziplo (c : CoreId) (t : Byte) (m : Option (Byte)) (s : State) : Host.Outcome State Fault Refusal := execCore c (.vec .vziplo t m) s

/-- VZIPHI (R204). -/
def execVziphi (c : CoreId) (t : Byte) (m : Option (Byte)) (s : State) : Host.Outcome State Fault Refusal := execCore c (.vec .vziphi t m) s

/-- VCOMPRESS (R204). -/
def execVcompress (c : CoreId) (t : Byte) (m : Option (Byte)) (s : State) : Host.Outcome State Fault Refusal :=
  execCore c (.vec .vcompress t m) s

/-- VEXTR (R204). -/
def execVextr (c : CoreId) (t : Byte) (m : Option (Byte)) (s : State) : Host.Outcome State Fault Refusal := execCore c (.vec .vextr t m) s

/-- VINS (R204). -/
def execVins (c : CoreId) (t : Byte) (m : Option (Byte)) (s : State) : Host.Outcome State Fault Refusal := execCore c (.vec .vins t m) s

/-- VREDADD (R206). -/
def execVredadd (c : CoreId) (t : Byte) (m : Option (Byte)) (s : State) : Host.Outcome State Fault Refusal :=
  execCore c (.vec .vredadd t m) s

/-- VREDMIN (R206). -/
def execVredmin (c : CoreId) (t : Byte) (m : Option (Byte)) (s : State) : Host.Outcome State Fault Refusal :=
  execCore c (.vec .vredmin t m) s

/-- VREDMAX (R206). -/
def execVredmax (c : CoreId) (t : Byte) (m : Option (Byte)) (s : State) : Host.Outcome State Fault Refusal :=
  execCore c (.vec .vredmax t m) s

/-- VREDAND (R206). -/
def execVredand (c : CoreId) (t : Byte) (m : Option (Byte)) (s : State) : Host.Outcome State Fault Refusal :=
  execCore c (.vec .vredand t m) s

/-- VREDOR (R206). -/
def execVredor (c : CoreId) (t : Byte) (m : Option (Byte)) (s : State) : Host.Outcome State Fault Refusal := execCore c (.vec .vredor t m) s

/-- VREDXOR (R206). -/
def execVredxor (c : CoreId) (t : Byte) (m : Option (Byte)) (s : State) : Host.Outcome State Fault Refusal :=
  execCore c (.vec .vredxor t m) s

/-- VDOT (R206). -/
def execVdot (c : CoreId) (t : Byte) (m : Option (Byte)) (s : State) : Host.Outcome State Fault Refusal := execCore c (.vec .vdot t m) s

/-- VLD (R207). -/
def execVld (c : CoreId) (t : Byte) (m : Option (Byte)) (s : State) : Host.Outcome State Fault Refusal := execCore c (.vec .vld t m) s

/-- VST (R207). -/
def execVst (c : CoreId) (t : Byte) (m : Option (Byte)) (s : State) : Host.Outcome State Fault Refusal := execCore c (.vec .vst t m) s

/-- VLDS (R207). -/
def execVlds (c : CoreId) (t : Byte) (m : Option (Byte)) (s : State) : Host.Outcome State Fault Refusal := execCore c (.vec .vlds t m) s

/-- VSTS (R207). -/
def execVsts (c : CoreId) (t : Byte) (m : Option (Byte)) (s : State) : Host.Outcome State Fault Refusal := execCore c (.vec .vsts t m) s

/-- VLDX (R208). -/
def execVldx (c : CoreId) (t : Byte) (m : Option (Byte)) (s : State) : Host.Outcome State Fault Refusal := execCore c (.vec .vldx t m) s

/-- VSTX (R208). -/
def execVstx (c : CoreId) (t : Byte) (m : Option (Byte)) (s : State) : Host.Outcome State Fault Refusal := execCore c (.vec .vstx t m) s

/-- VLDY (R208). -/
def execVldy (c : CoreId) (t : Byte) (m : Option (Byte)) (s : State) : Host.Outcome State Fault Refusal := execCore c (.vec .vldy t m) s

/-- VSTY (R208). -/
def execVsty (c : CoreId) (t : Byte) (m : Option (Byte)) (s : State) : Host.Outcome State Fault Refusal := execCore c (.vec .vsty t m) s

/-- VGATHER (R207). -/
def execVgather (c : CoreId) (t : Byte) (m : Option (Byte)) (s : State) : Host.Outcome State Fault Refusal :=
  execCore c (.vec .vgather t m) s

/-- VSCATTER (R207). -/
def execVscatter (c : CoreId) (t : Byte) (m : Option (Byte)) (s : State) : Host.Outcome State Fault Refusal :=
  execCore c (.vec .vscatter t m) s

end Sys2Proof.Machine
end

