-- ==== Sys2Proof/Machine/Dispatch.lean ====
section
/-!
DEFINITION. Machine/Dispatch.lean: each command's meaning.
-/
namespace Sys2Proof.Machine

/-- The effect of a command on everything but the queue. -/
def exec (i : Instr) (s : State) : Host.Outcome State Fault Refusal :=
  match i with
  | .nop c => Sys2Proof.Machine.execNop c s
  | .dup c => Sys2Proof.Machine.execDup c s
  | .drop c => Sys2Proof.Machine.execDrop c s
  | .swap c => Sys2Proof.Machine.execSwap c s
  | .over c => Sys2Proof.Machine.execOver c s
  | .rot c => Sys2Proof.Machine.execRot c s
  | .nrot c => Sys2Proof.Machine.execNrot c s
  | .nip c => Sys2Proof.Machine.execNip c s
  | .tuck c => Sys2Proof.Machine.execTuck c s
  | .dup2 c => Sys2Proof.Machine.execDup2 c s
  | .drop2 c => Sys2Proof.Machine.execDrop2 c s
  | .swap2 c => Sys2Proof.Machine.execSwap2 c s
  | .over2 c => Sys2Proof.Machine.execOver2 c s
  | .pick c k => Sys2Proof.Machine.execPick c k s
  | .depth c => Sys2Proof.Machine.execDepth c s
  | .ill c => Sys2Proof.Machine.execIll c s
  | .reservedEncoding c bytes => Sys2Proof.Machine.execReservedEncoding c bytes s
  | .litM1 c => Sys2Proof.Machine.execLitM1 c s
  | .lit0ToLit10 c k => Sys2Proof.Machine.execLit0ToLit10 c k s
  | .lit8 c imm => Sys2Proof.Machine.execLit8 c imm s
  | .lit16 c imm => Sys2Proof.Machine.execLit16 c imm s
  | .lit32 c imm => Sys2Proof.Machine.execLit32 c imm s
  | .lit64 c imm => Sys2Proof.Machine.execLit64 c imm s
  | .litpc c d => Sys2Proof.Machine.execLitpc c d s
  | .add c => Sys2Proof.Machine.execAdd c s
  | .sub c => Sys2Proof.Machine.execSub c s
  | .neg c => Sys2Proof.Machine.execNeg c s
  | .inc c => Sys2Proof.Machine.execInc c s
  | .dec c => Sys2Proof.Machine.execDec c s
  | .addi8 c imm => Sys2Proof.Machine.execAddi8 c imm s
  | .addi32 c imm => Sys2Proof.Machine.execAddi32 c imm s
  | .mul c => Sys2Proof.Machine.execMul c s
  | .mulhs c => Sys2Proof.Machine.execMulhs c s
  | .mulhu c => Sys2Proof.Machine.execMulhu c s
  | .divs c => Sys2Proof.Machine.execDivs c s
  | .divu c => Sys2Proof.Machine.execDivu c s
  | .rems c => Sys2Proof.Machine.execRems c s
  | .remu c => Sys2Proof.Machine.execRemu c s
  | .min c => Sys2Proof.Machine.execMin c s
  | .max c => Sys2Proof.Machine.execMax c s
  | .abs c => Sys2Proof.Machine.execAbs c s
  | .and c => Sys2Proof.Machine.execAnd c s
  | .or c => Sys2Proof.Machine.execOr c s
  | .xor c => Sys2Proof.Machine.execXor c s
  | .not c => Sys2Proof.Machine.execNot c s
  | .shl c => Sys2Proof.Machine.execShl c s
  | .shr c => Sys2Proof.Machine.execShr c s
  | .sar c => Sys2Proof.Machine.execSar c s
  | .rol c => Sys2Proof.Machine.execRol c s
  | .shli c b => Sys2Proof.Machine.execShli c b s
  | .shri c b => Sys2Proof.Machine.execShri c b s
  | .sari c b => Sys2Proof.Machine.execSari c b s
  | .extu c p l => Sys2Proof.Machine.execExtu c p l s
  | .exts c p l => Sys2Proof.Machine.execExts c p l s
  | .ins c p l => Sys2Proof.Machine.execIns c p l s
  | .clz c => Sys2Proof.Machine.execClz c s
  | .popc c => Sys2Proof.Machine.execPopc c s
  | .sx8 c => Sys2Proof.Machine.execSx8 c s
  | .sx16 c => Sys2Proof.Machine.execSx16 c s
  | .sx32 c => Sys2Proof.Machine.execSx32 c s
  | .zx8 c => Sys2Proof.Machine.execZx8 c s
  | .zx16 c => Sys2Proof.Machine.execZx16 c s
  | .zx32 c => Sys2Proof.Machine.execZx32 c s
  | .bswap c => Sys2Proof.Machine.execBswap c s
  | .ctz c => Sys2Proof.Machine.execCtz c s
  | .ror c => Sys2Proof.Machine.execRor c s
  | .bitrev c => Sys2Proof.Machine.execBitrev c s
  | .sel c => Sys2Proof.Machine.execSel c s
  | .bset c b => Sys2Proof.Machine.execBset c b s
  | .bclr c b => Sys2Proof.Machine.execBclr c b s
  | .btst c b => Sys2Proof.Machine.execBtst c b s
  | .rori c b => Sys2Proof.Machine.execRori c b s
  | .andi32 c imm => Sys2Proof.Machine.execAndi32 c imm s
  | .ld8u c => Sys2Proof.Machine.execLd8u c s
  | .ld8s c => Sys2Proof.Machine.execLd8s c s
  | .ld16u c => Sys2Proof.Machine.execLd16u c s
  | .ld16s c => Sys2Proof.Machine.execLd16s c s
  | .ld32u c => Sys2Proof.Machine.execLd32u c s
  | .ld32s c => Sys2Proof.Machine.execLd32s c s
  | .ld64 c => Sys2Proof.Machine.execLd64 c s
  | .ldx16s c => Sys2Proof.Machine.execLdx16s c s
  | .ldy16s c => Sys2Proof.Machine.execLdy16s c s
  | .ldx c m => Sys2Proof.Machine.execLdx c m s
  | .ldy c m => Sys2Proof.Machine.execLdy c m s
  | .ldd8 c m d => Sys2Proof.Machine.execLdd8 c m d s
  | .ldd16 c m d => Sys2Proof.Machine.execLdd16 c m d s
  | .ldpc c m d => Sys2Proof.Machine.execLdpc c m d s
  | .lda64 c a => Sys2Proof.Machine.execLda64 c a s
  | .loadDataReturn c r => Sys2Proof.Machine.execLoadDataReturn c r s
  | .ldl c k => Sys2Proof.Machine.execLdl c k s
  | .stl c k => Sys2Proof.Machine.execStl c k s
  | .st8 c => Sys2Proof.Machine.execSt8 c s
  | .st16 c => Sys2Proof.Machine.execSt16 c s
  | .st32 c => Sys2Proof.Machine.execSt32 c s
  | .st64 c => Sys2Proof.Machine.execSt64 c s
  | .stx16 c => Sys2Proof.Machine.execStx16 c s
  | .sty16 c => Sys2Proof.Machine.execSty16 c s
  | .stx c m => Sys2Proof.Machine.execStx c m s
  | .sty c m => Sys2Proof.Machine.execSty c m s
  | .std8 c m d => Sys2Proof.Machine.execStd8 c m d s
  | .std16 c m d => Sys2Proof.Machine.execStd16 c m d s
  | .stpc c m d => Sys2Proof.Machine.execStpc c m d s
  | .storeBufferDrain c => Sys2Proof.Machine.execStoreBufferDrain c s
  | .bEq c d => Sys2Proof.Machine.execBEq c d s
  | .bNe c d => Sys2Proof.Machine.execBNe c d s
  | .bLt c d => Sys2Proof.Machine.execBLt c d s
  | .bGe c d => Sys2Proof.Machine.execBGe c d s
  | .bLtu c d => Sys2Proof.Machine.execBLtu c d s
  | .bGeu c d => Sys2Proof.Machine.execBGeu c d s
  | .bz c d => Sys2Proof.Machine.execBz c d s
  | .bnz c d => Sys2Proof.Machine.execBnz c d s
  | .bltz c d => Sys2Proof.Machine.execBltz c d s
  | .bgez c d => Sys2Proof.Machine.execBgez c d s
  | .bgtz c d => Sys2Proof.Machine.execBgtz c d s
  | .blez c d => Sys2Proof.Machine.execBlez c d s
  | .br c d => Sys2Proof.Machine.execBr c d s
  | .bEqW c d => Sys2Proof.Machine.execBEqW c d s
  | .bNeW c d => Sys2Proof.Machine.execBNeW c d s
  | .bLtW c d => Sys2Proof.Machine.execBLtW c d s
  | .bGeW c d => Sys2Proof.Machine.execBGeW c d s
  | .bLtuW c d => Sys2Proof.Machine.execBLtuW c d s
  | .bGeuW c d => Sys2Proof.Machine.execBGeuW c d s
  | .bzW c d => Sys2Proof.Machine.execBzW c d s
  | .bnzW c d => Sys2Proof.Machine.execBnzW c d s
  | .bltzW c d => Sys2Proof.Machine.execBltzW c d s
  | .bgezW c d => Sys2Proof.Machine.execBgezW c d s
  | .bgtzW c d => Sys2Proof.Machine.execBgtzW c d s
  | .blezW c d => Sys2Proof.Machine.execBlezW c d s
  | .brW c d => Sys2Proof.Machine.execBrW c d s
  | .doLoop c d => Sys2Proof.Machine.execDoLoop c d s
  | .doW c d => Sys2Proof.Machine.execDoW c d s
  | .loop c => Sys2Proof.Machine.execLoop c s
  | .leave c => Sys2Proof.Machine.execLeave c s
  | .call c n d => Sys2Proof.Machine.execCall c n d s
  | .callL c n d => Sys2Proof.Machine.execCallL c n d s
  | .calli c n => Sys2Proof.Machine.execCalli c n s
  | .ret0 c => Sys2Proof.Machine.execRet0 c s
  | .ret1 c => Sys2Proof.Machine.execRet1 c s
  | .ret2 c => Sys2Proof.Machine.execRet2 c s
  | .ret c m => Sys2Proof.Machine.execRet c m s
  | .jmpL c d => Sys2Proof.Machine.execJmpL c d s
  | .jmpi c => Sys2Proof.Machine.execJmpi c s
  | .jmpa c a => Sys2Proof.Machine.execJmpa c a s
  | .cas32 c => Sys2Proof.Machine.execCas32 c s
  | .cas64 c => Sys2Proof.Machine.execCas64 c s
  | .xchg32 c => Sys2Proof.Machine.execXchg32 c s
  | .xchg64 c => Sys2Proof.Machine.execXchg64 c s
  | .xadd32 c => Sys2Proof.Machine.execXadd32 c s
  | .xadd64 c => Sys2Proof.Machine.execXadd64 c s
  | .crd c n => Sys2Proof.Machine.execCrd c n s
  | .cwr c n => Sys2Proof.Machine.execCwr c n s
  | .syscall c code => Sys2Proof.Machine.execSyscall c code s
  | .hypcall c code => Sys2Proof.Machine.execHypcall c code s
  | .retx c => Sys2Proof.Machine.execRetx c s
  | .wait c => Sys2Proof.Machine.execWait c s
  | .waitEnd c => Sys2Proof.Machine.execWaitEnd c s
  | .fenceO c => Sys2Proof.Machine.execFenceO c s
  | .fenceS c => Sys2Proof.Machine.execFenceS c s
  | .fenceI c => Sys2Proof.Machine.execFenceI c s
  | .tlbiAll c => Sys2Proof.Machine.execTlbiAll c s
  | .tlbiByAddress c => Sys2Proof.Machine.execTlbiByAddress c s
  | .tlbiByPid c => Sys2Proof.Machine.execTlbiByPid c s
  | .tlbiByAddressAndPid c => Sys2Proof.Machine.execTlbiByAddressAndPid c s
  | .tlbiStage2 c => Sys2Proof.Machine.execTlbiStage2 c s
  | .dcClean c => Sys2Proof.Machine.execDcClean c s
  | .dcInv c => Sys2Proof.Machine.execDcInv c s
  | .dcClinv c => Sys2Proof.Machine.execDcClinv c s
  | .icInv c => Sys2Proof.Machine.execIcInv c s
  | .icInvall c => Sys2Proof.Machine.execIcInvall c s
  | .l1Lock c => Sys2Proof.Machine.execL1Lock c s
  | .l2Lock c => Sys2Proof.Machine.execL2Lock c s
  | .unlock c => Sys2Proof.Machine.execUnlock c s
  | .brk c => Sys2Proof.Machine.execBrk c s
  | .move c units => Sys2Proof.Machine.execMove c units s
  | .fill c units => Sys2Proof.Machine.execFill c units s
  | .crc32 c units => Sys2Proof.Machine.execCrc32 c units s
  | .cmps c units => Sys2Proof.Machine.execCmps c units s
  | .xlat c m => Sys2Proof.Machine.execXlat c m s
  | .rpt c body iters => Sys2Proof.Machine.execRpt c body iters s
  | .rptn c count body => Sys2Proof.Machine.execRptn c count body s
  | .tclr c x => Sys2Proof.Machine.execTclr c x s
  | .tmac c x => Sys2Proof.Machine.execTmac c x s
  | .tmsu c x => Sys2Proof.Machine.execTmsu c x s
  | .trd c x => Sys2Proof.Machine.execTrd c x s
  | .tshl c x => Sys2Proof.Machine.execTshl c x s
  | .tshr c x => Sys2Proof.Machine.execTshr c x s
  | .tmov c x => Sys2Proof.Machine.execTmov c x s
  | .tld c x => Sys2Proof.Machine.execTld c x s
  | .qmul c x => Sys2Proof.Machine.execQmul c x s
  | .qadd c x => Sys2Proof.Machine.execQadd c x s
  | .qsub c x => Sys2Proof.Machine.execQsub c x s
  | .qneg c x => Sys2Proof.Machine.execQneg c x s
  | .qabs c x => Sys2Proof.Machine.execQabs c x s
  | .qrnd c x => Sys2Proof.Machine.execQrnd c x s
  | .fmacxy c x => Sys2Proof.Machine.execFmacxy c x s
  | .fmsuxy c x => Sys2Proof.Machine.execFmsuxy c x s
  | .fadd c x => Sys2Proof.Machine.execFadd c x s
  | .fsub c x => Sys2Proof.Machine.execFsub c x s
  | .fmul c x => Sys2Proof.Machine.execFmul c x s
  | .fdiv c x => Sys2Proof.Machine.execFdiv c x s
  | .fsqrt c x => Sys2Proof.Machine.execFsqrt c x s
  | .fma c x => Sys2Proof.Machine.execFma c x s
  | .fmin c x => Sys2Proof.Machine.execFmin c x s
  | .fmax c x => Sys2Proof.Machine.execFmax c x s
  | .fneg c x => Sys2Proof.Machine.execFneg c x s
  | .fabs c x => Sys2Proof.Machine.execFabs c x s
  | .fcmp c x => Sys2Proof.Machine.execFcmp c x s
  | .fcvtFloatToFloat c x => Sys2Proof.Machine.execFcvtFloatToFloat c x s
  | .fcvtIntegerToFloat c x => Sys2Proof.Machine.execFcvtIntegerToFloat c x s
  | .fcvtFloatToInteger c x => Sys2Proof.Machine.execFcvtFloatToInteger c x s
  | .fcvtFloatToIntegerTowardZero c x => Sys2Proof.Machine.execFcvtFloatToIntegerTowardZero c x s
  | .fld c x => Sys2Proof.Machine.execFld c x s
  | .fst c x => Sys2Proof.Machine.execFst c x s
  | .fdup c x => Sys2Proof.Machine.execFdup c x s
  | .fdrop c x => Sys2Proof.Machine.execFdrop c x s
  | .fswap c x => Sys2Proof.Machine.execFswap c x s
  | .fover c x => Sys2Proof.Machine.execFover c x s
  | .frot c x => Sys2Proof.Machine.execFrot c x s
  | .fpush c x => Sys2Proof.Machine.execFpush c x s
  | .fpop c x => Sys2Proof.Machine.execFpop c x s
  | .savel c => Sys2Proof.Machine.execSavel c s
  | .saveu c => Sys2Proof.Machine.execSaveu c s
  | .restl c => Sys2Proof.Machine.execRestl c s
  | .restu c => Sys2Proof.Machine.execRestu c s
  | .flushw c => Sys2Proof.Machine.execFlushw c s
  | .alloc c k => Sys2Proof.Machine.execAlloc c k s
  | .free c k => Sys2Proof.Machine.execFree c k s
  | .flushr c => Sys2Proof.Machine.execFlushr c s
  | .vadd c t m => Sys2Proof.Machine.execVadd c t m s
  | .vsub c t m => Sys2Proof.Machine.execVsub c t m s
  | .vmul c t m => Sys2Proof.Machine.execVmul c t m s
  | .vmulh c t m => Sys2Proof.Machine.execVmulh c t m s
  | .vfma c t m => Sys2Proof.Machine.execVfma c t m s
  | .vfms c t m => Sys2Proof.Machine.execVfms c t m s
  | .vdiv c t m => Sys2Proof.Machine.execVdiv c t m s
  | .vsqrt c t m => Sys2Proof.Machine.execVsqrt c t m s
  | .vmin c t m => Sys2Proof.Machine.execVmin c t m s
  | .vmax c t m => Sys2Proof.Machine.execVmax c t m s
  | .vabs c t m => Sys2Proof.Machine.execVabs c t m s
  | .vneg c t m => Sys2Proof.Machine.execVneg c t m s
  | .vand c t m => Sys2Proof.Machine.execVand c t m s
  | .vor c t m => Sys2Proof.Machine.execVor c t m s
  | .vxor c t m => Sys2Proof.Machine.execVxor c t m s
  | .vnot c t m => Sys2Proof.Machine.execVnot c t m s
  | .vshl c t m => Sys2Proof.Machine.execVshl c t m s
  | .vshr c t m => Sys2Proof.Machine.execVshr c t m s
  | .vsar c t m => Sys2Proof.Machine.execVsar c t m s
  | .vshls c t m => Sys2Proof.Machine.execVshls c t m s
  | .vshrs c t m => Sys2Proof.Machine.execVshrs c t m s
  | .vsars c t m => Sys2Proof.Machine.execVsars c t m s
  | .vcmpEq c t m => Sys2Proof.Machine.execVcmpEq c t m s
  | .vcmpNe c t m => Sys2Proof.Machine.execVcmpNe c t m s
  | .vcmpLt c t m => Sys2Proof.Machine.execVcmpLt c t m s
  | .vcmpLe c t m => Sys2Proof.Machine.execVcmpLe c t m s
  | .vcmpGt c t m => Sys2Proof.Machine.execVcmpGt c t m s
  | .vcmpGe c t m => Sys2Proof.Machine.execVcmpGe c t m s
  | .vcmpUn c t m => Sys2Proof.Machine.execVcmpUn c t m s
  | .mtail c t m => Sys2Proof.Machine.execMtail c t m s
  | .mand c t m => Sys2Proof.Machine.execMand c t m s
  | .mor c t m => Sys2Proof.Machine.execMor c t m s
  | .mxor c t m => Sys2Proof.Machine.execMxor c t m s
  | .mandn c t m => Sys2Proof.Machine.execMandn c t m s
  | .mpop c t m => Sys2Proof.Machine.execMpop c t m s
  | .mmov c t m => Sys2Proof.Machine.execMmov c t m s
  | .mrd c t m => Sys2Proof.Machine.execMrd c t m s
  | .mwr c t m => Sys2Proof.Machine.execMwr c t m s
  | .vcvt c t m => Sys2Proof.Machine.execVcvt c t m s
  | .vbcast c t m => Sys2Proof.Machine.execVbcast c t m s
  | .vperm c t m => Sys2Proof.Machine.execVperm c t m s
  | .vslideup c t m => Sys2Proof.Machine.execVslideup c t m s
  | .vslidedn c t m => Sys2Proof.Machine.execVslidedn c t m s
  | .vziplo c t m => Sys2Proof.Machine.execVziplo c t m s
  | .vziphi c t m => Sys2Proof.Machine.execVziphi c t m s
  | .vcompress c t m => Sys2Proof.Machine.execVcompress c t m s
  | .vextr c t m => Sys2Proof.Machine.execVextr c t m s
  | .vins c t m => Sys2Proof.Machine.execVins c t m s
  | .vredadd c t m => Sys2Proof.Machine.execVredadd c t m s
  | .vredmin c t m => Sys2Proof.Machine.execVredmin c t m s
  | .vredmax c t m => Sys2Proof.Machine.execVredmax c t m s
  | .vredand c t m => Sys2Proof.Machine.execVredand c t m s
  | .vredor c t m => Sys2Proof.Machine.execVredor c t m s
  | .vredxor c t m => Sys2Proof.Machine.execVredxor c t m s
  | .vdot c t m => Sys2Proof.Machine.execVdot c t m s
  | .vld c t m => Sys2Proof.Machine.execVld c t m s
  | .vst c t m => Sys2Proof.Machine.execVst c t m s
  | .vlds c t m => Sys2Proof.Machine.execVlds c t m s
  | .vsts c t m => Sys2Proof.Machine.execVsts c t m s
  | .vldx c t m => Sys2Proof.Machine.execVldx c t m s
  | .vstx c t m => Sys2Proof.Machine.execVstx c t m s
  | .vldy c t m => Sys2Proof.Machine.execVldy c t m s
  | .vsty c t m => Sys2Proof.Machine.execVsty c t m s
  | .vgather c t m => Sys2Proof.Machine.execVgather c t m s
  | .vscatter c t m => Sys2Proof.Machine.execVscatter c t m s
  | .tableWalk c u va bytes => Sys2Proof.Machine.execTableWalk c u va bytes s
  | .operandSpill c => Sys2Proof.Machine.execOperandSpill c s
  | .operandRefill c => Sys2Proof.Machine.execOperandRefill c s
  | .returnSpill c => Sys2Proof.Machine.execReturnSpill c s
  | .returnRefill c => Sys2Proof.Machine.execReturnRefill c s
  | .eventEntry c => Sys2Proof.Machine.execEventEntry c s
  | .tripleFault c => Sys2Proof.Machine.execTripleFault c s
  | .microcodeTimeout c => Sys2Proof.Machine.execMicrocodeTimeout c s
  | .wordRepair k table idx => Sys2Proof.Machine.execWordRepair k table idx s
  | .checkPortScan k bad => Sys2Proof.Machine.execCheckPortScan k bad s
  | .debugHalt c => Sys2Proof.Machine.execDebugHalt c s
  | .haltreq m c v => Sys2Proof.Machine.execHaltreq m c v s
  | .resume m c v => Sys2Proof.Machine.execResume m c v s
  | .step m c v => Sys2Proof.Machine.execStep m c v s
  | .registerWrite m r v => Sys2Proof.Machine.execRegisterWrite m r v s
  | .spmBankOwnerWrite m b v => Sys2Proof.Machine.execSpmBankOwnerWrite m b v s
  | .handoverDone b => Sys2Proof.Machine.execHandoverDone b s
  | .spmBankPwrWrite m b v => Sys2Proof.Machine.execSpmBankPwrWrite m b v s
  | .bankPowerChangeDone b => Sys2Proof.Machine.execBankPowerChangeDone b s
  | .correctionWriteBack b w => Sys2Proof.Machine.execCorrectionWriteBack b w s
  | .weederSteal found => Sys2Proof.Machine.execWeederSteal found s
  | .spmMvStart m n => Sys2Proof.Machine.execSpmMvStart m n s
  | .spmMvAbort m n => Sys2Proof.Machine.execSpmMvAbort m n s
  | .moverBlock n => Sys2Proof.Machine.execMoverBlock n s
  | .irqEdge n => Sys2Proof.Machine.execIrqEdge n s
  | .irqLevelChange n high => Sys2Proof.Machine.execIrqLevelChange n high s
  | .intcPendSet m g v => Sys2Proof.Machine.execIntcPendSet m g v s
  | .intcPendClr m g v => Sys2Proof.Machine.execIntcPendClr m g v s
  | .intcMaskSet m g v => Sys2Proof.Machine.execIntcMaskSet m g v s
  | .intcMaskClr m g v => Sys2Proof.Machine.execIntcMaskClr m g v s
  | .intcSenseWrite m g v => Sys2Proof.Machine.execIntcSenseWrite m g v s
  | .intcRouteWrite m n v => Sys2Proof.Machine.execIntcRouteWrite m n v s
  | .intcActiveWrite m g v => Sys2Proof.Machine.execIntcActiveWrite m g v s
  | .intcClaim c v => Sys2Proof.Machine.execIntcClaim c v s
  | .intcComplete c v => Sys2Proof.Machine.execIntcComplete c v s
  | .holdoffEnd g => Sys2Proof.Machine.execHoldoffEnd g s
  | .channelTick n => Sys2Proof.Machine.execChannelTick n s
  | .tmrInRise n => Sys2Proof.Machine.execTmrInRise n s
  | .tmrInFall n => Sys2Proof.Machine.execTmrInFall n s
  | .holdingWordWrite m n r v => Sys2Proof.Machine.execHoldingWordWrite m n r v s
  | .pendingCommit m n r v => Sys2Proof.Machine.execPendingCommit m n r v s
  | .loadNow m n r v => Sys2Proof.Machine.execLoadNow m n r v s
  | .tmrCntHiWrite m n v => Sys2Proof.Machine.execTmrCntHiWrite m n v s
  | .outset m n => Sys2Proof.Machine.execOutset m n s
  | .outclr m n => Sys2Proof.Machine.execOutclr m n s
  | .clracc m n => Sys2Proof.Machine.execClracc m n s
  | .tmrMkupRatioWrite m n v => Sys2Proof.Machine.execTmrMkupRatioWrite m n v s
  | .slcPidinv m v => Sys2Proof.Machine.execSlcPidinv m v s
  | .sliceCreate q => Sys2Proof.Machine.execSliceCreate q s
  | .sliceResize q => Sys2Proof.Machine.execSliceResize q s
  | .sliceDestroy q => Sys2Proof.Machine.execSliceDestroy q s
  | .migrateStart q => Sys2Proof.Machine.execMigrateStart q s
  | .migrateRound q => Sys2Proof.Machine.execMigrateRound q s
  | .migrateFinal q => Sys2Proof.Machine.execMigrateFinal q s
  | .migrateFinalTimeout q => Sys2Proof.Machine.execMigrateFinalTimeout q s
  | .migrateAdopt q => Sys2Proof.Machine.execMigrateAdopt q s
  | .gdnPost m q => Sys2Proof.Machine.execGdnPost m q s
  | .gdnReplyAck m q seq => Sys2Proof.Machine.execGdnReplyAck m q seq s
  | .leafClear m leaf => Sys2Proof.Machine.execLeafClear m leaf s
  | .info q => Sys2Proof.Machine.execInfo q s
  | .ping q => Sys2Proof.Machine.execPing q s
  | .powerSet q => Sys2Proof.Machine.execPowerSet q s
  | .powerSetOff q => Sys2Proof.Machine.execPowerSetOff q s
  | .powerSetComplex q => Sys2Proof.Machine.execPowerSetComplex q s
  | .clockSet q => Sys2Proof.Machine.execClockSet q s
  | .quiesceCluster q => Sys2Proof.Machine.execQuiesceCluster q s
  | .resumeCluster q => Sys2Proof.Machine.execResumeCluster q s
  | .quiesceReached k q => Sys2Proof.Machine.execQuiesceReached k q s
  | .quiesceTimeout k q => Sys2Proof.Machine.execQuiesceTimeout k q s
  | .graftStage ok q => Sys2Proof.Machine.execGraftStage ok q s
  | .graftApply q => Sys2Proof.Machine.execGraftApply q s
  | .graftVerify k ok q => Sys2Proof.Machine.execGraftVerify k ok q s
  | .graftResume k q => Sys2Proof.Machine.execGraftResume k q s
  | .graftList q => Sys2Proof.Machine.execGraftList q s
  | .retireCore ok q => Sys2Proof.Machine.execRetireCore ok q s
  | .retireBank ok q => Sys2Proof.Machine.execRetireBank ok q s
  | .retireLane ok q => Sys2Proof.Machine.execRetireLane ok q s
  | .retireRank ok q => Sys2Proof.Machine.execRetireRank ok q s
  | .restoreUnit ok q => Sys2Proof.Machine.execRestoreUnit ok q s
  | .pendingRetirement kind unit => Sys2Proof.Machine.execPendingRetirement kind unit s
  | .tallyConfig q => Sys2Proof.Machine.execTallyConfig q s
  | .tallyRead q => Sys2Proof.Machine.execTallyRead q s
  | .policySet q => Sys2Proof.Machine.execPolicySet q s
  | .recordWrite ok q => Sys2Proof.Machine.execRecordWrite ok q s
  | .recordRead q => Sys2Proof.Machine.execRecordRead q s
  | .weederConfig q => Sys2Proof.Machine.execWeederConfig q s
  | .calibrate count failed q => Sys2Proof.Machine.execCalibrate count failed q s
  | .automaticCalibrate count => Sys2Proof.Machine.execAutomaticCalibrate count s
  | .nodeSet ok q => Sys2Proof.Machine.execNodeSet ok q s
  | .abort q => Sys2Proof.Machine.execAbort q s
  | .firmwareUpdate ok q => Sys2Proof.Machine.execFirmwareUpdate ok q s
  | .ringOscillatorMeasurement counts ok => Sys2Proof.Machine.execRingOscillatorMeasurement counts ok s
  | .tallyHistoryWrite ok => Sys2Proof.Machine.execTallyHistoryWrite ok s
  | .ageingDataWrite ok => Sys2Proof.Machine.execAgeingDataWrite ok s
  | .laneLock p l => Sys2Proof.Machine.execLaneLock p l s
  | .laneUnlock p l => Sys2Proof.Machine.execLaneUnlock p l s
  | .slipRequest p l => Sys2Proof.Machine.execSlipRequest p l s
  | .trainingAttempt p => Sys2Proof.Machine.execTrainingAttempt p s
  | .trainingEnd p lanes width => Sys2Proof.Machine.execTrainingEnd p lanes width s
  | .retrainTimeout p => Sys2Proof.Machine.execRetrainTimeout p s
  | .cplCtlAdmit m p v => Sys2Proof.Machine.execCplCtlAdmit m p v s
  | .cplCtlDepart m p v => Sys2Proof.Machine.execCplCtlDepart m p v s
  | .cplCtlRetrain m p v => Sys2Proof.Machine.execCplCtlRetrain m p v s
  | .admitTimeout p => Sys2Proof.Machine.execAdmitTimeout p s
  | .admissionComplete p => Sys2Proof.Machine.execAdmissionComplete p s
  | .dataBlock p raw bad => Sys2Proof.Machine.execDataBlock p raw bad s
  | .nak p raw bad => Sys2Proof.Machine.execNak p raw bad s
  | .linkBlock p raw bad sizes node ver => Sys2Proof.Machine.execLinkBlock p raw bad sizes node ver s
  | .idleBlock p raw bad => Sys2Proof.Machine.execIdleBlock p raw bad s
  | .resendTimeout p => Sys2Proof.Machine.execResendTimeout p s
  | .rdShared p => Sys2Proof.Machine.execRdShared p s
  | .rdExcl p => Sys2Proof.Machine.execRdExcl p s
  | .rdUncached p => Sys2Proof.Machine.execRdUncached p s
  | .wrLine p => Sys2Proof.Machine.execWrLine p s
  | .wrPart p => Sys2Proof.Machine.execWrPart p s
  | .atomic p => Sys2Proof.Machine.execAtomic p s
  | .upgrade p => Sys2Proof.Machine.execUpgrade p s
  | .data p => Sys2Proof.Machine.execData p s
  | .comp p => Sys2Proof.Machine.execComp p s
  | .err p => Sys2Proof.Machine.execErr p s
  | .snpInv p => Sys2Proof.Machine.execSnpInv p s
  | .snpShare p => Sys2Proof.Machine.execSnpShare p s
  | .snpRecall p => Sys2Proof.Machine.execSnpRecall p s
  | .mvWr p => Sys2Proof.Machine.execMvWr p s
  | .mvRd p => Sys2Proof.Machine.execMvRd p s
  | .mvData p => Sys2Proof.Machine.execMvData p s
  | .gdnPkt p => Sys2Proof.Machine.execGdnPkt p s
  | .admitMsg p => Sys2Proof.Machine.execAdmitMsg p s
  | .domainUpdate p => Sys2Proof.Machine.execDomainUpdate p s
  | .depart p => Sys2Proof.Machine.execDepart p s
  | .ack raw rxErr => Sys2Proof.Machine.execAck raw rxErr s
  | .write raw rxErr => Sys2Proof.Machine.execWrite raw rxErr s
  | .writeRec raw rxErr => Sys2Proof.Machine.execWriteRec raw rxErr s
  | .msg raw rxErr => Sys2Proof.Machine.execMsg raw rxErr s
  | .readReq raw rxErr => Sys2Proof.Machine.execReadReq raw rxErr s
  | .readData raw rxErr => Sys2Proof.Machine.execReadData raw rxErr s
  | .tbxReq raw rxErr => Sys2Proof.Machine.execTbxReq raw rxErr s
  | .tbxRsp raw rxErr => Sys2Proof.Machine.execTbxRsp raw rxErr s
  | .tmeRetransmit node => Sys2Proof.Machine.execTmeRetransmit node s
  | .frameClose => Sys2Proof.Machine.execFrameClose s
  | .tmeTxtailWrite m v => Sys2Proof.Machine.execTmeTxtailWrite m v s
  | .quiesce m on => Sys2Proof.Machine.execQuiesce m on s
  | .tmeFailClr m node => Sys2Proof.Machine.execTmeFailClr m node s
  | .tbxStart m node => Sys2Proof.Machine.execTbxStart m node s
  | .tbxTimeout => Sys2Proof.Machine.execTbxTimeout s
  | .patrolScrub line found => Sys2Proof.Machine.execPatrolScrub line found s
  | .dfiPhymstr c req => Sys2Proof.Machine.execDfiPhymstr c req s
  | .dfiUpdate c => Sys2Proof.Machine.execDfiUpdate c s
  | .dfiError c => Sys2Proof.Machine.execDfiError c s
  | .regionSleepEntry r => Sys2Proof.Machine.execRegionSleepEntry r s
  | .regionWake r access => Sys2Proof.Machine.execRegionWake r access s
  | .complexSleepEntry => Sys2Proof.Machine.execComplexSleepEntry s
  | .complexWake => Sys2Proof.Machine.execComplexWake s
  | .clkackRise k => Sys2Proof.Machine.execClkackRise k s
  | .clkackFall k => Sys2Proof.Machine.execClkackFall k s
  | .porAssert => Sys2Proof.Machine.execPorAssert s
  | .sysrstAssert => Sys2Proof.Machine.execSysrstAssert s
  | .resetRelease por strap => Sys2Proof.Machine.execResetRelease por strap s
  | .gardenerRomBoot => Sys2Proof.Machine.execGardenerRomBoot s
  | .firmwareLoad => Sys2Proof.Machine.execFirmwareLoad s
  | .recordRecovery bad => Sys2Proof.Machine.execRecordRecovery bad s
  | .graftStartApplication => Sys2Proof.Machine.execGraftStartApplication s
  | .dramTraining cfg failed => Sys2Proof.Machine.execDramTraining cfg failed s
  | .coreRelease boot => Sys2Proof.Machine.execCoreRelease boot s
  | .noFlashNoPeer => Sys2Proof.Machine.execNoFlashNoPeer s
  | .overlayPageRead first second => Sys2Proof.Machine.execOverlayPageRead first second s
  | .doorbellCoreStart c => Sys2Proof.Machine.execDoorbellCoreStart c s
  | .keyValidRise vhash dec => Sys2Proof.Machine.execKeyValidRise vhash dec s
  | .keyValidFall => Sys2Proof.Machine.execKeyValidFall s
  | .ssRead id addr len strb badOp => Sys2Proof.Machine.execSsRead id addr len strb badOp s
  | .ssWrite id addr beats badOp => Sys2Proof.Machine.execSsWrite id addr beats badOp s
  | .smResponse id ok data => Sys2Proof.Machine.execSmResponse id ok data s
  | .dbgacc addr write data => Sys2Proof.Machine.execDbgacc addr write data s
  | .idcode pins => Sys2Proof.Machine.execIdcode pins s
  | .bypass ir => Sys2Proof.Machine.execBypass ir s
  | .tapReset => Sys2Proof.Machine.execTapReset s
  | .systemCounterTick => Sys2Proof.Machine.execSystemCounterTick s
  | .sleepCounterTick => Sys2Proof.Machine.execSleepCounterTick s
  | .departureComplete p => Sys2Proof.Machine.execDepartureComplete p s
  | .offEntryTimeout q => Sys2Proof.Machine.execOffEntryTimeout q s
  | .badTypeBlock p raw bad => Sys2Proof.Machine.execBadTypeBlock p raw bad s
  | .unlistedOp p => Sys2Proof.Machine.execUnlistedOp p s
  | .reservedKindFrame raw rxErr => Sys2Proof.Machine.execReservedKindFrame raw rxErr s
  | .unlistedOpcode q => Sys2Proof.Machine.execUnlistedOpcode q s
  | .dbgaccCompletion => Sys2Proof.Machine.execDbgaccCompletion s

end Sys2Proof.Machine
end

