-- ==== Sys2Proof/Machine/Step.lean ====
section
/-!
DEFINITION. Machine/Step.lean: one step of the block: the command at the front of the queue, and what happens while none waits.
-/
namespace Sys2Proof.Machine

/-- The block with no command: one fc passes, in which only the delays of R401 move (DESIGN CHOICE, log entry 35). -/
def idle (s : State) : State := if fabRuns s then maskTick s else s

/-- One step: the command at the front of the queue has its effect on everything but the queue. -/
def step (s : State) : Host.Outcome State Fault Refusal :=
  match s.pending with
  | [] => .next (idle s)
  | c :: rest => exec c { s with pending := rest }

/-- The state with the command that a word of the opcode table spells at the front of its queue. No row of the table has bits, so no
word spells one. -/
def State.withFetchWord (s : State) (nbits w : Nat) : State := match Sys2Proof.decodeTableWord nbits w with
  | some c => { s with pending := c :: s.pending }
  | none => s

end Sys2Proof.Machine
end

