-- ==== Sys2Proof/Safety.lean ====
section
/-!
DEFINITION. Safety.lean: the settings and measures in which the statements about the machine are written: what software can see of a
core and of the complex, when an instruction executes with none of the waits and faults of other rules, and the invariants.
-/
namespace Sys2Proof.Machine

/-! ### What software sees -/

/-- A core without what only timing and the caches show: its TLBs, its L1 caches and the records of folding and merging (R91, R229,
R334, R338). -/
def Core.arch (k : Core) : Core :=
  { k with itlb := [], dtlb := [], l2tlb := [], l1i := [], l1d := [], sbOpen := false, lastIssue := none }

/-- The complex without its caches and TLBs and the record of which lines they hold modified: memory itself stays, as the coherent
contents that every observer reads (R338, R341, R346). -/
def State.arch (s : State) : State :=
  { s with l2 := Vector.replicate 16 [], dirty := [], cores := s.cores.map Core.arch }

/-- A core after an instruction that ended normally, at address `a` (R54, R80, R315, R316): what belonged to the instruction alone is
cleared. -/
def Core.ended (k : Core) (a : Word) : Core :=
  { k with pc := a, ext := [], waitOp := none, begun := false, bpSkip := false, rep := none, stepDue := k.sstep && decide (k.ml < 7),
           mid := false, micro := none }

/-! ### An instruction that executes -/

/-- The context in which an instruction of core `c` with these bytes runs. -/
def ctxOf (s : State) (c : CoreId) (bytes : List Byte) : Ctx :=
  { c := c, pc := (s.core c).pc, bytes := bytes, merge := (s.core c).sbOpen }

/-- The fetch of these bytes at the PC of core `c` ends without a fault or a wait (R90, R95 items 2 and 3). -/
def fetches (c : CoreId) (bytes : List Byte) (s : State) : Bool :=
  match (fetchCheck (ctxOf s c bytes)) (s.modCore c (fun k => { k with sbOpen := false })) with
  | .ok _ _ => true
  | .error _ _ => false

/-- Core `c` executes an instruction of these bytes and this fold class now: it is at an instruction and no event, stop or wait comes first
(R296), the fetch succeeds, no instruction breakpoint is at its address (R314), no CWR is still to take effect (R54), it is not metered
(R246), and no debug step is under way (R317). No copy of another complex's line and no scratchpad word with an uncounted error stands in
the way of the fetch. -/
structure Poised (c : CoreId) (bytes : List Byte) (cls : FoldClass) (s : State) : Prop where
  /-- The core exists (R6). -/
  present : s.hasCore c = true
  /-- Nothing comes before the instruction (R81, R93, R296). -/
  can : canRun s c cls bytes.length = true
  /-- The fetch meets no fault and no wait. -/
  fetch : fetches c bytes s = true
  /-- No breakpoint at the PC (R314). -/
  noBreak : ibpHits (s.core c) (s.core c).pc = 0
  /-- No CWR is in flight (R54). -/
  settled : (s.core c).pend = []
  /-- Not metered (R238). -/
  unmetered : (s.core c).met = false
  /-- No STEP of the debug port (R317). -/
  noStep : (s.core c).stepOne = false
  /-- No cached copy of another complex's line (R344). -/
  noRemote : s.remote = []
  /-- No scratchpad word with a single-bit error (R361). -/
  noCe : s.spmCe = []

/-- Core `c` executes instruction `op` now, by the hardwired logic or the base image (R257, R258). -/
structure Ready (c : CoreId) (op : CoreOp) (s : State) : Prop extends Poised c (opBytes op) (classOf s c op (opBytes op)) s where
  /-- The dispatch entry names no graft's microcode and has good parity (R257, R269). -/
  native : opRoute s c op (opBytes op) = .native

/-- The instruction completes and changes nothing that software sees except core `c`, which becomes `k` (before the changes that every
completed instruction makes) and goes on at address `a`. -/
def Completes (c : CoreId) (s : State) (o : Host.Outcome State Fault Refusal) (k : Core) (a : Word) : Prop :=
  ∃ t, o = .next t ∧ t.arch = (s.setCore c (k.ended a)).arch

/-- The stack takes `n` more entries without a wait for the barrow (R160, R170, R171): the reserved window holds 16, and the ring takes
an entry freely while it holds fewer than 8 blocks. -/
def Core.room (k : Core) (n : Nat) : Prop := n = 0 ∨ match k.win with
  | some w => w.ops.length + n ≤ 16
  | none => k.stk.cut = 0 ∧ k.stk.ring.length + n ≤ 112

/-- The top entries of the stack are `l` (top first) over `rest`, all of them in the ring or the window, and the frame holds `l`
(R37, R94). -/
def Core.holds (k : Core) (l rest : List Word) : Prop := k.ops = l ++ rest ∧ l.length ≤ k.frame

/-! ### Stops -/

/-- The instruction meets event `e` and changes nothing else: the core enters that event, the instruction's address recorded, from a state
that looks as before (R37, R95, R96). -/
def Faults (c : CoreId) (op : CoreOp) (s : State) (o : Host.Outcome State Fault Refusal) (e : FaultInfo) : Prop :=
  ∃ f, f.arch = s.arch ∧
    o = .next (noteWait c { op := op, rep := none, units := 0 }
      (applyStop (ctxOf s c (opBytes op)) false (.event e) f))

/-! ### The return stack as the running code sees it -/

/-- The return entries that the running code can reach without the spill area, top first. -/
def Core.rets (k : Core) : List RetEntry := match k.win with
  | some w => w.rets
  | none => k.rstk.ring

/-- The core with those entries replaced. -/
def Core.setRets (k : Core) (l : List RetEntry) : Core := match k.win with
  | some w => k.setWin { w with rets := l }
  | none => { k with rstk := { k.rstk with ring := l } }

/-- The core with the frame base of the running code replaced (R37). -/
def Core.setBase (k : Core) (b : Nat) : Core := match k.win with
  | some w => k.setWin { w with fbase := b }
  | none => { k with stk := { k.stk with fbase := b } }

/-- The return stack takes one more entry without a wait (R160, R170, R171): the reserved window holds 4, and the ring takes an entry freely
while it holds fewer than 4 segments. -/
def Core.retRoom (k : Core) : Prop := match k.win with
  | some w => w.rets.length < 4
  | none => k.rstk.cut = 0 ∧ k.rstk.ring.length < 24

/-- The top return entry is `e` over `rest`, in the ring or the window, and above the return floor (R42, R304). -/
def Core.retTop (k : Core) (e : RetEntry) (rest : List RetEntry) : Prop := k.rets = e :: rest ∧ k.rfloor < k.rdepth

/-! ### The results of integer instructions, as the tables of 04_instructions.md give them -/

/-- A stack manipulation of R98: the entries named to the left of "--" and those to the right, deepest first. -/
def stkTable (o : StkOp) (a b d e : Word) : List Word × List Word := match o with
  | .dup => ([a], [a, a])
  | .drop => ([a], [])
  | .swap => ([a, b], [b, a])
  | .over => ([a, b], [a, b, a])
  | .rot => ([a, b, d], [b, d, a])
  | .nrot => ([a, b, d], [d, a, b])
  | .nip => ([a, b], [b])
  | .tuck => ([a, b], [b, a, b])
  | .dup2 => ([a, b], [a, b, a, b])
  | .drop2 => ([a, b], [])
  | .swap2 => ([a, b, d, e], [d, e, a, b])
  | .over2 => ([a, b, d, e], [a, b, d, e, a, b])

/-- The command that is a stack manipulation. -/
def stkInstr (c : CoreId) : StkOp → Instr
  | .dup => .dup c | .drop => .drop c | .swap => .swap c | .over => .over c | .rot => .rot c | .nrot => .nrot c | .nip => .nip c
  | .tuck => .tuck c | .dup2 => .dup2 c | .drop2 => .drop2 c | .swap2 => .swap2 c | .over2 => .over2 c

/-- The word that an integer is modulo 2^64 (R102). -/
def wrap (v : Int) : Word := BitVec.ofInt 64 v

/-- The count of R105: bits [5:0]. -/
def count6 (n : Word) : Nat := n.toNat % 64

/-- A word from its bits, bit 0 first. -/
def wordOfBits (f : Nat → Bool) : Word := BitVec.ofNat 64 (((List.range 64).map (fun i => if f i then 2 ^ i else 0)).sum)

/-- The result of an integer operation without an operand byte on the operands of R101 and R104 ( a b d -- ), where the spec gives one. -/
def aluTable (o : AluOp) (a b d : Word) : List Word × Option Word := match o with
  | .add => ([a, b], some (wrap (a.toInt + b.toInt)))
  | .sub => ([a, b], some (wrap (a.toInt - b.toInt)))
  | .neg => ([a], some (wrap (-a.toInt)))
  | .inc => ([a], some (wrap (a.toInt + 1)))
  | .dec => ([a], some (wrap (a.toInt - 1)))
  | .mul => ([a, b], some (wrap (a.toInt * b.toInt)))
  | .mulhs => ([a, b], some (wrap (a.toInt * b.toInt / 2 ^ 64)))
  | .mulhu => ([a, b], some (wrap ((a.toNat : Int) * b.toNat / 2 ^ 64)))
  | .divs => ([a, b], if b = 0 then none else some (wrap (a.toInt.tdiv b.toInt)))
  | .divu => ([a, b], if b = 0 then none else some (wrap ((a.toNat / b.toNat : Nat))))
  | .rems => ([a, b], if b = 0 then none else some (wrap (a.toInt.tmod b.toInt)))
  | .remu => ([a, b], if b = 0 then none else some (wrap ((a.toNat % b.toNat : Nat))))
  | .min => ([a, b], some (if a.toInt ≤ b.toInt then a else b))
  | .max => ([a, b], some (if a.toInt ≤ b.toInt then b else a))
  | .abs => ([a], some (wrap a.toInt.natAbs))
  | .and => ([a, b], some (wordOfBits (fun i => a.getLsbD i && b.getLsbD i)))
  | .or => ([a, b], some (wordOfBits (fun i => a.getLsbD i || b.getLsbD i)))
  | .xor => ([a, b], some (wordOfBits (fun i => a.getLsbD i != b.getLsbD i)))
  | .not => ([a], some (wordOfBits (fun i => !a.getLsbD i)))
  | .shl => ([a, b], some (wrap ((a.toNat * 2 ^ count6 b : Nat))))
  | .shr => ([a, b], some (wrap ((a.toNat / 2 ^ count6 b : Nat))))
  | .sar => ([a, b], some (wrap (a.toInt / 2 ^ count6 b)))
  | .rol => ([a, b], some (wordOfBits (fun i => a.getLsbD ((i + 64 - count6 b) % 64))))
  | .ror => ([a, b], some (wordOfBits (fun i => a.getLsbD ((i + count6 b) % 64))))
  | .clz => ([a], some (BitVec.ofNat 64 ((List.range 64).takeWhile (fun i => !a.getLsbD (63 - i))).length))
  | .ctz => ([a], some (BitVec.ofNat 64 ((List.range 64).takeWhile (fun i => !a.getLsbD i)).length))
  | .popc => ([a], some (BitVec.ofNat 64 ((List.range 64).countP (fun i => a.getLsbD i))))
  | .sx8 => ([a], some (wrap (Int.bmod a.toNat (2 ^ 8))))
  | .sx16 => ([a], some (wrap (Int.bmod a.toNat (2 ^ 16))))
  | .sx32 => ([a], some (wrap (Int.bmod a.toNat (2 ^ 32))))
  | .zx8 => ([a], some (wrap ((a.toNat % 2 ^ 8 : Nat))))
  | .zx16 => ([a], some (wrap ((a.toNat % 2 ^ 16 : Nat))))
  | .zx32 => ([a], some (wrap ((a.toNat % 2 ^ 32 : Nat))))
  | .bswap => ([a], some (wordOfBits (fun i => a.getLsbD (8 * (7 - i / 8) + i % 8))))
  | .bitrev => ([a], some (wordOfBits (fun i => a.getLsbD (63 - i))))
  | .sel => ([a, b, d], some (if d = 0 then b else a))

/-- The command that is an integer operation. -/
def aluInstr (c : CoreId) : AluOp → Instr
  | .add => .add c | .sub => .sub c | .neg => .neg c | .inc => .inc c | .dec => .dec c | .mul => .mul c | .mulhs => .mulhs c
  | .mulhu => .mulhu c | .divs => .divs c | .divu => .divu c | .rems => .rems c | .remu => .remu c | .min => .min c | .max => .max c
  | .abs => .abs c | .and => .and c | .or => .or c | .xor => .xor c | .not => .not c | .shl => .shl c | .shr => .shr c | .sar => .sar c
  | .rol => .rol c | .clz => .clz c | .popc => .popc c | .sx8 => .sx8 c | .sx16 => .sx16 c | .sx32 => .sx32 c | .zx8 => .zx8 c
  | .zx16 => .zx16 c | .zx32 => .zx32 c | .bswap => .bswap c | .ctz => .ctz c | .ror => .ror c | .bitrev => .bitrev c | .sel => .sel c

/-- The result of an integer operation with an operand byte (R101, R104, R105), where R71 makes the byte legal. -/
def aluBTable (o : AluBOp) (a : Word) (i : Byte) : Option Word :=
  let n := i.toNat
  match o with
  | .addi8 => some (wrap (a.toInt + i.toInt))
  | .shli => if n < 64 then some (wrap ((a.toNat * 2 ^ n : Nat))) else none
  | .shri => if n < 64 then some (wrap ((a.toNat / 2 ^ n : Nat))) else none
  | .sari => if n < 64 then some (wrap (a.toInt / 2 ^ n)) else none
  | .bset => if n < 64 then some (wordOfBits (fun j => a.getLsbD j || j == n)) else none
  | .bclr => if n < 64 then some (wordOfBits (fun j => a.getLsbD j && j != n)) else none
  | .btst => if n < 64 then some (if a.getLsbD n then 1 else 0) else none
  | .rori => if n < 64 then some (wordOfBits (fun j => a.getLsbD ((j + n) % 64))) else none

/-- The command that is an integer operation with an operand byte. -/
def aluBInstr (c : CoreId) (i : Byte) : AluBOp → Instr
  | .addi8 => .addi8 c i | .shli => .shli c i | .shri => .shri c i | .sari => .sari c i | .bset => .bset c i | .bclr => .bclr c i
  | .btst => .btst c i | .rori => .rori c i

/-- The field instructions by the formulas of R105, bit by bit: EXTU and EXTS of the field of `l` bits at `p` of `a`, and INS of `b` into
`a`. -/
def fieldTable (o : FieldOp) (a b : Word) (p l : Nat) : List Word × Word := match o with
  | .extu => ([a], wordOfBits (fun i => decide (i < l) && a.getLsbD (p + i)))
  | .exts => ([a], wordOfBits (fun i => a.getLsbD (p + if i < l then i else l - 1)))
  | .ins => ([a, b], wordOfBits (fun i => if p ≤ i && decide (i < p + l) then b.getLsbD (i - p) else a.getLsbD i))

/-- The command that is a field instruction. -/
def fieldInstr (c : CoreId) (p l : Byte) : FieldOp → Instr
  | .extu => .extu c p l | .exts => .exts c p l | .ins => .ins c p l

/-- The operands of a branch and when it is taken (R115). -/
def branchTable (k : Cond) (a b : Word) : List Word × Prop := match k with
  | .eq => ([a, b], a = b)
  | .ne => ([a, b], a ≠ b)
  | .lt => ([a, b], a.toInt < b.toInt)
  | .ge => ([a, b], a.toInt ≥ b.toInt)
  | .ltu => ([a, b], a.toNat < b.toNat)
  | .geu => ([a, b], a.toNat ≥ b.toNat)
  | .z => ([a], a = 0)
  | .nz => ([a], a ≠ 0)
  | .ltz => ([a], a.toInt < 0)
  | .gez => ([a], a.toInt ≥ 0)
  | .gtz => ([a], a.toInt > 0)
  | .lez => ([a], a.toInt ≤ 0)
  | .always => ([], True)

/-- The short form of a branch. -/
def branchInstr (c : CoreId) (d : Byte) : Cond → Instr
  | .eq => .bEq c d | .ne => .bNe c d | .lt => .bLt c d | .ge => .bGe c d | .ltu => .bLtu c d | .geu => .bGeu c d | .z => .bz c d
  | .nz => .bnz c d | .ltz => .bltz c d | .gez => .bgez c d | .gtz => .bgtz c d | .lez => .blez c d | .always => .br c d
/-- The .W form of a branch. -/
def branchInstrW (c : CoreId) (d : Half) : Cond → Instr
  | .eq => .bEqW c d | .ne => .bNeW c d | .lt => .bLtW c d | .ge => .bGeW c d | .ltu => .bLtuW c d | .geu => .bGeuW c d
  | .z => .bzW c d | .nz => .bnzW c d | .ltz => .bltzW c d | .gez => .bgezW c d | .gtz => .bgtzW c d | .lez => .blezW c d
  | .always => .brW c d

/-- The commands that push a literal, with the instruction and the value of R100: `pc` is the address of the first byte. -/
def literalTable (c : CoreId) (pc : Word) (k : Fin 11) (i8 : Byte) (i16 : Half) (i32 : W32) (i64 : Word) : List (Instr × CoreOp × Word × Nat) :=
  [(.litM1 c, .litM1, wrap (-1), 1), (.lit0ToLit10 c k, .lit k, BitVec.ofNat 64 k.val, 1), (.lit8 c i8, .lit8 i8, wrap i8.toInt, 2),
   (.lit16 c i16, .lit16 i16, wrap i16.toInt, 3), (.lit32 c i32, .lit32 i32, wrap i32.toInt, 5), (.lit64 c i64, .lit64 i64, i64, 9),
   (.litpc c i32, .litpc i32, wrap (pc.toNat + i32.toInt), 6)]

/-! ### Memory as a core sees it -/

/-- The byte that a store buffer holds for a physical address: the youngest entry's (R229, R231). -/
def sbByte (sb : List SbEntry) (x : Nat) : Option Byte := sb.reverse.findSome? (fun e => e.at? x)

/-- No line, word or directory entry in the complex stands in the way of an access (R339, R343, R344, R356, R361, R362, R529). -/
def State.sound (s : State) : Prop :=
  s.dir = [] ∧ s.dramUe = [] ∧ s.pattern = [] ∧ s.lostLines = [] ∧ s.poisoned = [] ∧ s.spmUe = [] ∧ s.spmCe = []

/-- A data access of core `c` to the `n` bytes at `va` reaches local memory at `a`, with nothing to stop or to delay it: no translation
(R319), within one page, no data breakpoint (R314), and local DRAM, or a scratchpad bank that the core owns and that is on (R364, R366,
R376). -/
structure DataAt (c : CoreId) (s : State) (va : Word) (n a : Nat) : Prop where
  /-- Stage 1 is off (R319). -/
  stage1 : bitOf (s.core c).ptroot 0 = false
  /-- Stage 2 is off (R320). -/
  stage2 : (s.slice (s.core c).slice).s2en = false
  /-- A physical address (R20). -/
  small : va.toNat < 2 ^ 53
  /-- At least one byte. -/
  some : 0 < n
  /-- One page (R109). -/
  page : va.toNat % 4096 + n ≤ 4096
  /-- No data breakpoint is enabled (R314). -/
  noBreak : fieldOf (s.core c).dbgctl 4 2 = 0
  /-- The target. -/
  place : target s va.toNat = .dram a ∨ ∃ b : BankId, target s va.toNat = .spm b a ∧ s.banks[b.val].owner = BitVec.ofNat 8 c.val ∧
    s.banks[b.val].req = 0 ∧ s.banks[b.val].pstate = 0 ∧ s.banks[b.val].handoverDone = true
  /-- Nothing bad is in the way. -/
  clean : s.sound

/-- What a load of the `n` bytes at local address `a` reads (R231): the bytes of the youngest entry that holds any of
them, where it holds them all, or memory where no entry holds any. -/
def Core.reads (k : Core) (m : List Host.Cell) (a n : Nat) (d : List Byte) : Prop :=
  ((∀ e ∈ k.sb, ∀ j < n, e.at? (a + j) = none) ∧ d = memRead m a n) ∨
  ∃ old e young, k.sb = old ++ e :: young ∧ (∀ y ∈ young, ∀ j < n, y.at? (a + j) = none) ∧ d.length = n ∧
    ∀ j < n, e.at? (a + j) = d[j]?

/-- The store buffer takes `n` entries more without a drain, and its entries have the form that stores give them (R229, R232). -/
def Core.sbRoom (k : Core) (n : Nat) : Prop := k.sb.length + n ≤ 8 ∧ ∀ e ∈ k.sb, e.bytes.length = 16

/-- Store buffer `sb'` holds the bytes `d` at `pa` and every other byte that `sb` holds. -/
def sbStored (sb sb' : List SbEntry) (pa : Nat) (d : List Byte) : Prop :=
  ∀ x, sbByte sb' x = if pa ≤ x ∧ x < pa + d.length then d[x - pa]? else sbByte sb x

/-- A value loaded from bytes, zero- or sign-extended to 64 bits (R33, R107). -/
def loadValue (d : List Byte) (signed : Bool) : Word :=
  if signed then wrap (Int.bmod (ofLe d) (2 ^ (8 * d.length))) else wrap (ofLe d)

/-- The low `n` bytes of a word in memory order (R33, R108). -/
def storeBytes (v : Word) (n : Nat) : List Byte := (List.range n).map (fun i => BitVec.ofNat 8 (v.toNat / 256 ^ i))

/-- A memory instruction as the tables of R106 to R108 give it: the command, the instruction, the address entry it pops if any, its address,
its mode byte (R72), and the pointer register it streams through (false XP, true YP). -/
structure MemForm where
  instr : Instr
  op : CoreOp
  pops : List Word
  va : Word
  mode : Byte
  stream : Option Bool

/-- Bytes accessed (R72). -/
def MemForm.n (f : MemForm) : Nat := 2 ^ (f.mode.toNat % 4)
/-- Sign extension (R72). -/
def MemForm.signed (f : MemForm) : Bool := f.mode.getLsbD 2
/-- A mode byte that a load may carry (R69, R72): the bits above 3 are 0, no sign extension of 64 bits, and the step bit only in a streaming
form. -/
def MemForm.legalLoad (f : MemForm) : Prop :=
  f.mode.toNat < 16 ∧ ¬(f.signed ∧ f.mode.toNat % 4 = 3) ∧ (f.mode.getLsbD 3 → f.stream.isSome)
/-- A mode byte that a store may carry (R69, R72): no sign extension. -/
def MemForm.legalStore (f : MemForm) : Prop := f.mode.toNat < 16 ∧ ¬f.signed ∧ (f.mode.getLsbD 3 → f.stream.isSome)
/-- XP or YP after the access (R43). -/
def MemForm.moved (f : MemForm) (k : Core) : Core := match f.stream with
  | none => k
  | some false => { k with xp := k.xp + if f.mode.getLsbD 3 then k.xstep else BitVec.ofNat 64 f.n }
  | some true => { k with yp := k.yp + if f.mode.getLsbD 3 then k.ystep else BitVec.ofNat 64 f.n }

/-- The loads of R106 and R107. -/
def loadForms (c : CoreId) (k : Core) (a : Word) (m d8 : Byte) (d16 : Half) (d32 : W32) (a64 : Word) : List MemForm :=
  [⟨.ld8u c, .ld 0 false, [a], a, 0, none⟩, ⟨.ld8s c, .ld 0 true, [a], a, 4, none⟩, ⟨.ld16u c, .ld 1 false, [a], a, 1, none⟩,
   ⟨.ld16s c, .ld 1 true, [a], a, 5, none⟩, ⟨.ld32u c, .ld 2 false, [a], a, 2, none⟩, ⟨.ld32s c, .ld 2 true, [a], a, 6, none⟩,
   ⟨.ld64 c, .ld 3 false, [a], a, 3, none⟩, ⟨.ldx16s c, .ldS16 false, [], k.xp, 5, some false⟩,
   ⟨.ldy16s c, .ldS16 true, [], k.yp, 5, some true⟩, ⟨.ldx c m, .ldS false m, [], k.xp, m, some false⟩,
   ⟨.ldy c m, .ldS true m, [], k.yp, m, some true⟩, ⟨.ldd8 c m d8, .ldd8 m d8, [a], a + d8.signExtend 64, m, none⟩,
   ⟨.ldd16 c m d16, .ldd16 m d16, [a], a + d16.signExtend 64, m, none⟩,
   ⟨.ldpc c m d32, .ldpc m d32, [], k.pc + d32.signExtend 64, m, none⟩, ⟨.lda64 c a64, .lda64 a64, [], a64, 3, none⟩]

/-- The stores of R106 and R108; `pops` is the address entry above the value stored. -/
def storeForms (c : CoreId) (k : Core) (a : Word) (m d8 : Byte) (d16 : Half) (d32 : W32) : List MemForm :=
  [⟨.st8 c, .st 0, [a], a, 0, none⟩, ⟨.st16 c, .st 1, [a], a, 1, none⟩, ⟨.st32 c, .st 2, [a], a, 2, none⟩,
   ⟨.st64 c, .st 3, [a], a, 3, none⟩, ⟨.stx16 c, .stS16 false, [], k.xp, 1, some false⟩, ⟨.sty16 c, .stS16 true, [], k.yp, 1, some true⟩,
   ⟨.stx c m, .stS false m, [], k.xp, m, some false⟩, ⟨.sty c m, .stS true m, [], k.yp, m, some true⟩,
   ⟨.std8 c m d8, .std8 m d8, [a], a + d8.signExtend 64, m, none⟩,
   ⟨.std16 c m d16, .std16 m d16, [a], a + d16.signExtend 64, m, none⟩,
   ⟨.stpc c m d32, .stpc m d32, [], k.pc + d32.signExtend 64, m, none⟩]

/-- The value that an atomic of R121 and R122 leaves in memory, if it writes: `old` is zero-extended, `a` and `b` are the operands after the
address, of which `n` bytes count. -/
def atomTable (o : AtomOp) (n : Nat) (old a b : Word) : Option Nat := match o with
  | .cas => if old.toNat = a.toNat % 2 ^ (8 * n) then some (b.toNat % 2 ^ (8 * n)) else none
  | .xchg => some (a.toNat % 2 ^ (8 * n))
  | .xadd => some ((old.toNat + a.toNat) % 2 ^ (8 * n))

/-- The command that is an atomic. -/
def atomInstr (c : CoreId) : AtomOp → Bool → Instr
  | .cas, false => .cas32 c | .cas, true => .cas64 c | .xchg, false => .xchg32 c | .xchg, true => .xchg64 c
  | .xadd, false => .xadd32 c | .xadd, true => .xadd64 c

/-- No slice is LOGGING and no physical log is kept (R450, R451). -/
def State.noLog (s : State) : Prop := (∀ n : BitVec 6, (s.slice n).state ≠ 2) ∧ s.smgr.plogEn = false

/-! ### Control registers -/

/-- The control registers as CRD reads them (R51, R58): number, least privileged reader, value. -/
def crdTable (s : State) (c : CoreId) : List (Nat × Nat × Word) :=
  let k := s.core c
  let u := s.ctl[(clusterOf c).val]
  [(0x000, 2, k.cstat), (0x001, 1, k.tsbp), (0x002, 1, k.tsbceil), (0x003, 1, k.dftsbp), (0x004, 1, k.vecbase), (0x005, 1, k.savehead),
   (0x010, 1, winstat k), (0x011, 1, k.spillbase), (0x012, 1, k.spilllim), (0x013, 1, k.rsspill), (0x014, 1, k.rslim),
   (0x020, 2, k.xp), (0x021, 2, k.yp), (0x022, 2, k.xstep), (0x023, 2, k.ystep), (0x030, 2, k.fxctl), (0x031, 2, k.fpctl),
   (0x032, 2, k.vctl ||| (if s.build.wide then 0x100 else 0) ||| (BitVec.ofNat 64 k.fstk.length <<< 16)), (0x040, 1, k.ptroot),
   (0x041, 1, k.pid), (0x042, 1, k.slice.setWidth 64), (0x050, 2, s.sys.count), (0x051, 2, wrap c.val ||| (s.node.setWidth 64 <<< 16)),
   (0x060, 2, u.pkg.setWidth 64 ||| (u.gen.setWidth 64 <<< 32)),
   (0x070, 0, k.dbgctl.setWidth 64 ||| (if k.haltReq then 0x100 else 0) ||| (if k.halted then 0x800 else 0)), (0x071, 0, k.ibp[0]),
   (0x072, 0, k.ibp[1]), (0x073, 0, k.ibp[2]), (0x074, 0, k.ibp[3]), (0x075, 0, k.dbp[0]), (0x076, 0, k.dbp[1]), (0x077, 0, k.dbpcfg),
   (0x078, 0, k.dbgstat)]

/-- The control registers that a CWR of `v` changes at once (R51, R54, R58): number, least privileged writer, the core after it. -/
def cwrTable (k : Core) (v : Word) : List (Nat × Nat × Core) :=
  [(0x001, 1, { k with tsbp := v &&& 0x1F_FFFF_FFFF_FF00 }), (0x003, 0, { k with dftsbp := v &&& 0x1F_FFFF_FFFF_FF00 }),
   (0x005, 1, { k with savehead := v &&& 0xFFFF_FFFF_FFFF_FFC0 }), (0x011, 1, { k with spillbase := v &&& 0xFFFF_FFFF_FFFF_FF80 }),
   (0x012, 1, { k with spilllim := v &&& 0xFFFF_FFFF_FFFF_FF80 }), (0x013, 1, { k with rsspill := v &&& 0xFFFF_FFFF_FFFF_FF80 }),
   (0x014, 1, { k with rslim := v &&& 0xFFFF_FFFF_FFFF_FF80 }), (0x020, 2, { k with xp := v }), (0x021, 2, { k with yp := v }),
   (0x022, 2, { k with xstep := v }), (0x023, 2, { k with ystep := v }), (0x030, 2, { k with fxctl := v &&& 0xF }),
   (0x031, 2, { k with fpctl := v &&& 0x1F03 }), (0x032, 2, { k with vctl := v &&& 0xF }), (0x071, 0, { k with ibp := k.ibp.set 0 v }),
   (0x072, 0, { k with ibp := k.ibp.set 1 v }), (0x073, 0, { k with ibp := k.ibp.set 2 v }), (0x074, 0, { k with ibp := k.ibp.set 3 v }),
   (0x075, 0, { k with dbp := k.dbp.set 0 v }), (0x076, 0, { k with dbp := k.dbp.set 1 v })]

/-- The enable that CRD and CWR of FPCTL and VCTL need (R52): the fault without it, if any. -/
def cregFault (k : Core) (n : Nat) : Option Nat :=
  if n = 0x031 ∧ !k.fen then some 0x03 else if n = 0x032 ∧ !k.ven then some 0x04 else none

/-! ### Events -/

/-- Where the host entry block of the running slice of core `c` stands in local DRAM, if it does (R301). -/
def hebAt (s : State) (c : CoreId) (ha : Nat) : Prop := target s (s.slice (s.core c).slice).heb.toNat = .dram ha

/-- The 64-bit word at offset `o` of memory at `a`. -/
def memWord (s : State) (a o : Nat) : Word := BitVec.ofNat 64 (ofLe (memRead s.mem (a + o) 8))

/-- An entry to PL0 from PL1 or PL2 (R294). -/
def hostEntry (k : Core) (e : EventIn) : Bool := e.pl == 0 && k.pl != 0

/-- The core with the registers of a host entry block loaded, PIDs selecting slice 0 (R301, R440). -/
def withHeb (s : State) (k : Core) (ha : Nat) : Core :=
  { k with
    ptroot := memWord s ha 0 &&& 0x1F_FFFF_FFFF_F001, pid := memWord s ha 8 &&& 0xFFFF, slice := 0,
    vecbase := memWord s ha 0x10 &&& 0xFFFF_FFFF_FFFF_F000, tsbp := memWord s ha 0x18 &&& 0x1F_FFFF_FFFF_FF00,
    tsbceil := ceilLoaded k.tsbceil (memWord s ha 0x20) }

/-- Core `c` takes event `e` without escalation and without a wait: it runs on no reserved window (R170, R171), a level-7 event is not masked
(R297), no repeat and no CWR is in progress, its store buffer is empty, the TSB lies in local DRAM at `a` and, for a host entry, the host
entry block at `ha`, with PIDs selecting slice 0 (R440), stage 2 off for the TSB, and nothing bad in the way. -/
structure Enters (c : CoreId) (s : State) (e : EventIn) (a ha : Nat) : Prop where
  /-- No reserved window. -/
  windows : (s.core c).trapWin = none ∧ (s.core c).dfWin = none
  /-- Not masked. -/
  unmasked : e.level = 7 → (s.core c).ml ≠ 7
  /-- A level of R293. -/
  level : 0 < e.level ∧ e.level ≤ 7
  /-- No repeat. -/
  noRepeat : (s.core c).rep = none
  /-- No CWR in flight. -/
  settled : (s.core c).pend = []
  /-- The store buffer is empty. -/
  drained : (s.core c).sb = []
  /-- No debug step. -/
  noStep : (s.core c).stepOne = false
  /-- The host entry block. -/
  heb : hostEntry (s.core c) e → hebAt s c ha ∧ ha % 64 = 0 ∧ s.smgr.pidtabEn = false ∧ (s.slice 0).s2en = false
  /-- Stage 2 is off. -/
  stage2 : ¬hostEntry (s.core c) e → (s.slice (s.core c).slice).s2en = false
  /-- The place of the TSB in a host entry. -/
  hostPlace : hostEntry (s.core c) e → target s (withHeb s (s.core c) ha).tsbp.toNat = .dram a
  /-- The place of the TSB in a local entry. -/
  place : ¬hostEntry (s.core c) e → target s (s.core c).tsbp.toNat = .dram a
  /-- Nothing bad is in the way. -/
  clean : s.sound
  /-- No cached copy of another complex's line. -/
  noRemote : s.remote = []
  /-- No log is kept. -/
  noLog : s.noLog
  /-- Memory is canonical. -/
  wf : Memory.wf s.mem = true

/-- The fields of the TSB (R299): offset, bytes, value; offsets in no row are 0. -/
def tsbFields (k : Core) (e : EventIn) (host : Bool) : List (Nat × Nat × Nat) :=
  [(0x00, 8, e.pc.toNat), (0x08, 8, k.cstat.toNat), (0x10, 1, e.f.cause), (0x11, 1, e.level), (0x12, 1, e.f.detail.toNat),
   (0x13, 1, e.f.eidx.toNat),
   (0x14, 2, (if e.f.cause = 0x41 then 4 else 0) + (if host then 8 else 0) + (if e.f.bp then 16 else 0) +
      (match e.mc with | some (_, true) => 64 | _ => 0)),
   (0x16, 1, e.code.toNat), (0x17, 1, 0), (0x18, 8, 0), (0x20, 8, e.f.faddr.toNat), (0x28, 8, e.f.faddr2), (0x30, 8, k.fbase),
   (0x38, 8, k.depth), (0x40, 4, k.rfloor), (0x44, 4, k.rdepth), (0x48, 8, e.ibytes.toNat), (0x50, 8, ((e.mc.map Prod.fst).getD 0).toNat),
   (0x58, 8, 0), (0x60, 8, if host then k.ptroot.toNat else 0), (0x68, 8, if host then k.pid.toNat else 0),
   (0x70, 8, if host then k.vecbase.toNat else 0), (0x78, 8, if host then k.tsbp.toNat else 0),
   (0x80, 8, if host then k.tsbceil.toNat else 0), (0x88, 120, 0)]

/-- The core when the handler starts (R295, R300): PL and ML of the entry, SSTEP 0, IMPRECISE for a late store error, MET, VEN and FEN kept;
the frame base and the return floor at the depths; the PC at VECBASE + cause × 16; a window spill fault's handler on the trap window
(R170). -/
def Core.handler (k : Core) (e : EventIn) : Core :=
  let k : Core := { k with
    cstat := (k.cstat &&& 0xE0) ||| e.pl.setWidth 64 ||| BitVec.ofNat 64 (4 * e.level) ||| (if e.f.cause = 0x41 then 0x200 else 0),
    pc := k.vecbase + BitVec.ofNat 64 (16 * e.f.cause), run := .run, rep := none, stepDue := false, bpSkip := false, ext := [],
    mid := false, micro := none, begun := false, waitOp := none }
  if e.f.cause = 0x13 then { k with trapWin := some {} }
  else { k with stk := { k.stk with fbase := k.stk.depth }, rstk := { k.rstk with floor := k.rstk.depth } }

/-- The event is entered: the TSB holds the fields of R299, memory outside it is as before, and the core starts the handler; nothing else that
software sees changes. `k` is the core as the event leaves it, apart from the entry. -/
def EntersAs (c : CoreId) (s : State) (o : Host.Outcome State Fault Refusal) (e : EventIn) (a ha : Nat) (k : Core) : Prop :=
  ∃ t, o = .next t ∧
    t.arch = ({ s with mem := t.mem }.setCore c
      ((if hostEntry (s.core c) e then withHeb s k ha else k).handler e)).arch ∧
    (∀ f ∈ tsbFields (s.core c) e (hostEntry (s.core c) e), memRead t.mem (a + f.1) f.2.1 = leBytes f.2.1 f.2.2) ∧
    (∀ x, x < a ∨ a + 256 ≤ x → memGet t.mem x = memGet s.mem x)

/-- The event that a fault of the instruction at the PC of core `c` is (R293, R294). -/
def faultEvent (k : Core) (f : FaultInfo) (bytes : List Byte) : EventIn :=
  { f := f, level := 7, pc := k.pc, pl := if k.pl = 0 then 0 else 1, ibytes := BitVec.ofNat 64 (ofLe (bytes.take 8)) }

/-- The TSB that RETX reads at `a` (R299, R306): the 64-bit word at an offset. -/
def tsbFlags (s : State) (a : Nat) : Nat := (memWord s a 0x10).toNat / 2 ^ 32 % 2 ^ 16

/-- What core `c` has after RETX to code on its ring stacks, with nothing to push (R305, R306). -/
def Core.returned (k : Core) (s : State) (a : Nat) : Core :=
  { k with
    pc := memWord s a 0, cstat := memWord s a 8 &&& 0x1FF,
    stk := { k.stk with ring := k.stk.ring.drop (k.stk.depth - (memWord s a 0x38).toNat), fbase := (memWord s a 0x30).toNat },
    rstk := { k.rstk with ring := k.rstk.ring.drop (k.rstk.depth - (memWord s a 0x40).toNat / 2 ^ 32),
                          floor := (memWord s a 0x40).toNat % 2 ^ 32 },
    rep := if (tsbFlags s a).testBit 1 then some { left := memWord s a 0x18, fixed := true } else none,
    bpSkip := (tsbFlags s a).testBit 4, ext := [], waitOp := none, begun := false, mid := false, micro := none,
    stepDue := k.sstep && decide (k.ml < 7) }

/-- The CRC of R132 over bytes, bit by bit: reflected, polynomial 0x04C11DB7, no inversion of its own. -/
def crcOver (v : W32) (d : List Byte) : W32 :=
  d.foldl (fun r b => (List.range 8).foldl (fun r i =>
    let out := r.getLsbD 0 != b.getLsbD i
    (r >>> 1) ^^^ (if out then 0xEDB88320 else 0)) r) v

/-! ### Rounding and range -/

/-- `z` is v / 2^k rounded under a mode of FXCTL.RM or VCTL.VRM (R137): toward minus infinity; nearest, ties up; nearest, ties to even; toward
zero. -/
def Rounded (rm : BitVec 2) (v : Int) (k : Nat) (z : Int) : Prop := match rm.toNat with
  | 0 => z * 2 ^ k ≤ v ∧ v < (z + 1) * 2 ^ k
  | 1 => (2 * z - 1) * 2 ^ k ≤ 2 * v ∧ 2 * v < (2 * z + 1) * 2 ^ k
  | 2 => |2 * v - 2 * z * 2 ^ k| ≤ 2 ^ k ∧ (|2 * v - 2 * z * 2 ^ k| = 2 ^ k → z % 2 = 0)
  | _ => if 0 ≤ v then z * 2 ^ k ≤ v ∧ v < (z + 1) * 2 ^ k else (z - 1) * 2 ^ k < v ∧ v ≤ z * 2 ^ k

/-- `r` is `v` brought into `w` bits with saturation on or off, and `ov` says whether it was clamped (R138, R139). -/
def Fitted (sat : Bool) (v : Int) (w : Nat) (r : Int) (ov : Bool) : Prop :=
  if -2 ^ (w - 1) ≤ v ∧ v < 2 ^ (w - 1) then r = v ∧ ov = false
  else if sat then r = (if 0 ≤ v then 2 ^ (w - 1) - 1 else -2 ^ (w - 1)) ∧ ov = true
  else -2 ^ (w - 1) ≤ r ∧ r < 2 ^ (w - 1) ∧ (v - r) % 2 ^ w = 0 ∧ ov = false

/-- A fractional format by field Q of the operand byte (R73, R140): fraction bits and width. -/
def qFrac (x : Byte) : Nat := if x.toNat / 4 % 4 = 0 then 15 else if x.toNat / 4 % 4 = 1 then 31 else 63
/-- The format's width. -/
def qWidth (x : Byte) : Nat := qFrac x + 1
/-- The low bits of an operand read as a signed fraction (R35, R143). -/
def qRead (x : Byte) (a : Word) : Int := Int.bmod a.toNat (2 ^ qWidth x)
/-- The till that an operand byte names. -/
def tillOf (x : Byte) : Fin 4 := ⟨x.toNat % 4, by omega⟩
/-- A till's value. -/
def Core.till (k : Core) (i : Fin 4) : Int := k.tills[i.val].toInt

/-- The fractional instructions that push (R142, R143): the instruction, its operands top first, the exact value that is rounded by `2^k` and
brought back up by `2^u` before it is fitted. -/
def fracPushes (c : CoreId) (k : Core) (x : Byte) (a b : Word) : List (FracOp × Instr × List Word × Int × Nat × Nat) :=
  let f := qFrac x
  let m := min (b.toNat % 64) f
  [(.trd, .trd c x, [], k.till (tillOf x), 71 - f, 0), (.qmul, .qmul c x, [b, a], qRead x a * qRead x b, f, 0),
   (.qadd, .qadd c x, [b, a], qRead x a + qRead x b, 0, 0), (.qsub, .qsub c x, [b, a], qRead x a - qRead x b, 0, 0),
   (.qneg, .qneg c x, [a], -qRead x a, 0, 0), (.qabs, .qabs c x, [a], |qRead x a|, 0, 0), (.qrnd, .qrnd c x, [b, a], qRead x a, m, m)]

/-- A product on its way into a till (R140): exact for Q15 and Q31, 55 bits rounded off for Q63. -/
def Aligned (rm : BitVec 2) (x : Byte) (p z : Int) : Prop :=
  if qFrac x = 63 then Rounded rm p 55 z else z = p * 2 ^ (71 - 2 * qFrac x)

/-- The core with till `i` and SOV after a fit (R139). -/
def Core.tillSet (k : Core) (i : Fin 4) (r : Int) (ov : Bool) : Core :=
  { k with tills := k.tills.set i.val (BitVec.ofInt 80 r), fxctl := if ov then k.fxctl ||| 8 else k.fxctl }

/-! ### The F-stack and its elements -/

/-- The floating format of field f (R74). -/
def formatOf (x : Byte) : FFmt := if x.toNat % 4 = 0 then binary16 else if x.toNat % 4 = 1 then binary32 else binary64
/-- Lane 0 of an entry in that format (R47). -/
def scalarOf (x : Byte) (e : FEntry) : Nat := e.toNat % 2 ^ (formatOf x).w
/-- FPCTL.RM (R62). -/
def Core.frm (k : Core) : BitVec 2 := fieldOf k.fpctl 0 2
/-- The core with a scalar result on the F-stack and its flags (R47, R196). -/
def Core.pushFloat (k : Core) (rest : List FEntry) (r : Nat × FFlags) : Core :=
  { k with fstk := BitVec.ofNat 512 r.1 :: rest, fpctl := k.fpctl ||| (r.2.setWidth 64 <<< 8) }

/-- Element `j` of an entry (R186). -/
def elem (w j : Nat) (e : FEntry) : Nat := e.toNat / 2 ^ (w * j) % 2 ^ w
/-- Bit `j` of a mask: M0 is all ones (R48). -/
def Core.maskBit (k : Core) (i j : Nat) : Bool := i % 8 == 0 || (k.masks[i % 8 - 1]?.getD 0).getLsbD j
/-- Whether the mask byte makes element `j` active (R83, R193). -/
def Core.active (k : Core) (m : Option Byte) (j : Nat) : Bool := k.maskBit (m.getD 0).toNat j
/-- Z (R83). -/
def zeroing (m : Option Byte) : Bool := (m.getD 0).getLsbD 3
/-- `r` holds the elements `f` where the mask is active, and zeros or the elements of `deep` elsewhere, with nothing above the entry's length
(R83, R186, R193). -/
def EntryIs (k : Core) (m : Option Byte) (w n : Nat) (deep : FEntry) (f : Nat → Nat) (r : FEntry) : Prop :=
  r.toNat < 2 ^ (w * n) ∧ ∀ j < n, elem w j r = if k.active m j then f j else if zeroing m then 0 else elem w j deep
/-- The flags of the active elements together (R196). -/
def flagsOver (k : Core) (m : Option Byte) (n : Nat) (f : Nat → FFlags) : FFlags :=
  (List.range n).foldl (fun x j => if k.active m j then x ||| f j else x) 0
/-- Whether an active element was clamped (R196). -/
def anyClamped (k : Core) (m : Option Byte) (n : Nat) (f : Nat → Bool) : Bool := (List.range n).any (fun j => k.active m j && f j)
/-- The core with FPCTL flags and VCTL.VSOV of the active elements set (R196). -/
def Core.noted (k : Core) (fl : FFlags) (sov : Bool) : Core :=
  { k with fpctl := k.fpctl ||| (fl.setWidth 64 <<< 8), vctl := if sov then k.vctl ||| 8 else k.vctl }

/-- An element's value: unsigned for U, signed for I and Q (R202, R206). -/
def elemVal (t : EType) (a : Nat) : Int := if t.k = .u then a else Int.bmod a (2 ^ t.w)

/-- Exact results of I and U types before the low bits are taken (R202). -/
def laneExact (o : VecOp) (w : Nat) (a b d : Int) : Int := match o with
  | .vadd => a + b | .vsub => a - b | .vmul => a * b | .vmulh => a * b / 2 ^ w | .vfma => a * b + d | .vfms => d - a * b
  | .vabs => |a| | .vneg => -a | .vmin => min a b | _ => max a b
/-- Exact results of Q types and the bits that are rounded off (R202). -/
def laneFraction (o : VecOp) (f : Nat) (a b d : Int) : Int × Nat := match o with
  | .vadd => (a + b, 0) | .vsub => (a - b, 0) | .vmul => (a * b, f) | .vfma => (a * b + d * 2 ^ f, f) | .vfms => (d * 2 ^ f - a * b, f)
  | .vabs => (|a|, 0) | .vneg => (-a, 0) | .vmin => (min a b, 0) | _ => (max a b, 0)
/-- Results of F types (R195, R202). -/
def laneFloat (o : VecOp) (f : FFmt) (rm : BitVec 2) (a b d : Nat) : Nat × FFlags := match o with
  | .vadd => f.add rm a b | .vsub => f.sub rm a b | .vmul => f.mul rm a b | .vdiv => f.div rm a b | .vsqrt => f.sqrt rm a
  | .vfma => f.fma rm a b d | .vfms => f.fma rm (f.neg a) b d | .vmin => f.minMax false a b | .vmax => f.minMax true a b
  | .vabs => (f.abs a, 0) | _ => (f.neg a, 0)

/-- What an arithmetic element operation gives (R202, R203): `n` is the count of a shift. -/
def LaneIs (k : Core) (o : VecOp) (t : EType) (a b d n : Nat) (v : LaneRes) : Prop :=
  v.r < 2 ^ t.w ∧ match o with
  | .vand => v.fl = 0 ∧ v.sov = false ∧ ∀ i < t.w, v.r.testBit i = (a.testBit i && b.testBit i)
  | .vor => v.fl = 0 ∧ v.sov = false ∧ ∀ i < t.w, v.r.testBit i = (a.testBit i || b.testBit i)
  | .vxor => v.fl = 0 ∧ v.sov = false ∧ ∀ i < t.w, v.r.testBit i = (a.testBit i != b.testBit i)
  | .vnot => v.fl = 0 ∧ v.sov = false ∧ ∀ i < t.w, v.r.testBit i = !a.testBit i
  | .vshl | .vshls => v.fl = 0 ∧ v.sov = false ∧ v.r = if t.w ≤ n % 64 then 0 else a * 2 ^ (n % 64) % 2 ^ t.w
  | .vshr | .vshrs => v.fl = 0 ∧ v.sov = false ∧ v.r = if t.w ≤ n % 64 then 0 else a / 2 ^ (n % 64)
  | .vsar | .vsars => v.fl = 0 ∧ v.sov = false ∧ ∀ i < t.w, v.r.testBit i = a.testBit (min (i + n % 64) (t.w - 1))
  | o => match t.k with
    | .f => (v.r, v.fl) = laneFloat o t.fmt k.frm a b d ∧ v.sov = false
    | .q => v.fl = 0 ∧ ∃ z r, Rounded (fieldOf k.vctl 0 2) (laneFraction o (t.w - 1) (elemVal t a) (elemVal t b) (elemVal t d)).1
        (laneFraction o (t.w - 1) (elemVal t a) (elemVal t b) (elemVal t d)).2 z ∧ Fitted (k.vctl.getLsbD 2) z t.w r v.sov ∧
        (v.r : Int) = r % 2 ^ t.w
    | _ => v.fl = 0 ∧ v.sov = false ∧ (v.r : Int) = laneExact o t.w (elemVal t a) (elemVal t b) (elemVal t d) % 2 ^ t.w

/-- The element types that a vector instruction accepts (R201). -/
def typeAccepted (o : VecOp) (t : EType) : Prop := match o with
  | .vmulh | .vshl | .vshr | .vsar | .vshls | .vshrs | .vsars | .vredand | .vredor | .vredxor => t.k = .i ∨ t.k = .u
  | .vdiv | .vsqrt | .vcmpUn => t.k = .f
  | .vabs | .vneg => t.k ≠ .u
  | .vlds | .vsts | .vgather | .vscatter => t.w = 32 ∨ t.w = 64
  | _ => True

/-- Core `c` executes a vector instruction whose type and mask bytes R83, R84 and R201 allow, with the enables of R187. `ty` is its element
type, named by the low half of the type byte; `n` its number of elements. -/
structure VecReady (c : CoreId) (s : State) (o : VecOp) (t : Byte) (m : Option Byte) (ty : EType) (n : Nat) : Prop where
  /-- The instruction executes. -/
  ready : Ready c (.vec o t m) s
  /-- CSTAT.VEN and FEN. -/
  enabled : (s.core c).ven = true ∧ (s.core c).fen = true
  /-- The mask byte's upper half is 0. -/
  maskByte : ∀ b, m = some b → b.toNat < 16
  /-- The element type. -/
  type : etypeOf (t.toNat % 16) = some ty
  /-- It is accepted. -/
  accepted : typeAccepted o ty
  /-- The number of elements. -/
  count : n = s.build.vlen / ty.w
  /-- WZ_VLEN is 256 or 512 (R46). -/
  vlen : s.build.vlen = 256 ∨ s.build.vlen = 512

/-- Bytes of a vector instruction. -/
def vecLen (m : Option Byte) : Word := if m.isSome then 4 else 3

/-- A comparison of elements in the order of VCMP.EQ to VCMP.UN (R198, R201). -/
def elemCompare (t : EType) (p : Nat) (a b : Nat) : Bool × FFlags :=
  if t.k = .f then t.fmt.cmp p a b
  else
    let x := elemVal t a
    let y := elemVal t b
    (if p = 0 then x == y else if p = 1 then x != y else if p = 2 then decide (x < y) else if p = 3 then decide (x ≤ y)
      else if p = 4 then decide (y < x) else decide (y ≤ x), 0)

/-- The core with mask `i` written; M0 takes no write (R48). -/
def Core.maskSet (k : Core) (i : Nat) (f : Nat → Bool) : Core :=
  if i % 8 = 0 then k else { k with masks := k.masks.setIfInBounds (i % 8 - 1) (wordOfBits f) }

/-- The two sides of a node of the fixed tree combined; an empty side gives the other (R206). -/
def treeJoin (g : Nat → Nat → Nat × FFlags) (x y : Option Nat × FFlags) : Option Nat × FFlags := match x.1, y.1 with
  | some a, some b => (some (g a b).1, x.2 ||| y.2 ||| (g a b).2)
  | some a, none => (some a, x.2 ||| y.2)
  | none, b => (b, x.2 ||| y.2)

/-- The fixed tree of a floating reduction over the 2^l elements from `j` (R206). -/
def treeFold (g : Nat → Nat → Nat × FFlags) (f : Nat → Option Nat) : Nat → Nat → Option Nat × FFlags
  | 0, j => (f j, 0)
  | l + 1, j => treeJoin g (treeFold g f l j) (treeFold g f l (j + 2 ^ l))

/-! ### The barrow and the save areas -/

/-- The 128 bytes of the lowest block of the operand ring (R151, R152). -/
def Core.lowBlock (k : Core) : List Byte := (k.stk.ring.drop (k.stk.ring.length - 16)).reverse.flatMap (fun w => storeBytes w 8)
/-- The core after that block is spilled (R155). -/
def Core.blockSpilled (k : Core) : Core :=
  { k with spillbase := k.spillbase + 128,
           stk := { k.stk with ring := k.stk.ring.take (k.stk.ring.length - 16), spilled := k.stk.spilled + 1 } }
/-- The two words of a return entry in memory (R153). -/
def entryWords : RetEntry → Word × Word
  | .call a b => ((a &&& 0xFFFF_FFFF_FFFF) ||| 0x1_0000_0000_0000, b)
  | .loop a n => ((a &&& 0xFFFF_FFFF_FFFF) ||| 0x2_0000_0000_0000, n)
  | .invalid => (0, 0)
/-- The 128 bytes of the lowest segment of the return ring (R153). -/
def Core.lowSegment (k : Core) : List Byte :=
  (k.rstk.ring.drop (k.rstk.ring.length - 8)).reverse.flatMap (fun e => storeBytes (entryWords e).1 8 ++ storeBytes (entryWords e).2 8)
/-- The core after that segment is spilled (R155). -/
def Core.segmentSpilled (k : Core) : Core :=
  { k with rsspill := k.rsspill + 128,
           rstk := { k.rstk with ring := k.rstk.ring.take (k.rstk.ring.length - 8), spilled := k.rstk.spilled + 1 } }
/-- A return entry read from two words (R153, R154). -/
def entryOf (w v : Word) : RetEntry :=
  let a := wrap (Int.bmod (w.toNat % 2 ^ 48 : Nat) (2 ^ 48))
  if w.toNat / 2 ^ 48 % 256 = 1 then .call a v else if w.toNat / 2 ^ 48 % 256 = 2 then .loop a v else .invalid
/-- The core after the highest spilled block at `a` is refilled (R155, R162). -/
def Core.blockRefilled (k : Core) (s : State) (a : Nat) : Core :=
  { k with spillbase := k.spillbase - 128,
           stk := { k.stk with ring := k.stk.ring ++ ((List.range (16 - k.stk.cut)).map (fun j => memWord s a (8 * j))).reverse,
                               spilled := k.stk.spilled - 1, cut := 0 } }
/-- The core after the highest spilled segment at `a` is refilled (R155, R162). -/
def Core.segmentRefilled (k : Core) (s : State) (a : Nat) : Core :=
  { k with rsspill := k.rsspill - 128,
           rstk := { k.rstk with
             ring := k.rstk.ring ++
               ((List.range (8 - k.rstk.cut)).map (fun j => entryOf (memWord s a (16 * j)) (memWord s a (16 * j + 8)))).reverse,
             spilled := k.rstk.spilled - 1, cut := 0 } }

/-- The words of a SAVEL area that are not zero by rule: offset, bytes, value (R178, R181 and the area's table). -/
def lowerFields (k : Core) : List (Nat × Nat × Nat) :=
  [(0x00, 8, k.savehead.toNat), (0x08, 4, 1), (0x0C, 4, 1536), (0x10, 4, 0), (0x14, 44, 0)] ++
  (List.finRange 4).map (fun i => (0x40 + 16 * i.val, 16, ((k.tills[i.val]).signExtend 128).toNat)) ++
  [(0x80, 8, k.xp.toNat), (0x88, 8, k.yp.toNat), (0x90, 8, k.xstep.toNat), (0x98, 8, k.ystep.toNat), (0xA0, 8, k.spillbase.toNat),
   (0xA8, 8, k.spilllim.toNat), (0xB0, 8, k.rsspill.toNat), (0xB8, 8, k.rslim.toNat), (0xC0, 8, k.stk.depth), (0xC8, 8, k.stk.spilled),
   (0xD0, 8, k.stk.fbase), (0xD8, 4, k.rstk.depth), (0xDC, 4, k.rstk.spilled), (0xE0, 32, 0)] ++
  (List.range 96).map (fun j => (0x100 + 8 * j, 8, (k.stk.ring.reverse.getD j 0).toNat)) ++
  (List.range 32).flatMap (fun j => [(0x400 + 16 * j, 8, (entryWords (k.rstk.ring.reverse.getD j .invalid)).1.toNat),
                                     (0x408 + 16 * j, 8, (entryWords (k.rstk.ring.reverse.getD j .invalid)).2.toNat)])

/-- The words of a SAVEU area (R178 and the area's table): `e` is the bytes of an F-stack entry. -/
def upperFields (s : State) (k : Core) : List (Nat × Nat × Nat) :=
  let e := s.build.vlen / 8
  [(0x00, 8, k.savehead.toNat), (0x08, 4, 2), (0x0C, 4, 256 + 32 * e), (0x10, 4, s.build.vlen), (0x14, 44, 0)] ++
  (List.finRange 7).map (fun i => (0x40 + 8 * i.val, 8, (k.masks[i.val]).toNat)) ++
  [(0x78, 8, k.fxctl.toNat), (0x80, 8, k.fpctl.toNat),
   (0x88, 8, (k.vctl ||| (if s.build.wide then 0x100 else 0) ||| (BitVec.ofNat 64 k.fstk.length <<< 16)).toNat), (0x90, 48, 0)] ++
  (List.range 32).map (fun j => (0xC0 + e * j, e, (k.fstk.reverse.getD j 0).toNat)) ++ [(0xC0 + 32 * e, 64, 0)]

/-- The core with its lower half replaced from the area at `a` (R179, R580). -/
def Core.lowerRestored (k : Core) (s : State) (a : Nat) : Core :=
  let w := memWord s a
  let sp := (w 0xC8).toNat
  let rd := (w 0xD8).toNat % 2 ^ 32
  let rs := (w 0xD8).toNat / 2 ^ 32
  { k with
    tills := Vector.ofFn (fun i : Fin 4 => BitVec.ofNat 80 (ofLe (memRead s.mem (a + 0x40 + 16 * i.val) 10))),
    xp := w 0x80, yp := w 0x88, xstep := w 0x90, ystep := w 0x98, spillbase := w 0xA0 &&& 0xFFFF_FFFF_FFFF_FF80,
    spilllim := w 0xA8 &&& 0xFFFF_FFFF_FFFF_FF80, rsspill := w 0xB0 &&& 0xFFFF_FFFF_FFFF_FF80, rslim := w 0xB8 &&& 0xFFFF_FFFF_FFFF_FF80,
    stk := { ring := ((List.range ((w 0xC0).toNat - 16 * sp)).map (fun j => w (0x100 + 8 * j))).reverse, spilled := sp, cut := 0,
             fbase := (w 0xD0).toNat },
    rstk := { ring := ((List.range (rd - 8 * rs)).map (fun j => entryOf (w (0x400 + 16 * j)) (w (0x408 + 16 * j)))).reverse, spilled := rs,
              cut := 0, floor := min k.rstk.floor rd },
    savehead := w 0 &&& 0xFFFF_FFFF_FFFF_FFC0 }

/-- The core with its upper half replaced from the area at `a` (R179). -/
def Core.upperRestored (k : Core) (s : State) (a : Nat) : Core :=
  let w := memWord s a
  let e := s.build.vlen / 8
  { k with
    masks := Vector.ofFn (fun i : Fin 7 => w (0x40 + 8 * i.val)), fxctl := w 0x78 &&& 0xF, fpctl := w 0x80 &&& 0x1F03,
    vctl := w 0x88 &&& 0xF,
    fstk := ((List.range ((w 0x88).toNat / 2 ^ 16 % 64)).map (fun j => BitVec.ofNat 512 (ofLe (memRead s.mem (a + 0xC0 + e * j) e)))).reverse,
    savehead := w 0 &&& 0xFFFF_FFFF_FFFF_FFC0 }

/-! ### Commands of the Gardener -/

/-- The complex once the Gardener has accepted command `x` (R463): it executes, and its queue is the one served last. -/
def State.accepting (s : State) (x : GCtx) : State :=
  let u := s.modQueue x.q (fun k => { k with slots := k.slots.modify x.slot (fun c => { c with st := .executing }) })
  { u with gdn := { u.gdn with lastQ := x.q } }

/-- Command `x` is the one whose turn it is (R463), with an opcode. -/
structure Turn (s : State) (x : GCtx) (op : Nat) : Prop where
  /-- The Gardener runs its firmware (R490, R542). -/
  serves : gdnServes s = true
  /-- The turn. -/
  turn : turnOf s = some x.q
  /-- The command. -/
  front : nextPosted s x.q = some (x.slot, x.cmd)
  /-- Its opcode. -/
  opcode : x.cmd.opcode = op

/-- Command `x` is accepted and carried out: its queue may post it (R461, R472), its header and parameters have no reserved bit (R471), and no
command of its exclusion class is executing (R464). -/
structure Accepted (s : State) (x : GCtx) (op : Nat) : Prop extends Turn s x op where
  /-- The queue. -/
  queue : ∀ l, opQueues op = some l → x.q.val ∈ l
  /-- The header. -/
  header : headerOk x.cmd = true
  /-- No reserved parameter bit. -/
  params : paramsOk x.cmd = true
  /-- The class is free. -/
  free : classBusy (s.accepting x) x = false

/-- The bytes of a reply's payload in words, the last one filled with zeros (R470). -/
def wordsOfBytes (d : List Byte) (n : Nat) : List Word := (List.range n).map (fun i => BitVec.ofNat 64 (ofLe ((d.drop (8 * i)).take 8)))

/-! ### Commands of power, ports and links -/

/-- No core waits whose outstanding requests have all been answered: what every command of the machine leaves behind (R111). -/
def State.coresRest (s : State) : Prop := ∀ c : CoreId, (s.core c).ext = [] ∨ ∃ r ∈ (s.core c).ext, r.answer = none

/-- Nor does anything outside the cores wait for a unit to run again (R549, R563). -/
structure State.resting (s : State) : Prop where
  /-- The cores. -/
  cores : s.coresRest
  /-- wz_ss_*. -/
  held : s.ssHeld = []
  /-- The debug port. -/
  debug : s.tap.busy = false ∨ s.tap.parked = false

/-- No POWER_SET or CLOCK_SET of another queue than `q` executes (R550). -/
def State.powerFree (s : State) (q : Fin 4) : Prop := ∀ j : Fin 4, j ≠ q → s.gdn.job[j.val] = none

/-- The cores of region `r` may sleep (R545): each is in WAIT or stopped after a triple-fault reset, none halted or asked to stop, and its store
buffer is empty. Retired cores do not count. -/
def State.regionAsleep (s : State) (r : RegionId) : Prop :=
  ∀ c : CoreId, s.hasCore c = true → regionOf c = r → (s.core c).halted = false ∧ (s.core c).sb = [] ∧
    ((s.core c).retired = true ∨ ((s.core c).quiesced = false ∧ ((s.core c).run = .wait ∨ (s.core c).run = .tripled)))

/-- A wake condition of region `r` (R546). -/
def State.regionCalled (s : State) (r : RegionId) : Prop := (s.region r).depth = 0 ∨ ∃ c : CoreId, s.hasCore c = true ∧ regionOf c = r ∧
  (s.core c).retired = false ∧ (viewAny s c = true ∨ (s.core c).mcheck ≠ none ∨ (s.core c).late ≠ [] ∨ (s.core c).haltReq = true ∨ (s.core c).run = .run)

/-- A wake condition of the complex (R410, R549). -/
def State.complexCalled (s : State) : Prop :=
  (∃ g : Fin 40, s.intc.alatch[g.val] &&& ~~~s.intc.mask[g.val] &&& ~~~s.intc.sense[g.val] ≠ 0) ∨ s.ssHeld ≠ [] ∨
  (s.tap.busy = true ∧ s.tap.parked = true)

/-- The complex with the record of region `r` replaced. -/
def State.setRegion (s : State) (r : RegionId) (k : RegionPwr) : State := { s with pwr := { s.pwr with rgn := s.pwr.rgn.set r.val k } }

/-- The complex with the port `p` replaced. -/
def State.withPort (s : State) (p : PortId) (o : Port) : State := { s with ports := s.ports.set p.val o }

/-- The bit of handshake index `i` (R538). -/
def clkBit (i : Nat) : BitVec 17 := 1 <<< i

/-- Message `m`, for this complex, is the oldest of its class that port `p` has received and not yet handled (R503, R505). -/
structure Handles (s : State) (p : PortId) (m : Msg) : Prop where
  /-- The port is in the build (R6). -/
  present : s.hasPort p = true
  /-- Its logic runs (R495). -/
  runs : portRuns s p = true
  /-- The fabric runs (R538). -/
  fabric : fabRuns s = true
  /-- The port carries messages of the class (R506). -/
  carries : portCarries s.ports[p.val] m.cls = true
  /-- It is the oldest. -/
  front : (s.ports[p.val]).rxq.find? (fun x => x.cls == m.cls) = some m
  /-- Its DST. -/
  here : m.dst = s.node
  /-- A class of R503. -/
  cls : m.cls < 5
  /-- No core is about to go on. -/
  rest : s.coresRest

/-- Message `m` has left the receive buffer of port `p`, and its credits are owed to the peer (R503). -/
def State.freed (s : State) (p : PortId) (m : Msg) : State :=
  let o := s.ports[p.val]
  s.withPort p { o with
    rxq := o.rxq.erase m, owed := Vector.ofFn (fun i : Fin 5 => if i.val = m.cls then o.owed[i.val] + m.units else o.owed[i.val]) }

/-- A response to `m` queued on the port that leads to its SRC, or on the port of arrival (R503 to R505). -/
def State.answering (s : State) (p : PortId) (m : Msg) (op : Nat) (status : Byte) (d : List Byte) : State :=
  queueMsg ((portTo s m.src).getD p)
    { cls := 1, op := op, src := s.node, dst := m.src, tag := m.tag, status := status, addr := m.addr, data := d } s

/-- A frame from the stream port that the TME takes (R513, R514): enabled, its clock running, and the checks passed. -/
structure Taken (s : State) (raw : List Byte) (f : TmeFrame) : Prop where
  /-- The fabric runs (R538). -/
  fabric : fabRuns s = true
  /-- TME_CTL.EN. -/
  enabled : s.tme.en = true
  /-- R514's checks. -/
  good : frameGood s raw false = true
  /-- The frame. -/
  frame : f = frameOf (raw.drop 14)
  /-- Its ACK names no outstanding frame. -/
  noAck : ∀ x ∈ (tmePeer s f.src).out, x.seq ≠ f.ack
  /-- No core is about to go on. -/
  rest : s.coresRest

/-- A sequenced frame taken whose SEQ is the next one (R515). -/
structure InTurn (s : State) (raw : List Byte) (f : TmeFrame) : Prop extends Taken s raw f where
  /-- RESET, or the SEQ after the last accepted. -/
  next : f.reset = true ∨ ∃ v, (tmePeer s f.src).rx = some v ∧ f.seq = v + 1

/-- A frame accepted and acknowledged with a status (R515, R516). -/
def State.acked (s : State) (f : TmeFrame) (status : Byte) : State :=
  let u := setTmePeer { tmePeer s f.src with rx := some f.seq } s
  { u with tme := { u.tme with lastTx := some { kind := 0, src := s.node, dst := f.src, ack := f.seq, status := status } } }

end Sys2Proof.Machine
end

