-- ==== Sys2Proof/Certificates/Slice0/Obligations.lean ====
section
/-!
DEFINITION. Certificates/Slice0/Obligations.lean: the statements about the machine.
-/
open Sys2Proof Sys2Proof.Machine

/-- One step with a command at the front of the queue is exec of it on the state with the queue's rest; with an empty queue one fc passes
(the model's queue and its idle step are DESIGN CHOICE, log entry 35). -/
def Obligations.StepRunsFrontCommand : Prop :=
  (∀ (i : Instr) (rest : List Instr) (s : State), step { s with pending := i :: rest } = exec i { s with pending := rest }) ∧
  (∀ s : State, s.pending = [] → step s = .next (idle s))

/-- NOP, the stack manipulations of R98, PICK and DEPTH of R99, and the literals of R100: the new top of the stack, the next PC, and nothing else
changed. -/
def Obligations.StackAndLiteralResults : Prop :=
  ((∀ (c : CoreId) (s : State), Ready c .nop s → Completes c s (exec (.nop c) s) (s.core c) ((s.core c).pc + 1)) ∧
  (∀ (c : CoreId) (s : State) (o : StkOp) (a b d e : Word) (rest : List Word),
    Ready c (.stk o) s → (s.core c).holds (stkTable o a b d e).1.reverse rest →
    ((s.core c).setOps rest).room (stkTable o a b d e).2.length →
    Completes c s (exec (stkInstr c o) s) ((s.core c).setOps ((stkTable o a b d e).2.reverse ++ rest)) ((s.core c).pc + 1)) ∧
  (∀ (c : CoreId) (s : State) (k : Byte) (l rest : List Word) (v : Word),
    Ready c (.pick k) s → k.toNat < 32 → l.length = k.toNat → (s.core c).holds (l ++ [v]) rest → (s.core c).room 1 →
    Completes c s (exec (.pick c k) s) ((s.core c).setOps (v :: (s.core c).ops)) ((s.core c).pc + 2)) ∧
  (∀ (c : CoreId) (s : State), Ready c .depth s → (s.core c).room 1 →
    Completes c s (exec (.depth c) s) ((s.core c).setOps (BitVec.ofNat 64 (s.core c).frame :: (s.core c).ops)) ((s.core c).pc + 1))) ∧
  (∀ (c : CoreId) (s : State) (k : Fin 11) (i8 : Byte) (i16 : Half) (i32 : W32) (i64 : Word) (x : Instr × CoreOp × Word × Nat),
    x ∈ literalTable c (s.core c).pc k i8 i16 i32 i64 → Ready c x.2.1 s → (s.core c).room 1 →
    Completes c s (exec x.1 s) ((s.core c).setOps (x.2.2.1 :: (s.core c).ops)) ((s.core c).pc + BitVec.ofNat 64 x.2.2.2))

/-- The integer operations and the field instructions (R71, R101 to R105): the result replaces the operands; nothing else changes but the PC, so no
flag is set (R102). DIVS, DIVU, REMS and REMU: for every divisor but 0 (R103). -/
def Obligations.IntegerResults : Prop :=
  (∀ (c : CoreId) (s : State) (o : AluOp) (a b d r : Word) (rest : List Word),
    Ready c (.alu o) s → (aluTable o a b d).2 = some r → (s.core c).holds (aluTable o a b d).1.reverse rest →
    ((s.core c).setOps rest).room 1 →
    Completes c s (exec (aluInstr c o) s) ((s.core c).setOps (r :: rest))
      ((s.core c).pc + BitVec.ofNat 64 (opBytes (.alu o)).length)) ∧
  ((∀ (c : CoreId) (s : State) (o : AluBOp) (i : Byte) (a r : Word) (rest : List Word),
    Ready c (.aluB o i) s → aluBTable o a i = some r → (s.core c).holds [a] rest → ((s.core c).setOps rest).room 1 →
    Completes c s (exec (aluBInstr c i o) s) ((s.core c).setOps (r :: rest))
      ((s.core c).pc + BitVec.ofNat 64 (opBytes (.aluB o i)).length)) ∧
  (∀ (c : CoreId) (s : State) (i : W32) (a : Word) (rest : List Word),
    Ready c (.aluW .addi32 i) s → (s.core c).holds [a] rest → ((s.core c).setOps rest).room 1 →
    Completes c s (exec (.addi32 c i) s) ((s.core c).setOps (wrap (a.toInt + i.toInt) :: rest)) ((s.core c).pc + 6)) ∧
  (∀ (c : CoreId) (s : State) (i : W32) (a : Word) (rest : List Word),
    Ready c (.aluW .andi32 i) s → (s.core c).holds [a] rest → ((s.core c).setOps rest).room 1 →
    Completes c s (exec (.andi32 c i) s)
      ((s.core c).setOps (wordOfBits (fun j => a.getLsbD j && i.getLsbD (if j < 32 then j else 31)) :: rest)) ((s.core c).pc + 6)) ∧
  (∀ (c : CoreId) (s : State) (o : FieldOp) (p l : Byte) (a b : Word) (rest : List Word),
    Ready c (.fld o p l) s → p.toNat < 64 → l.toNat < 64 → p.toNat + l.toNat + 1 ≤ 64 →
    (s.core c).holds (fieldTable o a b p.toNat (l.toNat + 1)).1.reverse rest → ((s.core c).setOps rest).room 1 →
    Completes c s (exec (fieldInstr c p l o) s) ((s.core c).setOps ((fieldTable o a b p.toNat (l.toNat + 1)).2 :: rest))
      ((s.core c).pc + 3)))

/-- The 26 branches of R115: the operands go whether or not the branch is taken, the displacement is added to the address of the branch's
first byte, and nothing else changes. Counted loops (R116): DO opens a loop entry or, for a count of 0, goes to its displacement; LOOP counts
down and goes back or removes the entry; LEAVE removes it. -/
def Obligations.BranchAndLoopResults : Prop :=
  ((∀ (c : CoreId) (s : State) (k : Cond) (d : Byte) (a b : Word) (rest : List Word),
    Ready c (.br k d) s → (s.core c).holds (branchTable k a b).1.reverse rest →
    ((branchTable k a b).2 → Completes c s (exec (branchInstr c d k) s) ((s.core c).setOps rest) ((s.core c).pc + d.signExtend 64)) ∧
    (¬(branchTable k a b).2 → Completes c s (exec (branchInstr c d k) s) ((s.core c).setOps rest) ((s.core c).pc + 2))) ∧
  (∀ (c : CoreId) (s : State) (k : Cond) (d : Half) (a b : Word) (rest : List Word),
    Ready c (.brW k d) s → (s.core c).holds (branchTable k a b).1.reverse rest →
    ((branchTable k a b).2 → Completes c s (exec (branchInstrW c d k) s) ((s.core c).setOps rest) ((s.core c).pc + d.signExtend 64)) ∧
    (¬(branchTable k a b).2 → Completes c s (exec (branchInstrW c d k) s) ((s.core c).setOps rest) ((s.core c).pc + 3)))) ∧
  ((∀ (c : CoreId) (s : State) (i : Instr) (op : CoreOp) (d n : Word) (len : Nat) (rest : List Word),
    ((∃ d8 : Byte, i = .doLoop c d8 ∧ op = .doLoop d8 ∧ d = d8.signExtend 64 ∧ len = 2) ∨
      (∃ d16 : Half, i = .doW c d16 ∧ op = .doW d16 ∧ d = d16.signExtend 64 ∧ len = 3)) →
    Ready c op s → (s.core c).holds [n] rest →
    (n = 0 → Completes c s (exec i s) ((s.core c).setOps rest) ((s.core c).pc + d)) ∧
    (n ≠ 0 → (s.core c).retRoom →
      Completes c s (exec i s)
        (((s.core c).setOps rest).setRets (.loop ((s.core c).pc + BitVec.ofNat 64 len) n :: (s.core c).rets))
        ((s.core c).pc + BitVec.ofNat 64 len))) ∧
  (∀ (c : CoreId) (s : State) (start n : Word) (rest : List RetEntry),
    Ready c .loop s → (s.core c).retTop (.loop start n) rest →
    (n ≠ 1 → Completes c s (exec (.loop c) s) ((s.core c).setRets (.loop start (n - 1) :: rest)) start) ∧
    (n = 1 → Completes c s (exec (.loop c) s) ((s.core c).setRets rest) ((s.core c).pc + 1))) ∧
  (∀ (c : CoreId) (s : State) (start n : Word) (rest : List RetEntry),
    Ready c .leave s → (s.core c).retTop (.loop start n) rest →
    Completes c s (exec (.leave c) s) ((s.core c).setRets rest) ((s.core c).pc + 1)))

/-- Calls, returns and jumps (R38, R40, R118, R119): a call of n arguments saves the next address and the frame base and puts the base
under the arguments; a return of m results puts them where the arguments were. -/
def Obligations.CallReturnAndJumpResults : Prop :=
  (∀ (c : CoreId) (s : State) (n : Fin 8) (d : Half),
    Ready c (.call n d) s → n.val ≤ (s.core c).frame → (s.core c).retRoom →
    Completes c s (exec (.call c n d) s)
      (((s.core c).setRets (.call ((s.core c).pc + 3) (BitVec.ofNat 64 (s.core c).fbase) :: (s.core c).rets)).setBase
        ((s.core c).depth - n.val))
      ((s.core c).pc + d.signExtend 64)) ∧
  (∀ (c : CoreId) (s : State) (n : Byte) (d : W32),
    Ready c (.callL n d) s → n.toNat < 8 → n.toNat ≤ (s.core c).frame → (s.core c).retRoom →
    Completes c s (exec (.callL c n d) s)
      (((s.core c).setRets (.call ((s.core c).pc + 6) (BitVec.ofNat 64 (s.core c).fbase) :: (s.core c).rets)).setBase
        ((s.core c).depth - n.toNat))
      ((s.core c).pc + d.signExtend 64)) ∧
  (∀ (c : CoreId) (s : State) (n : Byte) (a : Word) (rest : List Word),
    Ready c (.calli n) s → n.toNat < 8 → (s.core c).holds [a] rest → n.toNat + 1 ≤ (s.core c).frame → (s.core c).retRoom →
    Completes c s (exec (.calli c n) s)
      ((((s.core c).setOps rest).setRets (.call ((s.core c).pc + 2) (BitVec.ofNat 64 (s.core c).fbase) :: (s.core c).rets)).setBase
        ((s.core c).depth - 1 - n.toNat)) a) ∧
  (∀ (c : CoreId) (s : State) (i : Instr) (op : CoreOp) (m : Nat) (l mid rest : List Word) (a base : Word) (rets : List RetEntry),
    ((i = .ret0 c ∧ op = .ret012 0 ∧ m = 0) ∨ (i = .ret1 c ∧ op = .ret012 1 ∧ m = 1) ∨ (i = .ret2 c ∧ op = .ret012 2 ∧ m = 2) ∨
      (∃ b : Byte, i = .ret c b ∧ op = .ret b ∧ m = b.toNat ∧ m < 8)) →
    Ready c op s → (s.core c).ops = l ++ mid ++ rest → l.length = m → (l ++ mid).length = (s.core c).frame →
    (s.core c).retTop (.call a base) rets → (((s.core c).setOps rest).setRets rets).room m →
    Completes c s (exec i s) ((((s.core c).setOps (l ++ rest)).setRets rets).setBase base.toNat) a) ∧
  (∀ (c : CoreId) (s : State) (d : W32), Ready c (.jmpL d) s →
    Completes c s (exec (.jmpL c d) s) (s.core c) ((s.core c).pc + d.signExtend 64)) ∧
  (∀ (c : CoreId) (s : State) (a : Word) (rest : List Word), Ready c .jmpi s → (s.core c).holds [a] rest →
    Completes c s (exec (.jmpi c) s) ((s.core c).setOps rest) a) ∧
  (∀ (c : CoreId) (s : State) (a : Word), Ready c (.jmpa a) s → Completes c s (exec (.jmpa c a) s) (s.core c) a)

/-- LDL and STL (R39, R71): an entry counted from the frame base is pushed or written; an entry that the frame does not hold raises SB and
changes nothing. The entry is in the ring or the window. -/
def Obligations.FrameEntryAccess : Prop :=
  (∀ (c : CoreId) (s : State) (k : Byte), Ready c (.ldl k) s → k.toNat < 32 →
    (k.toNat < (s.core c).frame → (s.core c).frame ≤ (s.core c).ops.length → (s.core c).room 1 →
      Completes c s (exec (.ldl c k) s)
        ((s.core c).setOps ((s.core c).ops.getD ((s.core c).frame - 1 - k.toNat) 0 :: (s.core c).ops)) ((s.core c).pc + 2)) ∧
    ((s.core c).frame ≤ k.toNat → Faults c (.ldl k) s (exec (.ldl c k) s) { cause := 0x05 })) ∧
  (∀ (c : CoreId) (s : State) (k : Byte), Ready c (.stl k) s → k.toNat < 32 →
    (∀ (v : Word) (rest : List Word), k.toNat + 1 < (s.core c).frame → (s.core c).frame ≤ (s.core c).ops.length →
      (s.core c).ops = v :: rest →
      Completes c s (exec (.stl c k) s) ((s.core c).setOps (rest.set ((s.core c).frame - 2 - k.toNat) v)) ((s.core c).pc + 2)) ∧
    ((s.core c).frame ≤ k.toNat + 1 → Faults c (.stl k) s (exec (.stl c k) s) { cause := 0x05 }))

/-- The loads of R107, XLAT (R133) and the stores of R108 on local DRAM or an own bank: the operands go, a load pushes the bytes that the core sees
there, a store puts the low bytes of the value into the store buffer and leaves every other byte that the core sees, a pointer register moves
(R43), and nothing else changes. -/
def Obligations.LoadAndStoreResults : Prop :=
  ((∀ (c : CoreId) (s : State) (a : Word) (m d8 : Byte) (d16 : Half) (d32 : W32) (a64 : Word) (f : MemForm) (la : Nat) (d : List Byte)
      (rest : List Word),
    f ∈ loadForms c (s.core c) a m d8 d16 d32 a64 → f.legalLoad → Ready c f.op s → (s.core c).holds f.pops rest →
    ((s.core c).setOps rest).room 1 → DataAt c s f.va f.n la → (s.core c).reads s.mem la f.n d →
    Completes c s (exec f.instr s) (f.moved ((s.core c).setOps (loadValue d f.signed :: rest)))
      ((s.core c).pc + BitVec.ofNat 64 (opBytes f.op).length)) ∧
  (∀ (c : CoreId) (s : State) (m : Byte) (base i : Word) (la : Nat) (d : List Byte) (rest : List Word),
    let f : MemForm := ⟨.xlat c m, .xlat m, [i, base], base + i * BitVec.ofNat 64 (2 ^ (m.toNat % 4)), m, none⟩
    f.legalLoad → Ready c f.op s → (s.core c).holds f.pops rest → ((s.core c).setOps rest).room 1 → DataAt c s f.va f.n la →
    (s.core c).reads s.mem la f.n d →
    Completes c s (exec f.instr s) ((s.core c).setOps (loadValue d f.signed :: rest)) ((s.core c).pc + 2))) ∧
  (∀ (c : CoreId) (s : State) (a v : Word) (m d8 : Byte) (d16 : Half) (d32 : W32) (f : MemForm) (la : Nat) (rest : List Word),
    f ∈ storeForms c (s.core c) a m d8 d16 d32 → f.legalStore → Ready c f.op s → (s.core c).holds (f.pops ++ [v]) rest →
    DataAt c s f.va f.n la → (s.core c).sbRoom 2 →
    ∃ sb', sbStored (s.core c).sb sb' la (storeBytes v f.n) ∧
      Completes c s (exec f.instr s) { f.moved ((s.core c).setOps rest) with sb := sb' }
        ((s.core c).pc + BitVec.ofNat 64 (opBytes f.op).length))

/-- STORE_BUFFER_DRAIN (R230): the oldest entry's bytes reach memory and the entry is gone; what the core sees at the entry's addresses is as
before, and no byte outside the entry's block changes. -/
def Obligations.StoreBufferDrainKeepsWhatTheCoreSees : Prop :=
  ∀ (c : CoreId) (s : State) (e : SbEntry) (rest : List SbEntry) (a : Nat),
    s.hasCore c = true → coreClocked s c = true → (s.core c).sb = e :: rest → e.mop = none → e.sent = false → e.bytes.length = 16 →
    (target s e.addr = .dram a ∨ ∃ b, target s e.addr = .spm b a) → s.sound → s.noLog → s.remote = [] → Memory.wf s.mem = true →
    ∃ t, exec (.storeBufferDrain c) s = .next t ∧
      t.arch = ({ s with mem := memWriteMask s.mem a e.bytes }.setCore c { s.core c with sb := rest }).arch ∧
      (∀ j < 16, (sbByte rest (e.addr + j)).getD (memGet t.mem (a + j)) = (sbByte (e :: rest) (e.addr + j)).getD (memGet s.mem (a + j))) ∧
      ∀ x, x < a ∨ a + 16 ≤ x → memGet t.mem x = memGet s.mem x

/-- The atomics of R121 to R123 on local DRAM or an own bank, with the store buffer drained: the old value replaces the operands, memory takes
the new value of exactly the bytes named where one is written; an unaligned address raises AL and changes nothing. -/
def Obligations.AtomicResults : Prop :=
  ∀ (c : CoreId) (s : State) (o : AtomOp) (wide : Bool) (va a b : Word) (la : Nat) (rest : List Word),
    let n := if wide then 8 else 4
    let old := loadValue (memRead s.mem la n) false
    Ready c (.atom o wide) s → (s.core c).holds (if o = .cas then [b, a, va] else [a, va]) rest →
    (va.toNat % n = 0 → DataAt c s va n la → (s.core c).sb = [] → s.noLog → ((s.core c).setOps rest).room 1 →
      Completes c (match atomTable o n old a b with
          | some v => { s with mem := memWrite s.mem la (storeBytes (BitVec.ofNat 64 v) n) }
          | none => s)
        (exec (atomInstr c o wide) s) ((s.core c).setOps (old :: rest)) ((s.core c).pc + 1)) ∧
    (va.toNat % n ≠ 0 → Faults c (.atom o wide) s (exec (atomInstr c o wide) s) { cause := 0x0A, faddr := va })

/-- Operations that stop the instruction with nothing changed: a division by 0 raises DV (R103), an operand byte that R71 does not allow raises
IL, and a stack manipulation, literal-free ALU operation or branch with too few entries in the frame raises SB (R37, R94). -/
def Obligations.PreciseFaults : Prop :=
  (∀ (c : CoreId) (s : State) (o : AluOp) (a : Word) (rest : List Word),
    o = .divs ∨ o = .divu ∨ o = .rems ∨ o = .remu → Ready c (.alu o) s → (s.core c).holds [0, a] rest →
    Faults c (.alu o) s (exec (aluInstr c o) s) { cause := 0x09 }) ∧
  (∀ (c : CoreId) (s : State) (o : AluBOp) (i : Byte), o ≠ .addi8 → 64 ≤ i.toNat → Ready c (.aluB o i) s →
    Faults c (.aluB o i) s (exec (aluBInstr c i o) s) { cause := 0x01 }) ∧
  (∀ (c : CoreId) (s : State) (o : StkOp), Ready c (.stk o) s → (s.core c).frame < (stkTable o 0 0 0 0).1.length →
    Faults c (.stk o) s (exec (stkInstr c o) s) { cause := 0x05 }) ∧
  (∀ (c : CoreId) (s : State) (o : AluOp), Ready c (.alu o) s → (s.core c).frame < (aluTable o 0 0 0).1.length →
    Faults c (.alu o) s (exec (aluInstr c o) s) { cause := 0x05 }) ∧
  (∀ (c : CoreId) (s : State) (k : Cond) (d : Byte), Ready c (.br k d) s → (s.core c).frame < (branchTable k 0 0).1.length →
    Faults c (.br k d) s (exec (branchInstr c d k) s) { cause := 0x05 })

/-- CRD and CWR (R51 to R54, R58): what each register reads as, what a write makes of it, the privilege and enable faults, and IL for a number
that names no register. CSTAT, PTROOT, PID and VECBASE take their value two, or four, instructions later: here the write stands in flight. Each instruction
that completes, here NOP, counts it down, and the write takes effect with the last one. -/
def Obligations.ControlRegisterAccess : Prop :=
  ((∀ (c : CoreId) (s : State) (n : Half) (x : Nat × Nat × Word), x ∈ crdTable s c → n.toNat = x.1 → Ready c (.crd n) s →
    ((s.core c).pl.toNat ≤ x.2.1 → cregFault (s.core c) x.1 = none → (s.core c).room 1 →
      Completes c s (exec (.crd c n) s) ((s.core c).setOps (x.2.2 :: (s.core c).ops)) ((s.core c).pc + 3)) ∧
    (x.2.1 < (s.core c).pl.toNat → Faults c (.crd n) s (exec (.crd c n) s) { cause := 0x02 }) ∧
    (∀ e, (s.core c).pl.toNat ≤ x.2.1 → cregFault (s.core c) x.1 = some e → Faults c (.crd n) s (exec (.crd c n) s) { cause := e })) ∧
  (∀ (c : CoreId) (s : State) (n : Half) (v : Word) (rest : List Word) (x : Nat × Nat × Core),
    x ∈ cwrTable ((s.core c).setOps rest) v → n.toNat = x.1 → Ready c (.cwr n) s → (s.core c).holds [v] rest →
    ((s.core c).pl.toNat ≤ x.2.1 → cregFault (s.core c) x.1 = none →
      Completes c s (exec (.cwr c n) s) x.2.2 ((s.core c).pc + 3)) ∧
    (x.2.1 < (s.core c).pl.toNat → Faults c (.cwr n) s (exec (.cwr c n) s) { cause := 0x02 })) ∧
  (∀ (c : CoreId) (s : State) (n : Half) (v : Word) (rest : List Word) (d : Nat),
    (n.toNat, d) ∈ [(0x000, 2), (0x040, 4), (0x041, 4), (0x004, 4)] → Ready c (.cwr n) s → (s.core c).holds [v] rest →
    (s.core c).pl.toNat ≤ 1 →
    (n = 0 → (s.core c).pl.toNat ≤ v.toNat % 4) →
      ∃ t, exec (.cwr c n) s = .next t ∧ t.arch = (s.setCore c { ((s.core c).setOps rest).ended ((s.core c).pc + 3) with
        pend := [{ reg := n.setWidth 12, val := v, left := d, pl0 := (s.core c).pl == 0 }] }).arch) ∧
  (∀ (c : CoreId) (s : State) (n : Half), n.toNat ∈ [0x010, 0x042, 0x050, 0x051, 0x060] → Ready c (.cwr n) s → (s.core c).pl.toNat ≤ 1 →
    ∀ v rest, (s.core c).holds [v] rest → Completes c s (exec (.cwr c n) s) ((s.core c).setOps rest) ((s.core c).pc + 3)) ∧
  (∀ (c : CoreId) (s : State) (n : Half), (∀ m, (n.toNat, m) ∉ (crdTable s c).map (fun x => (x.1, x.2.1))) → ¬(0x70 ≤ n.toNat ∧ n.toNat < 0x80) →
    (Ready c (.crd n) s → Faults c (.crd n) s (exec (.crd c n) s) { cause := 0x01 }) ∧
    (Ready c (.cwr n) s → Faults c (.cwr n) s (exec (.cwr c n) s) { cause := 0x01 }))) ∧
  (∀ (c : CoreId) (s0 : State) (p : PendCwr), Ready c .nop s0 →
    let s := s0.modCore c (fun k => { k with pend := [p] })
    let k := (s0.core c).ended ((s0.core c).pc + 1)
    (1 < p.left → ∃ t, exec (.nop c) s = .next t ∧ t.arch = (s.setCore c { k with pend := [{ p with left := p.left - 1 }] }).arch) ∧
    (p.left = 1 → p.reg = 0x004 → ∃ t, exec (.nop c) s = .next t ∧
      t.arch = (s.setCore c { k with pend := [], vecbase := p.val &&& 0xFFFF_FFFF_FFFF_F000 }).arch) ∧
    (p.left = 1 → p.reg = 0x040 → ∃ t, exec (.nop c) s = .next t ∧
      t.arch = (s.setCore c { k with pend := [], ptroot := p.val &&& 0x1F_FFFF_FFFF_F001 }).arch) ∧
    (p.left = 1 → p.reg = 0x041 → s0.smgr.pidtabEn = false → ∃ t, exec (.nop c) s = .next t ∧
      t.arch = (s.setCore c { k with pend := [], pid := p.val &&& 0xFFFF, slice := 0 }).arch) ∧
    (p.left = 1 → p.reg = 0x000 → p.val.getLsbD 5 = false → p.val.toNat % 4 ≠ 3 → (s0.core c).pl.toNat ≤ p.val.toNat % 4 →
      ∃ t, exec (.nop c) s = .next t ∧
        t.arch = (s.setCore c { k with pend := [], cstat := (p.val &&& 0x1FF) ||| ((s0.core c).cstat &&& 0x200) }).arch))

/-- Instructions whose effect is an event (R94, R98, R127, R293, R299 to R301): SYSCALL and HYPCALL complete and enter 0x20 and 0x21 at the
next address; ILL and a reserved encoding enter 0x01 and BRK 0x1B at their own. The TSB, the new CSTAT, the PC and the frame base are as R299
and R300 say. -/
def Obligations.EventInstructionsEnter : Prop :=
  (∀ (c : CoreId) (s : State) (code : Byte) (a ha : Nat),
    let e : EventIn := { f := { cause := 0x20 }, level := 7, pc := (s.core c).pc + 2, pl := if (s.core c).pl = 0 then 0 else 1, code := code }
    Ready c (.syscall code) s → Enters c s e a ha → EntersAs c s (exec (.syscall c code) s) e a ha (s.core c)) ∧
  (∀ (c : CoreId) (s : State) (code : Byte) (a ha : Nat),
    let e : EventIn := { f := { cause := 0x21 }, level := 7, pc := (s.core c).pc + 2, pl := 0, code := code }
    Ready c (.hypcall code) s →
    ((s.core c).pl.toNat ≤ 1 → Enters c s e a ha → EntersAs c s (exec (.hypcall c code) s) e a ha (s.core c)) ∧
    (1 < (s.core c).pl.toNat → Faults c (.hypcall code) s (exec (.hypcall c code) s) { cause := 0x02 })) ∧
  (∀ (c : CoreId) (s : State) (a ha : Nat),
    let e := faultEvent (s.core c) { cause := 0x01 } [0x0F]
    Ready c .ill s → Enters c s e a ha → EntersAs c s (exec (.ill c) s) e a ha (s.core c)) ∧
  (∀ (c : CoreId) (s : State) (b : List Byte) (a ha : Nat),
    let e := faultEvent (s.core c) { cause := 0x01 } b
    Poised c b (classOf s c (.reserved b) b) s → opRoute s c (.reserved b) b = .illegal ∨ opRoute s c (.reserved b) b = .native →
    isReserved b = true → Enters c s e a ha → EntersAs c s (exec (.reservedEncoding c b) s) e a ha (s.core c)) ∧
  (∀ (c : CoreId) (s : State) (a ha : Nat),
    let e := faultEvent (s.core c) { cause := 0x1B } [0xCB]
    Ready c .brk s → (s.core c).dbgctl.getLsbD 6 = false → Enters c s e a ha → EntersAs c s (exec (.brk c) s) e a ha (s.core c))

/-- EVENT_ENTRY (R296 to R300): of what is due, a single step comes before a machine check, that before a late store error, and that before an
interrupt; the event taken is no longer pending. When EVENT_ENTRY acts is read as in log entry 56 (DEDUCED). -/
def Obligations.EventEntryTakesTheDueEvent : Prop :=
  ∀ (c : CoreId) (s : State) (a ha : Nat) (e : EventIn) (k : Core),
    coreLive s c = true → (s.core c).run = .run → inStretch (s.core c) = false → (s.core c).quiesced = false → (s.core c).haltReq = false →
    (s.core c).lastIssue = none → Enters c s e a ha →
    let p : BitVec 2 := if (s.core c).pl = 0 then 0 else 1
    (((s.core c).stepDue = true ∧ (s.core c).ml < 7 ∧ e = { f := { cause := 0x1A }, level := 7, pc := (s.core c).pc, pl := p } ∧ k = s.core c) ∨
     ((s.core c).stepDue = false ∧ (s.core c).ml < 6 ∧ ∃ m, (s.core c).mcheck = some m ∧
        e = { f := { cause := 0x40, faddr2 := m.pa }, level := 6, pc := m.at?.getD (s.core c).pc, pl := 0, mc := some (m.cause, m.lost) } ∧
        k = { s.core c with mcheck := none }) ∨
     ((s.core c).stepDue = false ∧ (s.core c).ml < 6 ∧ (s.core c).mcheck = none ∧ ∃ x l, (s.core c).late = x :: l ∧
        e = { f := { cause := 0x41, faddr2 := x }, level := 6, pc := (s.core c).pc, pl := p } ∧ k = { s.core c with late := l }) ∨
     ((s.core c).stepDue = false ∧ ((s.core c).mcheck = none ∧ (s.core c).late = [] ∨ 6 ≤ (s.core c).ml) ∧ ∃ l own,
        intrDue s c (s.core c).ml = some (l, own) ∧
        e = { f := { cause := 0x50 + l }, level := l, pc := (s.core c).pc, pl := if own = true ∧ (s.core c).pl ≠ 0 then 1 else 0 } ∧
        k = s.core c)) →
    EntersAs c s (exec (.eventEntry c) s) e a ha k

/-- RETX (R305, R306) to code on the ring stacks: PC, CSTAT, depths, frame base, return floor, a held repeat and the breakpoint suppression come
back from the TSB; a saved PL of 0b11 or more privileged than TSBCEIL or the running code raises RP, and PL2 raises PV. -/
def Obligations.ReturnFromEvent : Prop :=
  ∀ (c : CoreId) (s : State) (a : Nat), Ready c .retx s →
    (2 ≤ (s.core c).pl.toNat → Faults c .retx s (exec (.retx c) s) { cause := 0x02 }) ∧
    ((s.core c).pl.toNat < 2 → (s.core c).trapWin = none → (s.core c).dfWin = none → (s.slice (s.core c).slice).s2en = false →
      target s (s.core c).tsbp.toNat = .dram a → (s.core c).sb = [] → s.sound →
      let pl := (memWord s a 8).toNat % 4
      (((tsbFlags s a).testBit 3 = true ∧ (s.core c).pl ≠ 0) ∨ pl = 3 ∨ pl < (s.core c).tsbceil.toNat % 4 ∨ pl < (s.core c).pl.toNat →
        Faults c .retx s (exec (.retx c) s) { cause := 0x15 }) ∧
      ((tsbFlags s a).testBit 3 = false → (tsbFlags s a).testBit 0 = false → pl ≠ 3 → (s.core c).tsbceil.toNat % 4 ≤ pl →
        (s.core c).pl.toNat ≤ pl → (memWord s a 8).getLsbD 5 = false →
        (memWord s a 0x38).toNat ≤ (s.core c).stk.depth → (s.core c).stk.depth - (memWord s a 0x38).toNat ≤ (s.core c).stk.ring.length →
        (memWord s a 0x40).toNat / 2 ^ 32 ≤ (s.core c).rstk.depth →
        (s.core c).rstk.depth - (memWord s a 0x40).toNat / 2 ^ 32 ≤ (s.core c).rstk.ring.length →
        ∃ t, exec (.retx c) s = .next t ∧ t.arch = (s.setCore c ((s.core c).returned s a)).arch))

/-- The fences, WAIT, WAIT_END and the five TLBI forms (R125, R126, R128, R129, R336). When a wait ends is read as in log entry 42 (DEDUCED). -/
def Obligations.FencesWaitsAndInvalidations : Prop :=
  (∀ (c : CoreId) (s : State) (i : Instr) (op : CoreOp),
    (i = .fenceO c ∧ op = .fenceO) ∨ (i = .fenceS c ∧ op = .fenceS) ∨ (i = .fenceI c ∧ op = .fenceI) → Ready c op s →
    ((s.core c).sb = [] → Completes c s (exec i s) (s.core c) ((s.core c).pc + 1)) ∧
    (∀ e a, (s.core c).sb = [e] → e.mop = none → e.sent = false → e.bytes.length = 16 →
      (target s e.addr = .dram a ∨ ∃ b, target s e.addr = .spm b a) → s.sound → s.noLog →
      Completes c { s with mem := memWriteMask s.mem a e.bytes } (exec i s) { s.core c with sb := [] } ((s.core c).pc + 1))) ∧
  (∀ (c : CoreId) (s : State), Ready c .wait s →
    (1 < (s.core c).pl.toNat → Faults c .wait s (exec (.wait c) s) { cause := 0x02 }) ∧
    ((s.core c).pl.toNat ≤ 1 →
      (viewAny s c = true ∨ (s.core c).mcheck ≠ none ∨ (s.core c).late ≠ [] →
        Completes c s (exec (.wait c) s) (s.core c) ((s.core c).pc + 1)) ∧
      (viewAny s c = false → (s.core c).mcheck = none → (s.core c).late = [] → (s.core c).haltReq = false →
        Completes c s (exec (.wait c) s) { s.core c with run := .wait } ((s.core c).pc + 1)))) ∧
  (∀ (c : CoreId) (s : State), coreLive s c = true → (s.core c).run = .wait →
    (viewAny s c = true ∨ (s.core c).mcheck ≠ none ∨ (s.core c).late ≠ [] →
      exec (.waitEnd c) s = .next (s.setCore c { s.core c with run := .run })) ∧
    (viewAny s c = false → (s.core c).mcheck = none → (s.core c).late = [] → (s.core c).haltReq = false →
      exec (.waitEnd c) s = .next s)) ∧
  (∀ (c : CoreId) (s : State) (sel : Fin 5) (i : Instr) (va pid : Word) (pops rest : List Word),
    (sel, i, pops) ∈ ([(0, .tlbiAll c, []), (1, .tlbiByAddress c, [va]), (2, .tlbiByPid c, [pid]), (3, .tlbiByAddressAndPid c, [pid, va]),
      (4, .tlbiStage2 c, [])] : List (Fin 5 × Instr × List Word)) →
    Ready c (.tlbi (BitVec.ofNat 8 sel.val)) s → (s.core c).holds pops rest →
    (sel.val < 4 → 1 < (s.core c).pl.toNat → Faults c (.tlbi (BitVec.ofNat 8 sel.val)) s (exec i s) { cause := 0x02 }) ∧
    (sel.val = 4 → 0 < (s.core c).pl.toNat → Faults c (.tlbi 4) s (exec i s) { cause := 0x02 }) ∧
    ((s.core c).pl.toNat ≤ (if sel.val = 4 then 0 else 1) →
      Completes c s (exec i s) ((s.core c).setOps rest) ((s.core c).pc + 2) ∧
      ∀ t, exec i s = .next t →
        let gone (e : TlbEntry) : Prop := e.slice = (s.core c).slice ∧ match sel with
          | 0 => e.kind ≠ .stage2
          | 1 => (∃ l, e.kind = .table l) ∨ e.kind = .combined ∧ va.toNat / 2 ^ e.bits = e.inp / 2 ^ e.bits
          | 2 => (∃ l, e.kind = .table l) ∨ e.kind = .combined ∧ e.pid = pid.setWidth 16 ∧ e.glob = false
          | 3 => (∃ l, e.kind = .table l) ∨ e.kind = .combined ∧ va.toNat / 2 ^ e.bits = e.inp / 2 ^ e.bits ∧
              (e.pid = pid.setWidth 16 ∨ e.glob = true)
          | _ => True
        (∀ e ∈ (t.core c).itlb ++ (t.core c).dtlb ++ (t.core c).l2tlb, ¬gone e) ∧
        (∀ e ∈ (s.core c).dtlb, gone e ∨ e ∈ (t.core c).dtlb)))

/-- CACHE (R129, R340, R341): each of the four operations on a line enters the store buffer as an entry of its own; IC.INVALL empties L1I but for
the locks; a lock is set where no line of the set is locked, and UNLOCK removes the core's locks of the line. -/
def Obligations.CacheOperationResults : Prop :=
  (∀ (c : CoreId) (s : State) (i : Instr) (sel : Byte) (m : CacheMop) (lim : Nat) (va : Word) (rest : List Word) (la : Nat),
    (i, sel, m, lim) ∈ ([(.dcClean c, 0, .dcClean, 2), (.dcInv c, 1, .dcInv, 1), (.dcClinv c, 2, .dcClinv, 2), (.icInv c, 3, .icInv, 2)] :
      List (Instr × Byte × CacheMop × Nat)) →
    Ready c (.cache sel) s → (s.core c).holds [va] rest → DataAt c s va 1 la → target s va.toNat = .dram la → (s.core c).sb.length < 8 →
    ((s.core c).pl.toNat ≤ lim →
      let e : SbEntry := ⟨la / 64 * 64, [], .cacheable, va.toNat, (s.core c).pl, (s.core c).slice, some m, false⟩
      Completes c s (exec i s) { (s.core c).setOps rest with sb := (s.core c).sb ++ [e] } ((s.core c).pc + 2)) ∧
    (lim < (s.core c).pl.toNat → Faults c (.cache sel) s (exec i s) { cause := 0x02 })) ∧
  (∀ (c : CoreId) (s : State), Ready c (.cache 4) s → (s.core c).pl.toNat ≤ 1 →
    Completes c s (exec (.icInvall c) s) (s.core c) ((s.core c).pc + 2) ∧
    ∀ t, exec (.icInvall c) s = .next t → ∀ e ∈ (t.core c).l1i, e.locked = true ∧ e.held = false) ∧
  (∀ (c : CoreId) (s : State) (va : Word) (rest : List Word) (la : Nat), (s.core c).holds [va] rest → DataAt c s va 1 la →
    target s va.toNat = .dram la → (s.core c).sb = [] → (s.core c).pl.toNat ≤ 1 →
    (Ready c (.cache 5) s →
      Completes c s (exec (.l1Lock c) s) ((s.core c).setOps rest) ((s.core c).pc + 2) ∧
      ((∀ e ∈ (s.core c).l1i, e.locked = false) → ∀ t, exec (.l1Lock c) s = .next t →
        ∃ e ∈ (t.core c).l1i, e.line = la / 64 ∧ e.locked = true)) ∧
    (Ready c (.cache 6) s →
      Completes c s (exec (.l2Lock c) s) ((s.core c).setOps rest) ((s.core c).pc + 2) ∧
      ((∀ e ∈ s.l2[(clusterOf c).val], e.lockers = []) → ∀ t, exec (.l2Lock c) s = .next t →
        ∃ e ∈ t.l2[(clusterOf c).val], e.line = la / 64 ∧ coreSlot c ∈ e.lockers)) ∧
    (Ready c (.cache 7) s →
      Completes c s (exec (.unlock c) s) ((s.core c).setOps rest) ((s.core c).pc + 2) ∧
      ∀ t, exec (.unlock c) s = .next t →
        (∀ e ∈ (t.core c).l1i ++ (t.core c).l1d, e.line = la / 64 → e.locked = false) ∧
        ∀ e ∈ t.l2[(clusterOf c).val], e.line = la / 64 → coreSlot c ∉ e.lockers))

/-- MOVE, FILL, CRC32 and CMPS (R131 to R135): of length 0 they only take their operands; a length that one unit of R134 covers is done and the
operands go; a longer FILL allowed no event point stops after its unit with the operands brought forward. -/
def Obligations.BlockOperationResults : Prop :=
  (∀ (c : CoreId) (s : State) (u : Nat) (a b : Word) (rest : List Word), (s.core c).holds [0, b, a] rest →
    (Ready c .move s → Completes c s (exec (.move c u) s) ((s.core c).setOps rest) ((s.core c).pc + 1)) ∧
    (Ready c .fill s → Completes c s (exec (.fill c u) s) ((s.core c).setOps rest) ((s.core c).pc + 1)) ∧
    (Ready c .crc32 s → Completes c s (exec (.crc32 c u) s) ((s.core c).setOps (wrap (a.toNat % 2 ^ 32 : Nat) :: rest)) ((s.core c).pc + 1)) ∧
    (Ready c .cmps s → Completes c s (exec (.cmps c u) s) ((s.core c).setOps (0 :: rest)) ((s.core c).pc + 1))) ∧
  (∀ (c : CoreId) (s : State) (u : Nat) (n src dst : Word) (ls ld : Nat) (d : List Byte) (rest : List Word),
    Ready c .move s → (s.core c).holds [n, src, dst] rest → n ≠ 0 → n.toNat ≤ 16 - dst.toNat % 16 →
    ¬(src.toNat < dst.toNat ∧ dst.toNat < src.toNat + n.toNat) → DataAt c s src n.toNat ls → DataAt c s dst n.toNat ld →
    (s.core c).reads s.mem ls n.toNat d → (s.core c).sbRoom 1 →
    ∃ sb', sbStored (s.core c).sb sb' ld d ∧
      Completes c s (exec (.move c u) s) { (s.core c).setOps rest with sb := sb' } ((s.core c).pc + 1)) ∧
  (∀ (c : CoreId) (s : State) (n b dst : Word) (k ld : Nat) (rest : List Word), Ready c .fill s → (s.core c).holds [n, b, dst] rest → n ≠ 0 →
    k = min n.toNat (16 - dst.toNat % 16) → DataAt c s dst k ld → (s.core c).sbRoom 1 →
    ∃ sb', sbStored (s.core c).sb sb' ld (List.replicate k (b.setWidth 8)) ∧
      (n.toNat = k → ∀ u, Completes c s (exec (.fill c u) s) { (s.core c).setOps rest with sb := sb' } ((s.core c).pc + 1)) ∧
      (k < n.toNat → ∃ t, exec (.fill c 0) s = .next t ∧
        t.arch = (s.setCore c { (s.core c).setOps ((n - BitVec.ofNat 64 k) :: b :: (dst + BitVec.ofNat 64 k) :: rest) with
          sb := sb', ext := [], waitOp := none, begun := false, bpSkip := (s.core c).bpSkip && (s.core c).rep.isSome, mid := true }).arch)) ∧
  (∀ (c : CoreId) (s : State) (u : Nat) (n a v : Word) (la : Nat) (d : List Byte) (rest : List Word),
    Ready c .crc32 s → (s.core c).holds [n, a, v] rest → n ≠ 0 → n.toNat ≤ 16 - a.toNat % 16 → DataAt c s a n.toNat la →
    (s.core c).reads s.mem la n.toNat d →
    Completes c s (exec (.crc32 c u) s) ((s.core c).setOps ((crcOver (v.setWidth 32) d).setWidth 64 :: rest)) ((s.core c).pc + 1)) ∧
  (∀ (c : CoreId) (s : State) (u : Nat) (n a b : Word) (la lb : Nat) (da db : List Byte) (rest : List Word),
    Ready c .cmps s → (s.core c).holds [n, b, a] rest → n ≠ 0 → n.toNat ≤ 16 - a.toNat % 16 → DataAt c s a n.toNat la →
    DataAt c s b n.toNat lb → (s.core c).reads s.mem la n.toNat da → (s.core c).reads s.mem lb n.toNat db →
    (da = db → Completes c s (exec (.cmps c u) s) ((s.core c).setOps (0 :: rest)) ((s.core c).pc + 1)) ∧
    (∀ l x y xs ys, da = l ++ x :: xs → db = l ++ y :: ys → x ≠ y →
      Completes c s (exec (.cmps c u) s) ((s.core c).setOps ((if x.toNat < y.toNat then -1 else 1) :: rest)) ((s.core c).pc + 1)))

/-- RPT and RPTN (R77 to R81): a count of 0 passes over the body; a repeated INC adds its count, for any count that the command's event points and
the fixed count byte cover; a body outside the repeatable set raises IL and nothing changes. How many iterations a command may run is the model's
operand (log entry 11). -/
def Obligations.RepeatResults : Prop :=
  (∀ (c : CoreId) (s : State) (body : CoreOp) (u : Nat) (rest : List Word), repeatable body = true →
    Poised c (0xF0 :: opBytes body) .other s → (s.core c).rep = none → (s.core c).mid = false → (s.core c).holds [0] rest →
    Completes c s (exec (.rpt c body u) s) ((s.core c).setOps rest) ((s.core c).pc + BitVec.ofNat 64 ((opBytes body).length + 1))) ∧
  (∀ (c : CoreId) (s : State) (n u : Nat) (a : Word) (rest : List Word), 0 < n → n ≤ u → u < 2 ^ 32 →
    Poised c [0xF0, 0x23] .other s → opRoute s c (.alu .inc) [0x23] = .native → eventDue s c = false → (s.core c).quiesced = false → (s.core c).haltReq = false →
    (s.core c).rep = none → (s.core c).mid = false → (s.core c).holds [BitVec.ofNat 64 n, a] rest → ((s.core c).setOps rest).room 1 →
    Completes c s (exec (.rpt c (.alu .inc) u) s) ((s.core c).setOps ((a + BitVec.ofNat 64 n) :: rest)) ((s.core c).pc + 2)) ∧
  (∀ (c : CoreId) (s : State) (n : Byte) (a : Word) (rest : List Word), n.toNat < 64 →
    Poised c [0xF1, n, 0x23] .other s → opRoute s c (.alu .inc) [0x23] = .native → (s.core c).rep = none → (s.core c).mid = false →
    (s.core c).holds [a] rest → ((s.core c).setOps rest).room 1 →
    Completes c s (exec (.rptn c n (.alu .inc)) s) ((s.core c).setOps ((a + BitVec.ofNat 64 (n.toNat + 1)) :: rest)) ((s.core c).pc + 3)) ∧
  (∀ (c : CoreId) (s : State) (body : CoreOp) (u a ha : Nat), repeatable body = false → Poised c (0xF0 :: opBytes body) .other s →
    Enters c s (faultEvent (s.core c) { cause := 0x01 } (0xF0 :: opBytes body)) a ha →
    EntersAs c s (exec (.rpt c body u) s) (faultEvent (s.core c) { cause := 0x01 } (0xF0 :: opBytes body)) a ha (s.core c))

/-- rnd and fit are the functions of R137 and R138: rnd gives the integer that its mode names, and fit the value in range, the clamped value with
SOV, or the wrapped value without. -/
def Obligations.RoundingAndRange : Prop :=
  (∀ (rm : BitVec 2) (v : Int) (k : Nat) (z : Int), k < 64 → (rnd rm v k = z ↔ Rounded rm v k z)) ∧
  (∀ (sat : Bool) (v : Int) (w : Nat) (r : Int) (ov : Bool), w ∈ [16, 32, 64, 80] → (fit sat v w = (r, ov) ↔ Fitted sat v w r ov))

/-- The fractional and till instructions (R140 to R145, R148). -/
def Obligations.FractionalResults : Prop :=
  (∀ (c : CoreId) (s : State) (x : Byte) (a b : Word) (y : FracOp × Instr × List Word × Int × Nat × Nat) (z r : Int) (ov : Bool)
      (rest : List Word),
    y ∈ fracPushes c (s.core c) x a b → x.toNat < 12 → (y.1 = .trd ∨ x.toNat % 4 = 0) → Ready c (.frac y.1 x) s →
    (s.core c).holds y.2.2.1 rest → ((s.core c).setOps rest).room 1 →
    Rounded (fieldOf (s.core c).fxctl 0 2) y.2.2.2.1 y.2.2.2.2.1 z →
    Fitted ((s.core c).fxctl.getLsbD 2) (z * 2 ^ y.2.2.2.2.2) (qWidth x) r ov →
    Completes c s (exec y.2.1 s) ({ s.core c with fxctl := if ov then (s.core c).fxctl ||| 8 else (s.core c).fxctl }.setOps (wrap r :: rest))
      ((s.core c).pc + 2)) ∧
  (∀ (c : CoreId) (s : State) (x : Byte) (sub : Bool) (a b : Word) (z r : Int) (ov : Bool) (rest : List Word), x.toNat < 12 →
    Ready c (.frac (if sub then .tmsu else .tmac) x) s → (s.core c).holds [b, a] rest →
    Aligned (fieldOf (s.core c).fxctl 0 2) x (qRead x a * qRead x b) z →
    Fitted ((s.core c).fxctl.getLsbD 2) ((s.core c).till (tillOf x) + if sub then -z else z) 80 r ov →
    Completes c s (exec (if sub then .tmsu c x else .tmac c x) s) (((s.core c).setOps rest).tillSet (tillOf x) r ov) ((s.core c).pc + 2)) ∧
  (∀ (c : CoreId) (s : State) (x : Byte), x.toNat < 12 → Ready c (.frac .tclr x) s →
    Completes c s (exec (.tclr c x) s) ((s.core c).tillSet (tillOf x) 0 false) ((s.core c).pc + 2)) ∧
  (∀ (c : CoreId) (s : State) (x : Byte) (r : Int) (ov : Bool), x.toNat / 4 % 4 < 3 → Ready c (.frac .tshl x) s →
    Fitted ((s.core c).fxctl.getLsbD 2) ((s.core c).till (tillOf x) * 2 ^ (x.toNat / 16 + 1)) 80 r ov →
    Completes c s (exec (.tshl c x) s) ((s.core c).tillSet (tillOf x) r ov) ((s.core c).pc + 2)) ∧
  (∀ (c : CoreId) (s : State) (x : Byte) (z : Int), x.toNat / 4 % 4 < 3 → Ready c (.frac .tshr x) s →
    Rounded (fieldOf (s.core c).fxctl 0 2) ((s.core c).till (tillOf x)) (x.toNat / 16 + 1) z →
    Completes c s (exec (.tshr c x) s) ((s.core c).tillSet (tillOf x) z false) ((s.core c).pc + 2)) ∧
  (∀ (c : CoreId) (s : State) (x : Byte) (i : Fin 4), x.toNat / 4 % 4 < 3 → x.toNat / 16 = i.val → Ready c (.frac .tmov x) s →
    Completes c s (exec (.tmov c x) s) { s.core c with tills := (s.core c).tills.set (tillOf x).val (s.core c).tills[i.val] } ((s.core c).pc + 2)) ∧
  (∀ (c : CoreId) (s : State) (x : Byte) (a : Word) (rest : List Word), x.toNat < 12 → Ready c (.frac .tld x) s → (s.core c).holds [a] rest →
    Completes c s (exec (.tld c x) s) (((s.core c).setOps rest).tillSet (tillOf x) (qRead x a * 2 ^ (71 - qFrac x)) false) ((s.core c).pc + 2)) ∧
  (∀ (c : CoreId) (s : State) (x : Byte) (sub : Bool) (da db : List Byte) (la lb : Nat) (z r : Int) (ov : Bool), x.toNat < 12 →
    Ready c (.frac (if sub then .fmsuxy else .fmacxy) x) s → DataAt c s (s.core c).xp (qWidth x / 8) la →
    DataAt c s (s.core c).yp (qWidth x / 8) lb → (s.core c).reads s.mem la (qWidth x / 8) da →
    (s.core c).reads s.mem lb (qWidth x / 8) db →
    Aligned (fieldOf (s.core c).fxctl 0 2) x (qRead x (loadValue da false) * qRead x (loadValue db false)) z →
    Fitted ((s.core c).fxctl.getLsbD 2) ((s.core c).till (tillOf x) + if sub then -z else z) 80 r ov →
    Completes c s (exec (if sub then .fmsuxy c x else .fmacxy c x) s)
      ({ s.core c with xp := (s.core c).xp + (s.core c).xstep, yp := (s.core c).yp + (s.core c).ystep }.tillSet (tillOf x) r ov)
      ((s.core c).pc + 2))

/-- Scalar floating point (R187, R190, R195, R197 to R199): the operands of the F-stack are replaced by the result in lane 0, the flags are set,
and nothing else changes; CSTAT.FEN = 0 raises FD, and too few entries raise FU. -/
def Obligations.ScalarFloatResults : Prop :=
  (∀ (c : CoreId) (s : State) (x : Byte) (ops : List FEntry) (rest : List FEntry) (y : FpOp × Instr × Nat × (Nat → Nat → Nat → Nat × FFlags)),
    let f := formatOf x
    let rm := (s.core c).frm
    y ∈ ([(.fadd, .fadd c x, 2, fun a b _ => f.add rm a b), (.fsub, .fsub c x, 2, fun a b _ => f.sub rm a b),
      (.fmul, .fmul c x, 2, fun a b _ => f.mul rm a b), (.fdiv, .fdiv c x, 2, fun a b _ => f.div rm a b),
      (.fsqrt, .fsqrt c x, 1, fun a _ _ => f.sqrt rm a), (.fma, .fma c x, 3, fun a b d => f.fma rm a b d),
      (.fmin, .fmin c x, 2, fun a b _ => f.minMax false a b), (.fmax, .fmax c x, 2, fun a b _ => f.minMax true a b),
      (.fneg, .fneg c x, 1, fun a _ _ => (f.neg a, 0)), (.fabs, .fabs c x, 1, fun a _ _ => (f.abs a, 0))] :
        List (FpOp × Instr × Nat × (Nat → Nat → Nat → Nat × FFlags))) →
    x.toNat < 3 → Ready c (.fp y.1 x) s →
    ((s.core c).fen = true → (s.core c).fstk = ops.reverse ++ rest → ops.length = y.2.2.1 → rest.length < 32 →
      Completes c s (exec y.2.1 s)
        ((s.core c).pushFloat rest (y.2.2.2 (scalarOf x (ops.getD 0 0)) (scalarOf x (ops.getD 1 0)) (scalarOf x (ops.getD 2 0))))
        ((s.core c).pc + 2)) ∧
    ((s.core c).fen = false → Faults c (.fp y.1 x) s (exec y.2.1 s) { cause := 0x03 }) ∧
    ((s.core c).fen = true → (s.core c).fstk.length < y.2.2.1 → Faults c (.fp y.1 x) s (exec y.2.1 s) { cause := 0x07 })) ∧
  (∀ (c : CoreId) (s : State) (x : Byte) (a b : FEntry) (rest : List FEntry), Ready c (.fp .fcmp x) s → x.toNat < 32 → x.toNat % 4 ≠ 3 →
    (s.core c).fen = true → (s.core c).fstk = b :: a :: rest → (s.core c).room 1 →
    let r := (formatOf x).cmp (x.toNat / 4) (scalarOf x a) (scalarOf x b)
    Completes c s (exec (.fcmp c x) s)
      ({ s.core c with fstk := rest, fpctl := (s.core c).fpctl ||| (r.2.setWidth 64 <<< 8) }.setOps ((if r.1 then 1 else 0) :: (s.core c).ops))
      ((s.core c).pc + 2)) ∧
  (∀ (c : CoreId) (s : State) (x : Byte) (a : FEntry) (rest : List FEntry), Ready c (.fp .fcvt x) s → x.toNat < 64 → x.toNat % 4 ≠ 3 →
    (s.core c).fen = true →
    (x.toNat / 4 % 4 = 0 → x.toNat / 16 ≠ 3 → (s.core c).fstk = a :: rest → rest.length < 32 →
      Completes c s (exec (.fcvtFloatToFloat c x) s)
        ((s.core c).pushFloat rest ((formatOf (BitVec.ofNat 8 (x.toNat / 16))).convert (formatOf x) (s.core c).frm
          (scalarOf (BitVec.ofNat 8 (x.toNat / 16)) a))) ((s.core c).pc + 2)) ∧
    (x.toNat / 4 = 1 → ∀ n irest, (s.core c).holds [n] irest → (s.core c).fstk.length < 32 →
      Completes c s (exec (.fcvtIntegerToFloat c x) s)
        (((s.core c).setOps irest).pushFloat (s.core c).fstk ((formatOf x).round (s.core c).frm (decide (n.toInt < 0)) n.toInt.natAbs 0))
        ((s.core c).pc + 2)) ∧
    (x.toNat / 4 = 2 ∨ x.toNat / 4 = 3 → (s.core c).fstk = a :: rest → (s.core c).room 1 →
      let r := (formatOf x).toInt (if x.toNat / 4 = 2 then (s.core c).frm else 1) (scalarOf x a) 0 (-2 ^ 63) (2 ^ 63 - 1)
      Completes c s (exec (if x.toNat / 4 = 2 then .fcvtFloatToInteger c x else .fcvtFloatToIntegerTowardZero c x) s)
        ({ s.core c with fstk := rest, fpctl := (s.core c).fpctl ||| (r.2.setWidth 64 <<< 8) }.setOps (wrap r.1 :: (s.core c).ops))
        ((s.core c).pc + 2)))

/-- FLD, FST, FSTK and FMOV (R197, R200): whole entries move on the F-stack, and lane 0 moves to and from memory and the operand stack. The choices
of R195 and the special results of IEEE 754 in the three formats: every NaN result is the canonical quiet NaN, a signalling NaN and an invalid
operation set NV, a quotient by zero sets DZ, minimum and maximum prefer a number, and addition and multiplication commute. -/
def Obligations.FloatStackResults : Prop :=
  ((∀ (c : CoreId) (s : State) (x : Byte) (i : Instr) (p q : List FEntry) (a b d : FEntry) (rest : List FEntry),
    (i, x, p, q) ∈ ([(.fdup c x, 0x00, [a], [a, a]), (.fdrop c x, 0x04, [a], []), (.fswap c x, 0x08, [a, b], [b, a]),
      (.fover c x, 0x0C, [a, b], [a, b, a]), (.frot c x, 0x10, [a, b, d], [b, d, a])] : List (Instr × Byte × List FEntry × List FEntry)) →
    Ready c (.fp .fstk x) s → (s.core c).fen = true → (s.core c).fstk = p.reverse ++ rest →
    (rest.length + q.length ≤ 32 → Completes c s (exec i s) { s.core c with fstk := q.reverse ++ rest } ((s.core c).pc + 2)) ∧
    (32 < rest.length + q.length → Faults c (.fp .fstk x) s (exec i s) { cause := 0x08 })) ∧
  (∀ (c : CoreId) (s : State) (x : Byte) (v : Word) (rest : List Word), x.toNat < 3 → Ready c (.fp .fmov x) s → (s.core c).fen = true →
    (s.core c).holds [v] rest → (s.core c).fstk.length < 32 →
    Completes c s (exec (.fpush c x) s)
      { (s.core c).setOps rest with fstk := BitVec.ofNat 512 (v.toNat % 2 ^ (formatOf x).w) :: (s.core c).fstk } ((s.core c).pc + 2)) ∧
  (∀ (c : CoreId) (s : State) (x : Byte) (a : FEntry) (rest : List FEntry), 4 ≤ x.toNat → x.toNat < 7 → Ready c (.fp .fmov x) s →
    (s.core c).fen = true → (s.core c).fstk = a :: rest → (s.core c).room 1 →
    Completes c s (exec (.fpop c x) s) ({ s.core c with fstk := rest }.setOps (wrap (scalarOf x a) :: (s.core c).ops)) ((s.core c).pc + 2)) ∧
  (∀ (c : CoreId) (s : State) (x : Byte) (va : Word) (la : Nat) (d : List Byte) (rest : List Word), x.toNat < 3 → Ready c (.fp .fld x) s →
    (s.core c).fen = true → (s.core c).holds [va] rest → (s.core c).fstk.length < 32 → DataAt c s va ((formatOf x).w / 8) la →
    (s.core c).reads s.mem la ((formatOf x).w / 8) d →
    Completes c s (exec (.fld c x) s) { (s.core c).setOps rest with fstk := BitVec.ofNat 512 (ofLe d) :: (s.core c).fstk } ((s.core c).pc + 2)) ∧
  (∀ (c : CoreId) (s : State) (x : Byte) (va : Word) (la : Nat) (a : FEntry) (frest : List FEntry) (rest : List Word), x.toNat < 3 →
    Ready c (.fp .fst x) s → (s.core c).fen = true → (s.core c).holds [va] rest → (s.core c).fstk = a :: frest →
    DataAt c s va ((formatOf x).w / 8) la → (s.core c).sbRoom 2 →
    ∃ sb', sbStored (s.core c).sb sb' la (leBytes ((formatOf x).w / 8) (scalarOf x a)) ∧
      Completes c s (exec (.fst c x) s) { (s.core c).setOps rest with fstk := frest, sb := sb' } ((s.core c).pc + 2))) ∧
  (binary16.nanBits = 0x7E00 ∧ binary32.nanBits = 0x7FC0_0000 ∧ binary64.nanBits = 0x7FF8_0000_0000_0000 ∧
  ∀ (f : FFmt) (rm : BitVec 2) (a b : Nat), f ∈ [binary16, binary32, binary64] → a < 2 ^ f.w → b < 2 ^ f.w →
    f.add rm a b = f.add rm b a ∧ f.mul rm a b = f.mul rm b a ∧
    ((∃ q, f.read a = .nan q) → (f.add rm a b).1 = f.nanBits ∧ (f.mul rm a b).1 = f.nanBits ∧ (f.div rm a b).1 = f.nanBits ∧
      (f.sqrt rm a).1 = f.nanBits ∧ ((f.read b).isNan = false → (f.minMax false a b).1 = b ∧ (f.minMax true a b).1 = b)) ∧
    (f.read a = .nan true → (f.add rm a b).2 = 1 ∧ (f.sqrt rm a).2 = 1) ∧
    (∀ n m e k, f.read a = .fin n m e → m ≠ 0 → (∃ e', f.read b = .fin k 0 e') →
      f.div rm a b = (f.signBits (n != k) + f.infBits, 2)) ∧
    (∀ n k, f.read a = .inf n → f.read b = .inf k → f.add rm a b = if n = k then (f.signBits n + f.infBits, 0) else (f.nanBits, 1)) ∧
    (∀ n m e, f.read a = .fin n m e → m ≠ 0 → n = true → f.sqrt rm a = (f.nanBits, 1)) ∧
    f.neg (f.neg a) = a ∧ f.abs (f.neg a) = f.abs a)

/-- The elementwise instructions of the vector page (R83, R84, R186, R193, R196, R201 to R203): each active element is the result on the matching
elements, each inactive one is 0 or the deepest operand's, the flags are those of the active elements, and nothing else changes. -/
def Obligations.VectorElementwiseResults : Prop :=
  ∀ (c : CoreId) (s : State) (o : VecOp) (i : Instr) (p : Nat) (t : Byte) (m : Option Byte) (ty : EType) (n : Nat) (es frest : List FEntry)
      (pops irest : List Word) (R : Nat → LaneRes) (r : FEntry),
    (o, i, p) ∈ ([(.vadd, .vadd c t m, 2), (.vsub, .vsub c t m, 2), (.vmul, .vmul c t m, 2), (.vmulh, .vmulh c t m, 2), (.vfma, .vfma c t m, 3),
      (.vfms, .vfms c t m, 3), (.vdiv, .vdiv c t m, 2), (.vsqrt, .vsqrt c t m, 1), (.vmin, .vmin c t m, 2), (.vmax, .vmax c t m, 2),
      (.vabs, .vabs c t m, 1), (.vneg, .vneg c t m, 1), (.vand, .vand c t m, 2), (.vor, .vor c t m, 2), (.vxor, .vxor c t m, 2),
      (.vnot, .vnot c t m, 1), (.vshl, .vshl c t m, 2), (.vshr, .vshr c t m, 2), (.vsar, .vsar c t m, 2), (.vshls, .vshls c t m, 1),
      (.vshrs, .vshrs c t m, 1), (.vsars, .vsars c t m, 1)] : List (VecOp × Instr × Nat)) →
    VecReady c s o t m ty n → t.toNat < 16 → (s.core c).fstk = es.reverse ++ frest → es.length = p → frest.length < 32 →
    (s.core c).holds pops irest → pops.length = (if o = .vshls ∨ o = .vshrs ∨ o = .vsars then 1 else 0) →
    (∀ j < n, LaneIs (s.core c) o ty (elem ty.w j (es.getD 0 0)) (elem ty.w j (es.getD 1 0)) (elem ty.w j (es.getD 2 0))
      (if pops = [] then elem ty.w j (es.getD 1 0) else (pops.getD 0 0).toNat) (R j)) →
    EntryIs (s.core c) m ty.w n (es.getD 0 0) (fun j => (R j).r) r →
    Completes c s (exec i s)
      ({ (s.core c).setOps irest with fstk := r :: frest }.noted (flagsOver (s.core c) m n (fun j => (R j).fl))
        (anyClamped (s.core c) m n (fun j => (R j).sov)))
      ((s.core c).pc + vecLen m)

/-- The comparisons and the mask instructions (R48, R187, R194, R198): bit j of the destination mask is the comparison of active element j, 0 or
its old value for an inactive one, and 0 above the elements; M0 reads as ones and takes no write. -/
def Obligations.VectorCompareAndMaskResults : Prop :=
  (∀ (c : CoreId) (s : State) (o : VecOp) (i : Instr) (p : Nat) (t : Byte) (m : Option Byte) (ty : EType) (n : Nat) (a b : FEntry)
      (rest : List FEntry),
    (o, i, p) ∈ ([(.vcmpEq, .vcmpEq c t m, 0), (.vcmpNe, .vcmpNe c t m, 1), (.vcmpLt, .vcmpLt c t m, 2), (.vcmpLe, .vcmpLe c t m, 3),
      (.vcmpGt, .vcmpGt c t m, 4), (.vcmpGe, .vcmpGe c t m, 5), (.vcmpUn, .vcmpUn c t m, 6)] : List (VecOp × Instr × Nat)) →
    VecReady c s o t m ty n → t.toNat < 128 → (s.core c).fstk = b :: a :: rest → rest.length ≤ 32 →
    let res (j : Nat) := elemCompare ty p (elem ty.w j a) (elem ty.w j b)
    Completes c s (exec i s)
      (({ s.core c with fstk := rest }.noted (flagsOver (s.core c) m n (fun j => (res j).2)) false).maskSet (t.toNat / 16)
        (fun j => decide (j < n) && if (s.core c).active m j then (res j).1 else !zeroing m && (s.core c).maskBit (t.toNat / 16) j))
      ((s.core c).pc + vecLen m)) ∧
  (∀ (c : CoreId) (s : State) (o : VecOp) (i : Instr) (t : Byte) (f : Bool → Bool → Bool),
    (o, i, f) ∈ ([(.mand, .mand c t none, fun d m => d && m), (.mor, .mor c t none, fun d m => d || m),
      (.mxor, .mxor c t none, fun d m => d != m), (.mandn, .mandn c t none, fun d m => d && !m), (.mmov, .mmov c t none, fun _ m => m)] :
        List (VecOp × Instr × (Bool → Bool → Bool))) →
    Ready c (.vec o t none) s → (s.core c).ven = true → t.toNat / 16 < 8 → t.toNat % 16 < 8 →
    Completes c s (exec i s)
      ((s.core c).maskSet (t.toNat / 16) (fun j => f ((s.core c).maskBit (t.toNat / 16) j) ((s.core c).maskBit (t.toNat % 16) j)))
      ((s.core c).pc + 3)) ∧
  (∀ (c : CoreId) (s : State) (t : Byte) (x : Word) (rest : List Word), (s.core c).ven = true → t.toNat / 16 < 8 →
    (s.core c).holds [x] rest →
    (Ready c (.vec .mwr t none) s → t.toNat % 16 = 0 → Completes c s (exec (.mwr c t none) s)
      (((s.core c).setOps rest).maskSet (t.toNat / 16) (fun j => x.getLsbD j)) ((s.core c).pc + 3)) ∧
    (∀ ty, Ready c (.vec .mtail t none) s → etypeOf (t.toNat % 16) = some ty → (s.build.vlen = 256 ∨ s.build.vlen = 512) →
      Completes c s (exec (.mtail c t none) s)
        (((s.core c).setOps rest).maskSet (t.toNat / 16) (fun j => decide (j < min x.toNat (s.build.vlen / ty.w)))) ((s.core c).pc + 3))) ∧
  (∀ (c : CoreId) (s : State) (t : Byte), (s.core c).ven = true → t.toNat < 8 → (s.core c).room 1 →
    (Ready c (.vec .mpop t none) s → Completes c s (exec (.mpop c t none) s)
      ((s.core c).setOps (BitVec.ofNat 64 ((List.range 64).countP (fun j => (s.core c).maskBit t.toNat j)) :: (s.core c).ops))
      ((s.core c).pc + 3)) ∧
    (Ready c (.vec .mrd t none) s → Completes c s (exec (.mrd c t none) s)
      ((s.core c).setOps (wordOfBits (fun j => (s.core c).maskBit t.toNat j) :: (s.core c).ops)) ((s.core c).pc + 3))) ∧
  (∀ (c : CoreId) (s : State) (o : VecOp) (t : Byte) (m : Option Byte) (i : Instr),
    (o, i) ∈ ([(.vadd, .vadd c t m), (.vmul, .vmul c t m), (.vcmpEq, .vcmpEq c t m), (.vld, .vld c t m), (.vredadd, .vredadd c t m),
      (.vbcast, .vbcast c t m)] : List (VecOp × Instr)) → Ready c (.vec o t m) s → t.toNat < 13 → m = none →
    ((s.core c).ven = false → Faults c (.vec o t m) s (exec i s) { cause := 0x04 }) ∧
    ((s.core c).ven = true → (s.core c).fen = false → Faults c (.vec o t m) s (exec i s) { cause := 0x03 }))

/-- Permutations and conversions (R204, R205): each active element of the result as its formula gives it. Where VCVT with Z = 0 meets an inactive
element, the result element is the operand's of the destination type (DEDUCED from R83 and R186, log entry 36). -/
def Obligations.VectorPermuteAndConvertResults : Prop :=
  (∀ (c : CoreId) (s : State) (o : VecOp) (i : Instr) (p q : Nat) (t : Byte) (m : Option Byte) (ty : EType) (n : Nat)
      (es frest : List FEntry) (pops irest : List Word) (f : Nat → Nat → Nat → Nat → Nat) (r : FEntry),
    (o, i, p, q, f) ∈ ([(.vbcast, .vbcast c t m, 0, 1, fun _ _ k _ => k % 2 ^ ty.w),
      (.vperm, .vperm c t m, 2, 0, fun a b _ j => elem ty.w (elem ty.w j b % n) a),
      (.vslideup, .vslideup c t m, 1, 1, fun a _ k j => if k ≤ j then elem ty.w (j - k) a else 0),
      (.vslidedn, .vslidedn c t m, 1, 1, fun a _ k j => if j + k < n then elem ty.w (j + k) a else 0),
      (.vziplo, .vziplo c t m, 2, 0, fun a b _ j => elem ty.w (j / 2) (if j % 2 = 0 then a else b)),
      (.vziphi, .vziphi c t m, 2, 0, fun a b _ j => elem ty.w (j / 2 + n / 2) (if j % 2 = 0 then a else b))] :
        List (VecOp × Instr × Nat × Nat × (FEntry → FEntry → Nat → Nat → Nat))).map (fun x => (x.1, x.2.1, x.2.2.1, x.2.2.2.1,
          fun a b k j => x.2.2.2.2 (BitVec.ofNat 512 a) (BitVec.ofNat 512 b) k j)) →
    VecReady c s o t m ty n → t.toNat < 16 → (s.core c).fstk = es.reverse ++ frest → es.length = p → frest.length < 32 →
    (s.core c).holds pops irest → pops.length = q →
    EntryIs (s.core c) m ty.w n (es.getD 0 0) (f (es.getD 0 0).toNat (es.getD 1 0).toNat (pops.getD 0 0).toNat) r →
    Completes c s (exec i s) { (s.core c).setOps irest with fstk := r :: frest } ((s.core c).pc + vecLen m)) ∧
  (∀ (c : CoreId) (s : State) (t : Byte) (m : Option Byte) (ty : EType) (n : Nat) (a r : FEntry) (frest : List FEntry),
    VecReady c s .vcompress t m ty n → t.toNat < 16 → (s.core c).fstk = a :: frest → frest.length < 32 →
    let packed := ((List.range n).filter (fun j => (s.core c).active m j)).map (fun j => elem ty.w j a)
    r.toNat < 2 ^ (ty.w * n) →
    (∀ j < n, elem ty.w j r = if h : j < packed.length then packed[j] else if zeroing m then 0 else elem ty.w j a) →
    Completes c s (exec (.vcompress c t m) s) { s.core c with fstk := r :: frest } ((s.core c).pc + vecLen m)) ∧
  (∀ (c : CoreId) (s : State) (t : Byte) (m : Option Byte) (ty : EType) (n : Nat) (a : FEntry) (frest : List FEntry) (x i : Word)
      (rest : List Word),
    t.toNat < 16 → (s.core c).fstk = a :: frest → frest.length < 32 →
    (VecReady c s .vextr t m ty n → (s.core c).holds [i] rest → ((s.core c).setOps rest).room 1 →
      Completes c s (exec (.vextr c t m) s)
        ((s.core c).setOps (wrap (if ty.k = .i ∨ ty.k = .q then Int.bmod (elem ty.w (i.toNat % n) a) (2 ^ ty.w) else elem ty.w (i.toNat % n) a)
          :: rest)) ((s.core c).pc + vecLen m)) ∧
    (∀ r : FEntry, VecReady c s .vins t m ty n → (s.core c).holds [i, x] rest → r.toNat < 2 ^ (ty.w * n) →
      (∀ j < n, elem ty.w j r = if j = i.toNat % n then x.toNat % 2 ^ ty.w else elem ty.w j a) →
      Completes c s (exec (.vins c t m) s) { (s.core c).setOps rest with fstk := r :: frest } ((s.core c).pc + vecLen m))) ∧
  (∀ (c : CoreId) (s : State) (t : Byte) (m : Option Byte) (src ty : EType) (n k : Nat) (a r : FEntry) (frest : List FEntry) (R : Nat → LaneRes),
    VecReady c s .vcvt t m ty n → etypeOf (t.toNat / 16) = some src → (src.k = .q → ty.k = .q ∨ ty.k = .f) → (ty.k = .q → src.k = .q ∨ src.k = .f) →
    (s.core c).fstk = a :: frest → frest.length < 32 → k = s.build.vlen / max src.w ty.w →
    (∀ j < k, let x := elem src.w j a
      let v := R j
      v.r < 2 ^ ty.w ∧ match src.k, ty.k with
      | .f, .f => (v.r, v.fl) = src.fmt.convert ty.fmt (s.core c).frm x ∧ v.sov = false
      | .f, _ => v.sov = false ∧ ∃ z, (z, v.fl) = src.fmt.toInt (s.core c).frm x (if ty.k = .q then ty.w - 1 else 0)
          (if ty.k = .u then 0 else -2 ^ (ty.w - 1)) (if ty.k = .u then 2 ^ ty.w - 1 else 2 ^ (ty.w - 1) - 1) ∧ (v.r : Int) = z % 2 ^ ty.w
      | _, .f => (v.r, v.fl) = ty.fmt.round (s.core c).frm (decide (elemVal src x < 0)) (elemVal src x).natAbs
          (if src.k = .q then -((src.w - 1 : Nat) : Int) else 0) ∧ v.sov = false
      | .q, _ => v.fl = 0 ∧ if src.w < ty.w then v.r = (x * 2 ^ 16) % 2 ^ 32 ∧ v.sov = false
          else if src.w = ty.w then v.r = x ∧ v.sov = false
          else ∃ z y, Rounded (fieldOf (s.core c).vctl 0 2) (elemVal src x) 16 z ∧ Fitted ((s.core c).vctl.getLsbD 2) z 16 y v.sov ∧
            (v.r : Int) = y % 2 ^ 16
      | _, _ => v.fl = 0 ∧ v.sov = false ∧ (v.r : Int) = elemVal src x % 2 ^ ty.w) →
    EntryIs (s.core c) m ty.w k a (fun j => (R j).r) r →
    Completes c s (exec (.vcvt c t m) s)
      ({ s.core c with fstk := r :: frest }.noted (flagsOver (s.core c) m k (fun j => (R j).fl)) (anyClamped (s.core c) m k (fun j => (R j).sov)))
      ((s.core c).pc + vecLen m))

/-- The reductions (R206): exact sums, extreme values and bitwise combinations of the active elements of I, U and Q types on the operand stack,
and the fixed tree of F types on the F-stack. -/
def Obligations.VectorReductionResults : Prop :=
  (∀ (c : CoreId) (s : State) (o : VecOp) (i : Instr) (t : Byte) (m : Option Byte) (ty : EType) (n : Nat) (es frest : List FEntry) (r : Word)
      (ov : Bool),
    (o, i) ∈ ([(.vredadd, .vredadd c t m), (.vredmin, .vredmin c t m), (.vredmax, .vredmax c t m), (.vredand, .vredand c t m),
      (.vredor, .vredor c t m), (.vredxor, .vredxor c t m), (.vdot, .vdot c t m)] : List (VecOp × Instr)) →
    VecReady c s o t m ty n → t.toNat < 16 → ty.k ≠ .f → (s.core c).fstk = es.reverse ++ frest → es.length = (if o = VecOp.vdot then 2 else 1) →
    frest.length ≤ 32 → (s.core c).room 1 →
    let lo : Int := if ty.k = .u then 0 else -2 ^ (ty.w - 1)
    let hi : Int := if ty.k = .u then 2 ^ ty.w - 1 else 2 ^ (ty.w - 1) - 1
    let on := (List.range n).filter (fun j => (s.core c).active m j)
    let l := on.map (fun j => if o = VecOp.vdot then elemVal ty (elem ty.w j (es.getD 0 0)) * elemVal ty (elem ty.w j (es.getD 1 0))
      else elemVal ty (elem ty.w j (es.getD 0 0)))
    (match o with
      | .vredmin => ov = false ∧ ∃ z, r = wrap z ∧ (z = hi ∨ z ∈ l) ∧ z ≤ hi ∧ ∀ y ∈ l, z ≤ y
      | .vredmax => ov = false ∧ ∃ z, r = wrap z ∧ (z = lo ∨ z ∈ l) ∧ lo ≤ z ∧ ∀ y ∈ l, y ≤ z
      | .vredand => ov = false ∧ r = wordOfBits (fun b => l.all (fun y => (wrap y).getLsbD b))
      | .vredor => ov = false ∧ r = wordOfBits (fun b => l.any (fun y => (wrap y).getLsbD b))
      | .vredxor => ov = false ∧ r = wordOfBits (fun b => l.countP (fun y => (wrap y).getLsbD b) % 2 == 1)
      | _ => if ty.k = .q then ∃ z y, Rounded (fieldOf (s.core c).vctl 0 2) l.sum (if o = VecOp.vdot then ty.w - 1 else 0) z ∧
            Fitted ((s.core c).vctl.getLsbD 2) z ty.w y ov ∧ r = wrap y
          else ov = false ∧ r = wrap l.sum) →
    Completes c s (exec i s) (({ s.core c with fstk := frest }.noted 0 ov).setOps (r :: (s.core c).ops)) ((s.core c).pc + vecLen m)) ∧
  (∀ (c : CoreId) (s : State) (o : VecOp) (i : Instr) (t : Byte) (m : Option Byte) (ty : EType) (n l : Nat) (es frest : List FEntry)
      (g : Nat → Nat → Nat × FFlags) (z : Nat),
    VecReady c s o t m ty n → t.toNat < 16 → ty.k = .f → n = 2 ^ l →
    (o, i, g, z) ∈ ([(.vredadd, .vredadd c t m, fun a b => ty.fmt.add (s.core c).frm a b, 0),
      (.vredmin, .vredmin c t m, fun a b => ty.fmt.minMax false a b, ty.fmt.infBits),
      (.vredmax, .vredmax c t m, fun a b => ty.fmt.minMax true a b, 2 ^ (ty.w - 1) + ty.fmt.infBits),
      (.vdot, .vdot c t m, fun a b => ty.fmt.add (s.core c).frm a b, 0)] : List (VecOp × Instr × (Nat → Nat → Nat × FFlags) × Nat)) →
    (s.core c).fstk = es.reverse ++ frest → es.length = (if o = VecOp.vdot then 2 else 1) → frest.length < 32 →
    let prod (j : Nat) := ty.fmt.mul (s.core c).frm (elem ty.w j (es.getD 0 0)) (elem ty.w j (es.getD 1 0))
    let leaf (j : Nat) : Option Nat := if (s.core c).active m j then some (if o = VecOp.vdot then (prod j).1 else elem ty.w j (es.getD 0 0)) else none
    let res := treeFold g leaf l 0
    Completes c s (exec i s)
      ({ s.core c with fstk := BitVec.ofNat 512 (res.1.getD z) :: frest }.noted
        ((if o = VecOp.vdot then flagsOver (s.core c) m n (fun j => (prod j).2) else 0) ||| res.2) false)
      ((s.core c).pc + vecLen m))

/-- The vector memory instructions (R207 to R213) on local DRAM or own banks with the store buffer empty: an active element is loaded from, or
stands in the store buffer at, its address; an inactive one is loaded as 0 and stores nothing; XP and YP move by the entry's length. -/
def Obligations.VectorMemoryResults : Prop :=
  (∀ (c : CoreId) (s : State) (o : VecOp) (i : Instr) (t : Byte) (m : Option Byte) (ty : EType) (n la : Nat) (frest : List FEntry)
      (pops irest : List Word) (va : Word) (k : Core) (r : FEntry),
    VecReady c s o t m ty n → t.toNat < 16 → (s.core c).holds pops irest → (s.core c).sb = [] →
    let e := BitVec.ofNat 64 (s.build.vlen / 8)
    (o, i, pops, k) ∈ ([(.vld, .vld c t m, [va], (s.core c).setOps irest), (.vldx, .vldx c t m, [], { s.core c with xp := va + e }),
      (.vldy, .vldy c t m, [], { s.core c with yp := va + e })] : List (VecOp × Instr × List Word × Core)) →
    (o = .vldx → va = (s.core c).xp) → (o = .vldy → va = (s.core c).yp) → (s.core c).fstk = frest → frest.length < 32 →
    DataAt c s va (s.build.vlen / 8) la → r.toNat < 2 ^ (ty.w * n) →
    (∀ j < n, elem ty.w j r = if (s.core c).active m j then ofLe (memRead s.mem (la + j * (ty.w / 8)) (ty.w / 8)) else 0) →
    Completes c s (exec i s) { k with fstk := r :: frest } ((s.core c).pc + vecLen m)) ∧
  (∀ (c : CoreId) (s : State) (o : VecOp) (i : Instr) (t : Byte) (m : Option Byte) (ty : EType) (n la : Nat) (w : FEntry) (frest : List FEntry)
      (pops irest : List Word) (va : Word) (k : Core),
    VecReady c s o t m ty n → t.toNat < 16 → (s.core c).holds pops irest → (s.core c).sb = [] →
    let e := BitVec.ofNat 64 (s.build.vlen / 8)
    (o, i, pops, k) ∈ ([(.vst, .vst c t m, [va], (s.core c).setOps irest), (.vstx, .vstx c t m, [], { s.core c with xp := va + e }),
      (.vsty, .vsty c t m, [], { s.core c with yp := va + e })] : List (VecOp × Instr × List Word × Core)) →
    (o = .vstx → va = (s.core c).xp) → (o = .vsty → va = (s.core c).yp) → (s.core c).fstk = w :: frest → frest.length < 32 →
    DataAt c s va (s.build.vlen / 8) la →
    ∃ sb', (∀ x, sbByte sb' x =
        if la ≤ x ∧ x < la + s.build.vlen / 8 ∧ (s.core c).active m ((x - la) / (ty.w / 8)) = true
        then some (BitVec.ofNat 8 (w.toNat / 2 ^ (8 * (x - la)))) else none) ∧
      Completes c s (exec i s) { k with fstk := frest, sb := sb' } ((s.core c).pc + vecLen m)) ∧
  (∀ (c : CoreId) (s : State) (o : VecOp) (i : Instr) (t : Byte) (m : Option Byte) (ty : EType) (n : Nat) (la : Nat → Nat)
      (es frest : List FEntry) (pops irest : List Word) (base st : Word) (at' : Nat → Word),
    VecReady c s o t m ty n → t.toNat < 16 → (s.core c).holds pops irest → (s.core c).sb = [] → (s.core c).vgs = none →
    (s.core c).vgsOn = false →
    (o, i, pops, es.length) ∈ ([(.vlds, .vlds c t m, [st, base], 0), (.vgather, .vgather c t m, [base], 1), (.vsts, .vsts c t m, [st, base], 1),
      (.vscatter, .vscatter c t m, [base], 2)] : List (VecOp × Instr × List Word × Nat)) →
    (s.core c).fstk = es.reverse ++ frest → frest.length < 32 →
    (∀ j, at' j = if o = .vlds ∨ o = .vsts then base + BitVec.ofNat 64 j * st
      else base + wrap (Int.bmod (elem ty.w j (es.getD (es.length - 1) 0)) (2 ^ ty.w) * (ty.w / 8 : Nat))) →
    (∀ j < n, (s.core c).active m j = true → (at' j).toNat % (ty.w / 8) = 0 ∧ DataAt c s (at' j) (ty.w / 8) (la j)) →
    (o = .vlds ∨ o = .vgather → ∀ r : FEntry, r.toNat < 2 ^ (ty.w * n) →
      (∀ j < n, elem ty.w j r = if (s.core c).active m j then ofLe (memRead s.mem (la j) (ty.w / 8)) else 0) →
      Completes c s (exec i s) { (s.core c).setOps irest with fstk := r :: frest } ((s.core c).pc + vecLen m)) ∧
    (o = .vsts ∨ o = .vscatter → ((List.range n).filter (fun j => (s.core c).active m j)).length ≤ 8 →
      ∃ sb', (∀ x, sbByte sb' x = ((List.range n).reverse.find? (fun j => (s.core c).active m j && decide (la j ≤ x) &&
            decide (x < la j + ty.w / 8))).map
          (fun j => BitVec.ofNat 8 (elem ty.w j (es.getD 0 0) / 2 ^ (8 * (x - la j))))) ∧
        Completes c s (exec i s) { (s.core c).setOps irest with fstk := frest, sb := sb' } ((s.core c).pc + vecLen m)))

/-- ALLOC, FREE, FLUSHW and FLUSHR (R71, R162, R176), and the four transfers of the barrow (R155 to R157, R162) where R155 and R156 make each the
next one: the lowest block or segment of the ring goes to memory, or the highest spilled one comes back. -/
def Obligations.WindowTransferResults : Prop :=
  (∀ (c : CoreId) (s : State) (k : Byte) (l rest : List Word), k.toNat < 32 →
    (Ready c (.alloc k) s → (s.core c).room k.toNat →
      Completes c s (exec (.alloc c k) s) ((s.core c).setOps (List.replicate k.toNat 0 ++ (s.core c).ops)) ((s.core c).pc + 2)) ∧
    (Ready c (.free k) s → l.length = k.toNat → (s.core c).holds l rest →
      Completes c s (exec (.free c k) s) ((s.core c).setOps rest) ((s.core c).pc + 2)) ∧
    (Ready c (.free k) s → (s.core c).frame < k.toNat → Faults c (.free k) s (exec (.free c k) s) { cause := 0x05 })) ∧
  (∀ (c : CoreId) (s : State) (la : Nat), Ready c (.win .flushw) s →
    ((s.core c).stk.occ ≤ 1 → Completes c s (exec (.flushw c) s) (s.core c) ((s.core c).pc + 1)) ∧
    ((s.core c).stk.occ = 2 → 17 ≤ (s.core c).stk.ring.length → (s.core c).stk.ring.length ≤ 32 → (s.core c).stk.cut = 0 →
      (s.core c).opStuck = none → (s.core c).sb = [] → s.noLog →
      DataAt c s (s.core c).spillbase 128 la → (s.core c).spillbase.toNat + 128 ≤ (s.core c).spilllim.toNat →
      Completes c { s with mem := memWrite s.mem la (s.core c).lowBlock } (exec (.flushw c) s) (s.core c).blockSpilled ((s.core c).pc + 1))) ∧
  (∀ (c : CoreId) (s : State) (la : Nat), Ready c (.win .flushr) s →
    ((s.core c).rstk.occ ≤ 1 → Completes c s (exec (.flushr c) s) (s.core c) ((s.core c).pc + 1)) ∧
    ((s.core c).rstk.occ = 2 → 9 ≤ (s.core c).rstk.ring.length → (s.core c).rstk.ring.length ≤ 16 → (s.core c).rstk.cut = 0 →
      (s.core c).rsStuck = none → (s.core c).sb = [] → s.noLog →
      DataAt c s (s.core c).rsspill 128 la → (s.core c).rsspill.toNat + 128 ≤ (s.core c).rslim.toNat →
      Completes c { s with mem := memWrite s.mem la (s.core c).lowSegment } (exec (.flushr c) s) (s.core c).segmentSpilled
        ((s.core c).pc + 1))) ∧
  (∀ (c : CoreId) (s : State) (la : Nat), s.hasCore c = true → barrowActs s c = true → (s.core c).sb = [] → s.noLog → s.remote = [] →
    (barrowDue (s.core c) = some (false, false) → 16 ≤ (s.core c).stk.ring.length → DataAt c s (s.core c).spillbase 128 la →
      (s.core c).spillbase.toNat + 128 ≤ (s.core c).spilllim.toNat →
      ∃ t, exec (.operandSpill c) s = .next t ∧
        t.arch = ({ s with mem := memWrite s.mem la (s.core c).lowBlock }.setCore c (s.core c).blockSpilled).arch) ∧
    (barrowDue (s.core c) = some (false, true) → (s.core c).stk.cut ≤ 16 → DataAt c s ((s.core c).spillbase - 128) 128 la →
      ∃ t, exec (.operandRefill c) s = .next t ∧ t.arch = (s.setCore c ((s.core c).blockRefilled s la)).arch) ∧
    (barrowDue (s.core c) = some (true, false) → 8 ≤ (s.core c).rstk.ring.length → DataAt c s (s.core c).rsspill 128 la →
      (s.core c).rsspill.toNat + 128 ≤ (s.core c).rslim.toNat →
      ∃ t, exec (.returnSpill c) s = .next t ∧
        t.arch = ({ s with mem := memWrite s.mem la (s.core c).lowSegment }.setCore c (s.core c).segmentSpilled).arch) ∧
    (barrowDue (s.core c) = some (true, true) → (s.core c).rstk.cut ≤ 8 → DataAt c s ((s.core c).rsspill - 128) 128 la →
      ∃ t, exec (.returnRefill c) s = .next t ∧ t.arch = (s.setCore c ((s.core c).segmentRefilled s la)).arch)) ∧
  (∀ k : Core, barrowDue k =
    if k.rsStuck = none ∧ 3 ≤ k.rstk.occ then some (true, false)
    else if k.rsStuck = none ∧ k.rstk.occ ≤ 1 ∧ 0 < k.rstk.spilled then some (true, true)
    else if k.opStuck = none ∧ 6 ≤ k.stk.occ then some (false, false)
    else if k.opStuck = none ∧ k.stk.occ ≤ 2 ∧ 0 < k.stk.spilled then some (false, true) else none)

/-- The context half-saves (R177 to R181, R580): a save writes every word of its area and links it, and changes nothing else; a restore replaces
its half from the area at SAVEHEAD and unlinks it; both need PL1, and a restore with SAVEHEAD 0 raises SA. -/
def Obligations.ContextSaveAndRestoreResults : Prop :=
  (∀ (c : CoreId) (s : State) (i : Instr) (o : WinOp) (n a : Nat) (va : Word) (rest : List Word) (fields : List (Nat × Nat × Nat)),
    (i, o, n, fields) ∈ ([(.savel c, .savel, 1536, lowerFields ((s.core c).setOps rest)),
      (.saveu c, .saveu, 256 + 4 * s.build.vlen, upperFields s ((s.core c).setOps rest))] : List (Instr × WinOp × Nat × List (Nat × Nat × Nat))) →
    Ready c (.win o) s → (s.core c).holds [va] rest →
    ((s.core c).pl.toNat ≤ 1 → va.toNat % 64 = 0 → DataAt c s va n a → (s.core c).sb = [] → s.noLog → Memory.wf s.mem = true →
      (s.build.vlen = if s.build.wide then 512 else 256) →
      ((s.core c).setOps rest).stk.occ ≤ 6 → ((s.core c).setOps rest).stk.ring.length ≤ 96 → (s.core c).rstk.ring.length ≤ 32 →
      (s.core c).fstk.length ≤ 32 → ((s.core c).setOps rest).stk.cut = 0 → (s.core c).rstk.cut = 0 →
      ∃ t, exec i s = .next t ∧
        t.arch = ({ s with mem := t.mem }.setCore c ({ (s.core c).setOps rest with savehead := va }.ended ((s.core c).pc + 1))).arch ∧
        (∀ f ∈ fields, memRead t.mem (a + f.1) f.2.1 = leBytes f.2.1 f.2.2) ∧
        (∀ x, x < a ∨ a + n ≤ x → memGet t.mem x = memGet s.mem x)) ∧
    ((s.core c).pl = 2 → Faults c (.win o) s (exec i s) { cause := 0x02 }) ∧
    ((s.core c).pl.toNat ≤ 1 → va.toNat % 64 ≠ 0 → Faults c (.win o) s (exec i s) { cause := 0x0A, faddr := va })) ∧
  (∀ (c : CoreId) (s : State) (a : Nat), Ready c (.win .restl) s →
    ((s.core c).pl = 2 → Faults c (.win .restl) s (exec (.restl c) s) { cause := 0x02 }) ∧
    ((s.core c).pl.toNat ≤ 1 → (s.core c).savehead = 0 → Faults c (.win .restl) s (exec (.restl c) s) { cause := 0x14 }) ∧
    ((s.core c).pl.toNat ≤ 1 → (s.core c).savehead ≠ 0 → (s.core c).savehead.toNat % 64 = 0 → DataAt c s (s.core c).savehead 1536 a →
      (s.core c).sb = [] →
      let w := memWord s a
      let ok := w 8 = 0x600_0000_0001 ∧ (w 0x10).toNat % 2 ^ 32 = 0 ∧ (w 0xC8).toNat * 16 ≤ (w 0xC0).toNat ∧
        (w 0xC0).toNat ≤ (w 0xC8).toNat * 16 + 96 ∧ (w 0xD0).toNat ≤ (w 0xC0).toNat ∧
        (w 0xD8).toNat / 2 ^ 32 * 8 ≤ (w 0xD8).toNat % 2 ^ 32 ∧ (w 0xD8).toNat % 2 ^ 32 ≤ (w 0xD8).toNat / 2 ^ 32 * 8 + 32
      (ok → Completes c s (exec (.restl c) s) ((s.core c).lowerRestored s a) ((s.core c).pc + 1)) ∧
      (¬ok → Faults c (.win .restl) s (exec (.restl c) s) { cause := 0x14, faddr := (s.core c).savehead }))) ∧
  (∀ (c : CoreId) (s : State) (a : Nat), Ready c (.win .restu) s → (s.build.vlen = if s.build.wide then 512 else 256) →
    ((s.core c).pl = 2 → Faults c (.win .restu) s (exec (.restu c) s) { cause := 0x02 }) ∧
    ((s.core c).pl.toNat ≤ 1 → (s.core c).savehead = 0 → Faults c (.win .restu) s (exec (.restu c) s) { cause := 0x14 }) ∧
    ((s.core c).pl.toNat ≤ 1 → (s.core c).savehead ≠ 0 → (s.core c).savehead.toNat % 64 = 0 →
      DataAt c s (s.core c).savehead (256 + 4 * s.build.vlen) a → (s.core c).sb = [] →
      let w := memWord s a
      let ok := w 8 = BitVec.ofNat 64 (2 + 2 ^ 32 * (256 + 4 * s.build.vlen)) ∧ (w 0x10).toNat % 2 ^ 32 = s.build.vlen ∧
        (w 0x88).toNat / 2 ^ 16 % 64 ≤ 32
      (ok → Completes c s (exec (.restu c) s) ((s.core c).upperRestored s a) ((s.core c).pc + 1)) ∧
      (¬ok → Faults c (.win .restu) s (exec (.restu c) s) { cause := 0x14, faddr := (s.core c).savehead })))

/-- What a core does apart from its instructions: a table walk (R321 to R324, R330, R331, R333), the return of load data and what the arrays
report with it (R111, R362, R528, R529), a triple fault (R308), and the care of the control store (R267, R269 to R272). -/
def Obligations.CoreServiceResults : Prop :=
  (∀ (c : CoreId) (s : State) (u : WalkFor) (va : Word) (bytes : List Byte) (a0 a1 : Nat),
    let k := s.core c
    let d0 := memWord s a0 0
    let d1 := memWord s a1 0
    s.hasCore c = true → canRun s c .other bytes.length = true → k.itlb = [] → k.dtlb = [] → k.l2tlb = [] → s.sound →
    bitOf k.ptroot 0 = true → (s.slice k.slice).s2en = false → wrap (Int.bmod (va.toNat % 2 ^ 48 : Nat) (2 ^ 48)) = va →
    target s (k.ptroot.toNat / 2 ^ 12 % 2 ^ 41 * 2 ^ 12 + va.toNat / 2 ^ 39 % 512 * 8) = .dram a0 →
    (d0.toNat % 4 = 3 → d0.toNat < 2 ^ 53 → target s (d0.toNat / 2 ^ 12 * 2 ^ 12 + va.toNat / 2 ^ 30 % 512 * 8) = .dram a1 →
      d1.toNat % 4 = 1 → d1.toNat < 2 ^ 53 → d1.toNat / 2 ^ 12 % 2 ^ 18 = 0 → (2 ≤ k.pl.toNat → d1.getLsbD 4 = true) →
      (u = .fetch → d1.getLsbD 3 = true) → (u = .store → d1.getLsbD 2 = true) →
      ∃ t, exec (.tableWalk c u va bytes) s = .next t ∧ t.arch = s.arch ∧
        ∃ e ∈ (if u = .fetch then (t.core c).itlb else (t.core c).dtlb), e.kind = .combined ∧ e.slice = k.slice ∧ e.pid = k.pid.setWidth 16 ∧
          e.inp = va.toNat / 2 ^ 30 * 2 ^ 30 ∧ e.bits = 30 ∧ e.pa = d1.toNat / 2 ^ 30 * 2 ^ 30 ∧ e.glob = d1.getLsbD 5 ∧
          e.w1 = d1.getLsbD 2 ∧ e.x1 = d1.getLsbD 3 ∧ e.u1 = d1.getLsbD 4 ∧ e.nc = d1.getLsbD 6) ∧
    (d0.getLsbD 0 = false → ∃ f, f.arch = s.arch ∧ exec (.tableWalk c u va bytes) s =
      .next (applyStop { c := c, pc := k.pc, bytes := bytes } (decide (u = .fetch))
        (.event { cause := if u = .fetch then 0x0B else 0x0C, faddr := va }) f))) ∧
  (∀ (c : CoreId) (s : State) (va : Word) (rest : List Word) (d : List Byte) (r : SmReq) (out : List SmReq),
    let k := s.core c
    let s1 := { s with smOut := out }.setCore c { k with ext := [{ addr := va.toNat, len := 8, answer := some (.bytes d) }] }
    k.ext = [{ addr := va.toNat, len := 8 }] → k.waitOp = some { op := .ld 3 false, rep := none, units := 0 } →
    s.smOut = r :: out → r.who = .load c → d.length = 8 → Ready c (.ld 3 false) s1 → k.holds [va] rest → (k.setOps rest).room 1 →
    k.sb = [] → bitOf k.ptroot 0 = false → (s.slice k.slice).s2en = false → fieldOf k.dbgctl 4 2 = 0 → va.toNat < 2 ^ 53 →
    va.toNat % 16 ≤ 8 → target s va.toNat = .host va.toNat →
    Completes c s1 (exec (.loadDataReturn c (.bytes d)) s) (k.setOps (loadValue d false :: rest)) (k.pc + 1)) ∧
  (∀ (c : CoreId) (s : State) (pa : Nat), s.hasCore c = true → coreClocked s c = true →
    (pa < 0x40_0000_0000 → dramServed s pa = true → s.cachedAnywhere (pa / 64) = false → pa / 64 ∉ s.dramUe →
      exec (.loadDataReturn c (.dramMulti pa)) s = .next { s with dramUe := s.dramUe ++ [pa / 64] }) ∧
    (∀ b, target s pa = .spm b pa → pa / 8 * 8 ∉ s.spmUe →
      exec (.loadDataReturn c (.spmMulti pa)) s = .next { s with spmUe := s.spmUe ++ [pa / 8 * 8] })) ∧
  (∀ (c : CoreId) (s : State), s.hasCore c = true →
    let k := s.core c
    let fresh : Core := { itlb := k.itlb, dtlb := k.dtlb, l2tlb := k.l2tlb, l1i := k.l1i, l1d := k.l1d, run := .tripled, retired := k.retired,
                          quiesced := k.quiesced, vgs := k.vgs }
    (k.run = .tripling → k.sb = [] → exec (.tripleFault c) s = .next (tallyEvent 0xA c.val 0 false (setLeaf 0 0 c.val (s.setCore c fresh)))) ∧
    (coreClocked s c = true → k.micro.isSome = true → k.run = .run → k.mcheck = none → exec (.microcodeTimeout c) s =
      .next (setLeaf 1 3 (clusterOf c).val (tallyEvent 9 (clusterOf c).val 0 false
        (s.setCore c { k with ext := [], micro := none, begun := false, lastIssue := none, mcheck := some { cause := 4, pa := 0, at? := some k.pc } }))))) ∧
  (∀ (k : ClusterId) (s : State) (table : Bool) (idx : Nat), s.hasCluster k = true → gdnRuns s = true → underApplication s k = false →
    let st := s.ctl[k.val]
    idx ∈ (if table then st.badEntries else st.badWords) →
    exec (.wordRepair k table idx) s = .next (tallyEvent 6 k.val (if table then 16385 + idx else 1 + idx) false (setLeaf 1 0 k.val
      { s with
        ctl := s.ctl.set k.val (if table then { st with badEntries := st.badEntries.filter (fun i => i != idx) }
          else { st with badWords := st.badWords.filter (fun i => i != idx) }),
        cores := Vector.ofFn (fun c : CoreId => if clusterOf c = k ∧ (s.core c).repairWait = some (table, idx)
          then { s.core c with repairWait := none } else s.core c) }))) ∧
  (∀ (k : ClusterId) (s : State) (bad : List (Bool × Nat)), s.hasCluster k = true → gdnRuns s = true → (s.region (clusterRegion k)).state ≠ 3 →
    ∃ w e, exec (.checkPortScan k bad) s = .next { s with ctl := s.ctl.set k.val { s.ctl[k.val] with badWords := w, badEntries := e } } ∧
      (∀ i, i ∈ w ↔ i ∈ (s.ctl[k.val]).badWords ∨ (i < 16384 ∧ (false, i) ∈ bad)) ∧
      (∀ i, i ∈ e ↔ i ∈ (s.ctl[k.val]).badEntries ∨ (i < 1024 ∧ (true, i) ∈ bad)))

/-- Debug halt (R80, R312, R313, R317): HALTREQ, the halt at the next event point, RESUME and STEP, by a master that R313 admits. -/
def Obligations.DebugResults : Prop :=
  (∀ (c : CoreId) (s : State), s.hasCore c = true → coreLive s c = true → (s.core c).haltReq = true → inStretch (s.core c) = false →
    (s.core c).run = .run ∨ (s.core c).run = .wait →
    let k := s.core c
    let h (k : Core) : Core := { k with run := .run, mid := false, rep := none, halted := true, micro := none, haltReq := false, stepOne := false,
                                        dbgstat := (k.dbgstat &&& 0x3F) ||| 0x100 }
    (k.rep = none → exec (.debugHalt c) s = .next (s.setCore c (h k))) ∧
    (∀ n, k.rep = some { left := n, fixed := false } → k.room 1 →
      ∃ t, exec (.debugHalt c) s = .next t ∧ t.arch = (s.setCore c (h (k.setOps (n :: k.ops)))).arch)) ∧
  (∀ (m : Master) (c : CoreId) (v : W32) (s : State), isActive s = true → s.hasCore c = true →
    let k := s.core c
    (plOf m = 0 → k.halted = false →
      exec (.haltreq m c v) s = .next (s.setCore c { k with dbgctl := v.setWidth 7, haltReq := true, run := if k.run = .wait then .run else k.run })) ∧
    (plOf m = 0 → k.halted = true → k.haltReq = false →
      exec (.resume m c v) s = .next (s.setCore c
        { k with dbgctl := v.setWidth 7, halted := false, stepOne := false, bpSkip := k.bpSkip || fieldOf k.dbgstat 8 2 == 2 }) ∧
      exec (.step m c v) s = .next (s.setCore c
        { k with dbgctl := v.setWidth 7, halted := false, stepOne := true, bpSkip := k.bpSkip || fieldOf k.dbgstat 8 2 == 2 })) ∧
    (0 < plOf m → ∀ i ∈ [Instr.haltreq m c v, .resume m c v, .step m c v], exec i s = .next s))

/-- REGISTER_WRITE (R9, R10, R26, R51): a control register takes the value that a CWR of the same core would write at once; a block register
changes under its rule; an offset that is no register and an offset that is not a multiple of 4 discard the write. -/
def Obligations.RegisterWriteResults : Prop :=
  (∀ (m : Master) (c : CoreId) (n : BitVec 12) (v : Word) (s : State) (x : Nat × Nat × Core), coreLive s c = true → (s.core c).run = .run →
    x ∈ cwrTable (s.core c) v → n.toNat = x.1 → cregFault (s.core c) x.1 = none →
    exec (.registerWrite m (.ctrl c n) v) s = .next (if (s.core c).pl.toNat ≤ x.2.1 then s.setCore c x.2.2 else s)) ∧
  (∀ (m : Master) (v : Word) (s : State), isActive s = true → plOf m = 0 → m ≠ .gardener → m ≠ .debug →
    let w : W32 := v.setWidth 32
    (∀ b : BankId, s.hasBank b = true → exec (.registerWrite m (.block (BitVec.ofNat 24 (0x30_000C + 16 * b.val))) v) s =
      .next (s.modBank b (fun k => { k with cecnt := v.setWidth 16 }))) ∧
    (∀ i : Fin 8, exec (.registerWrite m (.block (BitVec.ofNat 24 (0x30_2200 + 16 * i.val))) v) s =
      .next { s with rgn := s.rgn.set (16 + i.val) (if bitOf (s.rgn[16 + i.val]).perm 31 then s.rgn[16 + i.val]
        else { s.rgn[16 + i.val] with base := w &&& 0x01FF_FFF0 }) }) ∧
    (exec (.registerWrite m (.block 0x602018) v) s =
      .next { s with smgr := { s.smgr with plogEn := v.getLsbD 0, plogOvf := s.smgr.plogOvf && !v.getLsbD 1 } }) ∧
    (∀ g : Fin 40, presentWord s g.val ≠ 0 → exec (.registerWrite m (.block (BitVec.ofNat 24 (0x10_0900 + 4 * g.val))) v) s =
      .next { s with intc := { s.intc with
        level := if v.toNat % 8 ∈ [0, 6, 7] then s.intc.level else s.intc.level.set g.val (v.setWidth 3),
        holdoff := s.intc.holdoff.set g.val (fieldOf v 16 16) } })) ∧
  (∀ (m : Master) (off : BitVec 24) (v : Word) (s : State), isActive s = true → off.toNat % 4 ≠ 0 ∨ 0x80_0000 ≤ off.toNat →
    regWaits s off.toNat = false → exec (.registerWrite m (.block off) v) s = .next s) ∧
  (∀ (m : Master) (off : BitVec 24) (v : Word) (s : State), isActive s = false ∨ regWaits s off.toNat = true →
    exec (.registerWrite m (.block off) v) s = .next s)

/-- Scratchpad banks (R361, R363 to R366, R372 to R378): the owner write and its refusal, the end of a handover, the power write and the end of its
change, the write-back of a corrected word, and the weeder's steal on banks that hold no error: POS goes on; a mismatch that the confirm run meets
again is recorded, raised and made a lasting mark. A steal as one command is the model's choice (log entry 33). -/
def Obligations.ScratchpadBankResults : Prop :=
  ((∀ (m : Master) (b : BankId) (v : W32) (s : State), isActive s = true → s.hasBank b = true →
    let k := s.banks[b.val]
    let code : Byte := v.setWidth 8
    let release := code = 0xFF ∧ ∃ c pl, m = .core c pl ∧ k.owner = BitVec.ofNat 8 c.val
    ((plOf m = 0 ∨ release) → k.handoverDone = true → k.owner ≠ 0xFE → (release ∨ ownerCodeOk s b code.toNat = true) →
      exec (.spmBankOwnerWrite m b v) s = .next (if k.owner = code then s else
        { s with banks := s.banks.set b.val { k with oldOwner := k.owner, owner := code, handoverDone := false } })) ∧
    ((plOf m = 0 ∨ release) → (k.handoverDone = false ∨ k.owner = 0xFE ∨ (¬release ∧ ownerCodeOk s b code.toNat = false)) →
      exec (.spmBankOwnerWrite m b v) s = .next (raiseSource (1176 + b.val / 64) { s with banks := s.banks.set b.val { k with rej := true } })) ∧
    (0 < plOf m → ¬release → exec (.spmBankOwnerWrite m b v) s = .next s) ∧
    (plOf m = 0 → v.toNat % 4 ≠ 3 → (k.owner = 0xFE → m = .gardener ∨ m = .debug) →
      exec (.spmBankPwrWrite m b v) s = .next { s with banks := s.banks.set b.val { k with
        req := v.setWidth 2, pstate := if k.pstate = v.setWidth 2 then v.setWidth 2 else 3,
        fromOff := if k.pstate = 3 then k.fromOff else k.pstate == 2 } })) ∧
  (∀ (b : BankId) (s : State), fabRuns s = true → s.hasBank b = true →
    let k := s.banks[b.val]
    (k.handoverDone = false → (∀ c : CoreId, k.oldOwner = BitVec.ofNat 8 c.val → (s.core c).sb = []) →
      exec (.handoverDone b) s = .next (raiseSource (1180 + b.val / 64)
        { s with banks := s.banks.set b.val { k with handoverDone := true, oldOwner := 0xFF } })) ∧
    (k.pstate = 3 → k.handoverDone = true → (∀ c : CoreId, k.owner = BitVec.ofNat 8 c.val → (s.core c).sb = []) →
      (s.region (bankRegion b)).state ≠ 3 → s.spmCe = [] → s.spmUe = [] →
      ∃ m, exec (.bankPowerChangeDone b) s = .next { s with
          mem := m, banks := s.banks.set b.val { k with pstate := k.req, fromOff := k.fromOff && k.req != 0 } } ∧
        (Memory.wf s.mem = true → ∀ a, memGet m a =
          if k.fromOff = true ∧ k.req = 0 ∧ 0x80_0000_0000 + b.val * 0x2_0000 ≤ a ∧ a < 0x80_0000_0000 + (b.val + 1) * 0x2_0000 then 0
          else memGet s.mem a)) ∧
    (∀ w : Fin 16384, k.pstate = 0 → exec (.correctionWriteBack b w) s =
      .next { s with spmCe := s.spmCe.filter (fun x => x != 0x80_0000_0000 + b.val * 0x2_0000 + 8 * w.val) }))) ∧
  (∀ (s : State), s.weeder.en = true → fabRuns s = true → s.spmCe = [] → s.spmUe = [] →
    exec (.weederSteal []) s = .next { s with weeder := { s.weeder with pos := s.weeder.pos + 1 } } ∧
    (∀ b : BankId, s.hasBank b = true → (s.banks[b.val]).pstate = 0 → ∃ t,
      t = tallyEvent 3 b.val 0 true (raiseSource (1168 + b.val / 64) { s with
        banks := s.banks.set b.val { s.banks[b.val] with weedFault := true },
        weeder := { s.weeder with fault := BitVec.ofNat 32 (b.val + s.weeder.pos.toNat * 256 + 2 ^ 31) } }) ∧
      exec (.weederSteal [(b, true)]) s = .next { t with weeder := { t.weeder with pos := t.weeder.pos + 1 } }))

/-- A bank-mover channel (R381 to R387): START takes the agent and the slice of who starts it, ABORT waits for the block or finds the channel at
rest, the last block of a local descriptor copies its bytes and ends the chain, and a misaligned descriptor address is an error. The one local
descriptor of these statements has no overlap, whose content R383 leaves open (log entry 59). -/
def Obligations.MoverResults : Prop :=
  (∀ (m : Master) (n : Fin 16) (s : State), isActive s = true → n.val / 4 < s.build.regions → plOf m < 2 →
    let k := s.movers[n.val]
    (k.state = 1 → exec (.spmMvStart m n) s = .next s) ∧
    let started (agent : Byte) (slice : BitVec 6) (s2 : Bool) : Mover :=
      { desc := k.desc, state := 1, agent := agent, slice := slice, s2 := s2, cur := k.desc }
    (k.state ≠ 1 → ∀ c pl, m = .core c pl →
      exec (.spmMvStart m n) s = .next { s with movers := s.movers.set n.val (started (BitVec.ofNat 8 c.val) (s.core c).slice true) }) ∧
    (k.state ≠ 1 → (∀ c pl, m ≠ .core c pl) →
      exec (.spmMvStart m n) s = .next { s with movers := s.movers.set n.val (started (BitVec.ofNat 8 (0x40 + n.val / 4)) 0 false) }) ∧
    (plOf m = 0 ∨ (∃ c pl, m = .core c pl ∧ k.agent.toNat < 0x40 ∧ k.slice = (s.core c).slice) →
      exec (.spmMvAbort m n) s = .next { s with movers := s.movers.set n.val (if k.state = 1 then { k with abortReq := true } else { k with abtres := 2 }) })) ∧
  (∀ (n : Fin 16) (s : State) (d : MvDesc) (a b : Nat), fabRuns s = true → n.val / 4 < s.build.regions →
    let k := s.movers[n.val]
    k.state = 1 → k.waiting = false → k.data = none → k.wrote = false → k.abortReq = false →
    (k.s2 = true → (s.slice k.slice).s2en = false) → s.sound → s.noLog → s.remote = [] →
    (k.d = some d → d.last = true → 0 < d.len → k.rem = BitVec.ofNat 32 d.len → d.src % 64 + d.len ≤ 64 → d.dst % 64 + d.len ≤ 64 →
      d.overlaps = false → target s d.src = .dram a → target s d.dst = .dram b →
      ∃ t, exec (.moverBlock n) s = .next t ∧
        let u : State := { s with mem := memWrite s.mem b (memRead s.mem a d.len),
                                  movers := s.movers.set n.val { k with state := 2, d := none, rem := 0, writing := false } }
        t.arch = (if d.irq = true then raiseSource (1152 + n.val) u else u).arch) ∧
    (k.d = none → k.cur.toNat % 32 ≠ 0 → exec (.moverBlock n) s = .next (raiseSource (1152 + n.val)
      { s with movers := s.movers.set n.val { k with state := 3, err := 1, writing := false } })))

/-- What raising a source, setting a leaf and recording an event do (R128, R393, R477, R484): the words in which the results of the other blocks
are stated. -/
def Obligations.SourcesLeavesAndTallies : Prop :=
  (∀ (v : Vector W32 40) (n m : Nat) (b : Bool), n < 1280 → m < 1280 → bitAt (setBitAt v n b) m = if m = n then b else bitAt v m) ∧
  (∀ (s : State) (n : Nat), n < 1280 →
    let u : State := { s with intc := { s.intc with pend := setBitAt s.intc.pend n true } }
    raiseSource n s = { u with cores := Vector.ofFn (fun c : CoreId =>
      if (s.core c).run = .wait ∧ viewWord u c (n / 32) ≠ 0 then { s.core c with run := .run } else s.core c) }) ∧
  (∀ (s : State) (k j unit : Nat), (hj : j < 16) → (hk : k < 12) →
    let l := (s.gdn.leaves[16 * k + j]'(by omega))
    let l' : Leaf := { set := true, count := if l.count = 127 then 127 else l.count + 1, unit := BitVec.ofNat 16 unit }
    setLeaf k j unit s = raiseSource 1211 { s with gdn := { s.gdn with leaves := s.gdn.leaves.set (16 * k + j) l' (by omega) } }) ∧
  (∀ (s : State) (cls unit : Nat) (atOnce : Bool), 0 < cls → (hc : cls < 11) → (tallyOf s cls unit 0).lasting = false → atOnce = false →
    let t := tallyOf s cls unit 0
    let recent := (s.sys.count :: t.recent).take 8
    (recent.length < (tallyCfg s cls).n ∨
      ∃ old, recent[(tallyCfg s cls).n - 1]? = some old ∧ s.sys.count.toNat - old.toNat > (tallyCfg s cls).w.toNat * 100000) →
    let t' : Tally := { t with recent := recent, total := if t.total = 0xFFFF_FFFF then t.total else t.total + 1 }
    tallyEvent cls unit 0 atOnce s = { s with gdn := { s.gdn with
      events := s.gdn.events.set (cls - 1) (s.gdn.events[cls - 1]'(by omega) + 1) (by omega),
      tallies := t' :: s.gdn.tallies.filter (fun x => !(x.cls == t.cls && x.unit == t.unit && x.sub == t.sub)) } })

/-- The sources of the interrupt controller (R391 to R402, R410): inputs, the registers of a group under R399, routing, and the views. -/
def Obligations.InterruptSourceResults : Prop :=
  (∀ (n : Fin 1024) (s : State), n.val < s.build.irqIn →
    (fabRuns s = true → bitAt s.intc.sense n.val = false → exec (.irqEdge n) s =
      .next (wakeGroup (n.val / 32) { s with intc := { s.intc with pend := setBitAt s.intc.pend n.val true } })) ∧
    (fabRuns s = false → inReset s = false →
      exec (.irqEdge n) s = .next { s with intc := { s.intc with alatch := setBitAt s.intc.alatch n.val true } }) ∧
    (∀ high, fabRuns s = true → bitAt s.intc.sense n.val = true → exec (.irqLevelChange n high) s = .next (wakeGroup (n.val / 32)
      { s with intc := { s.intc with pin := setBitAt s.intc.pin n.val high, input := setBitAt s.intc.input n.val high } }))) ∧
  (∀ (m : Master) (g : Fin 40) (v : W32) (s : State), isActive s = true → plOf m < 2 →
    let i := s.intc
    let b := v &&& intcBits s m g.val
    let se := i.sense[g.val]
    exec (.intcPendSet m g v) s = .next (wakeGroup g.val { s with intc := { i with
      pend := i.pend.set g.val (i.pend[g.val] ||| (b &&& ~~~se)), latch := i.latch.set g.val (i.latch[g.val] ||| (b &&& se)) } }) ∧
    exec (.intcPendClr m g v) s = .next { s with intc := { i with
      pend := i.pend.set g.val (i.pend[g.val] &&& ~~~(b &&& ~~~se)), latch := i.latch.set g.val (i.latch[g.val] &&& ~~~(b &&& se)) } } ∧
    exec (.intcMaskSet m g v) s = .next { s with intc := { i with
      mask := i.mask.set g.val (i.mask[g.val] ||| b),
      delays := i.delays ++ (if b &&& ~~~i.mask[g.val] = 0 then [] else [{ g := g, bits := b &&& ~~~i.mask[g.val], left := 5 }]) } } ∧
    exec (.intcMaskClr m g v) s = .next (wakeGroup g.val { s with intc := { i with
      mask := i.mask.set g.val (i.mask[g.val] &&& ~~~b),
      delays := i.delays.map (fun d => if d.g = g then { d with bits := d.bits &&& ~~~b } else d) } }) ∧
    (∀ j < 32, b.getLsbD j = true ↔ v.getLsbD j = true ∧ sourcePresent s (32 * g.val + j) = true ∧ (plOf m = 0 ∨
      (masterSlice s m).groups.getLsbD g.val = true ∨ 38 ≤ g.val ∧ (masterSlice s m).cores.getLsbD (32 * (g.val - 38) + j) = true))) ∧
  (∀ (m : Master) (g : Fin 40) (v : W32) (s : State), isActive s = true → plOf m = 0 →
    let i := s.intc
    let new := v &&& presentWord s g.val
    let ch := new ^^^ i.sense[g.val]
    exec (.intcSenseWrite m g v) s = .next (if 32 ≤ g.val then s else wakeGroup g.val { s with intc := { i with
      sense := i.sense.set g.val new, pend := i.pend.set g.val (i.pend[g.val] &&& ~~~ch),
      latch := i.latch.set g.val (i.latch[g.val] &&& ~~~ch) } }) ∧
    exec (.intcActiveWrite m g v) s = .next (if m = .gardener then
      wakeGroup g.val { s with intc := { i with active := i.active.set g.val new } } else s)) ∧
  (∀ (m : Master) (n : Fin 1280) (v : W32) (s : State), isActive s = true → plOf m = 0 →
    exec (.intcRouteWrite m n v) s = .next (if h : n.val < 1216 ∧ sourcePresent s n.val = true ∧ v.toNat % 64 < 16 * s.build.regions then
      wakeGroup (n.val / 32) { s with intc := { s.intc with route := s.intc.route.set n.val (v.setWidth 6) h.1 } } else s)) ∧
  (∀ (s : State) (c : CoreId) (g : Fin 40) (j : Nat), j < 32 → ((viewWord s c g.val).getLsbD j = true ↔
    (pendingWord s g.val).getLsbD j = true ∧ (viewMask s g.val).getLsbD j = false ∧ s.intc.held[g.val] = false ∧
    routeOf s (32 * g.val + j) = c.val))

/-- Claiming and completing (R403 to R408): a successful claim makes the source active and takes its pending bit or latch; every other claim
only reports; a completion ends the active state and starts the group's hold-off; a completion of a source that is not active is
counted as stray. -/
def Obligations.ClaimAndCompleteResults : Prop :=
  (∀ (c : CoreId) (v : W32) (s : State), isActive s = true → s.hasCore c = true → (s.core c).pl.toNat < 2 →
    let n := v.toNat % 2048
    let i := s.intc
    let mine := (s.core c).pl = 1 → (s.slice (s.core c).slice).groups.getLsbD (n / 32) = true
    let answered (r : BitVec 3) : Intc := { i with claimSrc := i.claimSrc.set c.val (v.setWidth 11), claimRes := i.claimRes.set c.val r }
    (n < 1280 → sourcePresent s n = true → mine → bitAt i.active n = false → (viewWord s c (n / 32)).getLsbD (n % 32) = true →
      exec (.intcClaim c v) s = .next { s with intc := { answered 1 with
        active := setBitAt i.active n true,
        latch := if bitAt i.sense n = true then setBitAt i.latch n false else i.latch,
        pend := if bitAt i.sense n = true then i.pend else setBitAt i.pend n false } }) ∧
    (n < 1280 → sourcePresent s n = true → mine → bitAt i.active n = true → exec (.intcClaim c v) s = .next { s with intc := answered 3 }) ∧
    (n < 1280 → sourcePresent s n = true → mine → bitAt i.active n = false → (viewWord s c (n / 32)).getLsbD (n % 32) = false →
      exec (.intcClaim c v) s = .next { s with intc := answered 2 }) ∧
    (n < 1280 → sourcePresent s n = true → ¬mine → exec (.intcClaim c v) s = .next { s with intc := answered 4 }) ∧
    (1280 ≤ n ∨ sourcePresent s n = false → exec (.intcClaim c v) s = .next { s with intc := answered 5 }) ∧
    ((hn : n < 1280) → mine → bitAt i.active n = true →
      let act := setBitAt i.active n false
      exec (.intcComplete c v) s = .next (wakeGroup (n / 32) { s with intc := { i with
        active := act,
        held := if i.holdoff[n / 32]'(by omega) ≠ 0 ∧ act[n / 32]'(by omega) = 0 then i.held.set (n / 32) true (by omega) else i.held } })) ∧
    (n < 1280 → ¬mine → exec (.intcComplete c v) s = .next s) ∧
    (1280 ≤ n ∨ (mine ∧ bitAt i.active n = false) → exec (.intcComplete c v) s = .next (setLeaf 7 0 c.val (tallyEvent 7 0 0 false
      { s with intc := { i with strayCount := if i.strayCount = 0xFFFF then 0xFFFF else i.strayCount + 1,
                                strayLast := BitVec.ofNat 32 (n + 2 ^ 16 * c.val + 2 ^ 31) } })))) ∧
  (∀ (g : Fin 40) (s : State), fabRuns s = true → s.intc.held[g.val] = true → exec (.holdoffEnd g) s =
    .next (wakeGroup g.val { s with intc := { s.intc with held := s.intc.held.set g.val false } }))

/-- Ticks and captures of a timer channel (R414 to R417, R424, R425, R427, R428): the prescaler, the count with its wrap and its matches, the
output, and the capture of both edges. CHANNEL_TICK is read as one source tick (DEDUCED, log entry 67). -/
def Obligations.TimerTickResults : Prop :=
  ∀ (n : ChanId) (s : State), s.hasChan n = true → tmrRuns s (chanRegion n) = true →
    let k := s.chan n
    let wrap := decide (k.period.act.toNat ≤ k.cnt.toNat)
    let copied (v : TmrVal) : TmrVal := if wrap then { v with act := v.pend.getD v.act, pend := none } else v
    let cnt : BitVec 48 := if wrap then 0 else k.cnt + 1
    let a := cnt == (copied k.cmpa).act
    let b := cnt == (copied k.cmpb).act
    let out := if k.outmode = 1 then !a && (k.out || wrap) else if k.outmode = 2 then !b && (k.out || a) else if k.outmode = 3 then k.out != a
      else if k.outmode = 4 then k.out != wrap else k.out
    let k' : Chan := { k with
      acc := BitVec.ofNat 33 (k.acc.toNat + 0x1_0000 - max k.div.toNat 0x1_0000), cnt := cnt, out := out,
      period := copied k.period, cmpa := copied k.cmpa, cmpb := copied k.cmpb,
      ctl := if wrap && k.oneshot then k.ctl &&& ~~~1 else k.ctl,
      wcnt := k.wcnt.map (fun w => if w = 0xFFFF_FFFF_FFFF then w else w + 1),
      stat := k.stat ||| (if wrap then 1 else 0) ||| (if a then 2 else 0) ||| (if b then 4 else 0) }
    let u := { s with chans := s.chans.set n.val k' }
    let u1 := if (wrap && bitOf k.irqen 0) || (a && bitOf k.irqen 1) then raiseSource (1024 + 2 * n.val) u else u
    let u2 := if b && bitOf k.irqen 2 then raiseSource (1025 + 2 * n.val) u1 else u1
    (k.src ≠ 3 → k.src ≠ 4 → k.en = true → chanFrozen s n = false →
      (k.acc.toNat + 0x1_0000 < max k.div.toNat 0x1_0000 → exec (.channelTick n) s =
        .next { s with chans := s.chans.set n.val { k with acc := BitVec.ofNat 33 (k.acc.toNat + 0x1_0000) } }) ∧
      (max k.div.toNat 0x1_0000 ≤ k.acc.toNat + 0x1_0000 → exec (.channelTick n) s = .next
        (if h : wrap = true ∧ n.val % 16 < 15 ∧ (s.chans[(n.val + 1) % 64]).src = 4 then sourceTick 15 ⟨n.val + 1, by omega⟩ u2 else u2))) ∧
    (k.src = 3 ∨ k.src = 4 ∨ k.en = false ∨ chanFrozen s n = true → exec (.channelTick n) s = .next s) ∧
    (let w := if k.src = 3 then sourceTick 16 n s else s
     let x := w.chan n
     let r := { w with chans := w.chans.set n.val { x with
       capr := x.cnt, wcnt := some 0, stat := x.stat ||| 8 ||| (if x.stat.getLsbD 3 then 0x40 else 0) } }
     exec (.tmrInRise n) s = .next (if x.en = false then w else if bitOf x.irqen 3 then raiseSource (1025 + 2 * n.val) r else r)) ∧
    (let r := { s with chans := s.chans.set n.val { k with
       capf := k.cnt, width := k.wcnt.getD k.width, wcnt := none,
       stat := k.stat ||| 0x10 ||| (if k.wcnt.isSome then 0x20 else 0) ||| (if k.stat.getLsbD 4 then 0x40 else 0) } }
     exec (.tmrInFall n) s = .next (if k.en = false then s else if bitOf k.irqen 4 then raiseSource (1025 + 2 * n.val) r else r))

/-- The registers of a timer channel and of the system counter (R416, R419 to R422, R428, R432, R435): holding words, pending values, LOAD_NOW,
the count, the commands and the make-up ratio. -/
def Obligations.TimerRegisterResults : Prop :=
  (∀ (m : Master) (n : ChanId) (v : W32) (s : State), isActive s = true → s.hasChan n = true → (s.region (chanRegion n)).state.toNat < 2 →
    let k := s.chan n
    let wr (k' : Chan) : State := { s with chans := s.chans.set n.val k' }
    let joined (lo : W32) : BitVec 48 := BitVec.ofNat 48 (lo.toNat + v.toNat * 2 ^ 32)
    (plOf m = 0 ∨ (plOf m = 1 ∧ (masterSlice s m).tmrch.getLsbD n.val = true) →
      exec (.holdingWordWrite m (some n) .cnt v) s = .next (wr { k with cntHold := v }) ∧
      exec (.holdingWordWrite m (some n) .period v) s = .next (wr { k with period := { k.period with hold := v } }) ∧
      exec (.holdingWordWrite m (some n) .cmpa v) s = .next (wr { k with cmpa := { k.cmpa with hold := v } }) ∧
      exec (.holdingWordWrite m (some n) .cmpb v) s = .next (wr { k with cmpb := { k.cmpb with hold := v } }) ∧
      exec (.pendingCommit m n .period v) s = .next (wr { k with period := { k.period with pend := some (joined k.period.hold) } }) ∧
      exec (.pendingCommit m n .cmpa v) s = .next (wr { k with cmpa := { k.cmpa with pend := some (joined k.cmpa.hold) } }) ∧
      exec (.pendingCommit m n .cmpb v) s = .next (wr { k with cmpb := { k.cmpb with pend := some (joined k.cmpb.hold) } }) ∧
      exec (.loadNow m n .period v) s = .next (wr { k with period := { k.period with act := joined k.period.hold, pend := none } }) ∧
      exec (.loadNow m n .cmpa v) s = .next (wr { k with cmpa := { k.cmpa with act := joined k.cmpa.hold, pend := none } }) ∧
      exec (.loadNow m n .cmpb v) s = .next (wr { k with cmpb := { k.cmpb with act := joined k.cmpb.hold, pend := none } }) ∧
      exec (.tmrCntHiWrite m n v) s = .next (wr { k with cnt := joined k.cntHold }) ∧
      exec (.outset m n) s = .next (wr { k with out := true }) ∧
      exec (.outclr m n) s = .next (wr { k with out := false }) ∧
      exec (.clracc m n) s = .next (wr { k with acc := 0 })) ∧
    (plOf m = 0 →
      exec (.holdingWordWrite m (some n) .ratio v) s = .next (wr { k with ratioHold := v }) ∧
      exec (.tmrMkupRatioWrite m (some n) v) s = .next (wr { k with ratio := BitVec.ofNat 64 (k.ratioHold.toNat + v.toNat * 2 ^ 32), mfrac := 0 })) ∧
    (2 ≤ plOf m ∨ (plOf m = 1 ∧ (masterSlice s m).tmrch.getLsbD n.val = false) →
      ∀ i ∈ [Instr.holdingWordWrite m (some n) .cnt v, .pendingCommit m n .period v, .loadNow m n .cmpa v, .tmrCntHiWrite m n v, .outset m n,
        .outclr m n, .clracc m n, .tmrMkupRatioWrite m (some n) v], exec i s = .next s)) ∧
  (∀ (m : Master) (r : HoldReg) (v : W32) (s : State), isActive s = true → plOf m = 0 →
    exec (.holdingWordWrite m none r v) s = .next { s with sys := { s.sys with ratioHold := v } } ∧
    exec (.tmrMkupRatioWrite m none v) s =
      .next { s with sys := { s.sys with ratio := BitVec.ofNat 64 (s.sys.ratioHold.toNat + v.toNat * 2 ^ 32), mfrac := 0 } })

/-- The Gardener's queues and leaves (R461 to R466, R470, R471, R484): POST, the acknowledgement of a reply, the clearing of a leaf, the refusals
that come before a command is carried out, and what a reply is. -/
def Obligations.GardenerQueueResults : Prop :=
  (∀ (m : Master) (q : Fin 4) (s : State), isActive s = true → queueMaster m q.val = true →
    let k := s.gdn.q[q.val]
    let b := k.req.toList.flatMap (fun w => leBytes 4 w.toNat)
    (k.slots.length < 16 → exec (.gdnPost m q) s = .next (s.modQueue q (fun k => { k with
      slots := k.slots ++ [{ pkt := b.take (if pktField b 3 1 ≤ 30 then 16 + 8 * pktField b 3 1 else 16) }],
      lastseq := BitVec.ofNat 16 (pktField b 4 2) }))) ∧
    (16 ≤ k.slots.length → exec (.gdnPost m q) s = .next (s.modQueue q (fun k => { k with rej := true }))) ∧
    (∀ (seq : Half) (c : GCmd) (rest : List GCmd), k.slots = c :: rest → exec (.gdnReplyAck m q seq) s =
      .next (s.modQueue q (fun k => if c.isReady = true ∧ c.seq = seq.toNat then { k with slots := rest } else { k with badack := true }))) ∧
    (∀ seq : Half, k.slots = [] → exec (.gdnReplyAck m q seq) s = .next (s.modQueue q (fun k => { k with badack := true })))) ∧
  (∀ (m : Master) (q : Fin 4) (seq : Half) (s : State), queueMaster m q.val = false →
    exec (.gdnPost m q) s = .next s ∧ exec (.gdnReplyAck m q seq) s = .next s) ∧
  (∀ (m : Master) (i : Fin 192) (s : State), isActive s = true → (∃ c, m = .core c 0) ∨ m = .host ∨ m = .debug →
    let l : Leaf := { s.gdn.leaves[i.val] with set := false, count := 0 }
    exec (.leafClear m i) s = .next { s with gdn := { s.gdn with leaves := s.gdn.leaves.set i.val l } }) ∧
  (∀ (s : State) (x : GCtx) (op : Nat), Turn s x op →
    (opQueues op = none → exec (.unlistedOpcode x.q) s = .next (gReply x 0x20 [] (s.accepting x))) ∧
    (op = 1 → headerOk x.cmd = false → exec (.info x.q) s = .next (gReply x 0x21 [7] (s.accepting x))) ∧
    (op = 0x20 → x.q.val ≤ 2 → headerOk x.cmd = true → classBusy (s.accepting x) x = false → paramsOk x.cmd = false →
      exec (.quiesceCluster x.q) s = .next (gReply x 0x21 [7] (s.accepting x))) ∧
    (op = 0x20 → 2 < x.q.val → exec (.quiesceCluster x.q) s = .next (gReply x 0x20 [] (s.accepting x))) ∧
    (op = 0x20 → x.q.val ≤ 2 → headerOk x.cmd = true → classBusy (s.accepting x) x = true →
      exec (.quiesceCluster x.q) s = .next (gReply x 0x23 [] (s.accepting x)))) ∧
  (∀ (s : State) (x : GCtx) (st : GStatus) (payload : List Word) (c : GCmd), x.q.val < 3 → (s.gdn.q[x.q.val]).slots[x.slot]? = some c →
    let u := s.modQueue x.q (fun k => { k with slots := k.slots.set x.slot { c with st := .ready st payload true s.sys.count } })
    gReply x st payload s = if c.irq = true then raiseSource (1208 + x.q.val) u else u)

/-- The commands of the Gardener that report and configure (R472, R475, R476, R479, R480): INFO, PING, GRAFT_LIST, TALLY_READ, TALLY_CONFIG,
POLICY_SET and WEEDER_CONFIG. -/
def Obligations.GardenerReportResults : Prop :=
  ∀ (s : State) (x : GCtx) (op : Nat), Accepted s x op →
    let a := s.accepting x
    let p := x.cmd.param 0
    let bad : Host.Outcome State Fault Refusal := .next (gReply x 0x21 [0] a)
    (op = 1 → ∃ w0 w1 w2 : Word, exec (.info x.q) s = .next (gReply x 0 [w0, w1, w2] a) ∧
      w0.toNat % 2 ^ 32 = 0x0204_0000 ∧ w0.toNat / 2 ^ 32 = (idConfig s.build).toNat ∧ w1.toNat % 2 ^ 32 = s.gdn.fwver.toNat ∧
      w1.getLsbD 32 = s.gdn.fwslot ∧ w1.getLsbD 33 = !s.gdn.junior ∧ w1.toNat / 2 ^ 48 = s.node.toNat) ∧
    (op = 2 → exec (.ping x.q) s = .next (gReply x 0 [p] a)) ∧
    (op = 0x32 → ∃ d n, exec (.graftList x.q) s = .next (gReply x 0 (wordsOfBytes d n) a) ∧ d.length ≤ 8 * n ∧ 8 * n < d.length + 8 ∧
      d = (allClusters.filter s.hasCluster).flatMap (fun k => storeBytes ((s.ctl[k.val]).pkg.setWidth 64) 4 ++ storeBytes ((s.ctl[k.val]).gen.setWidth 64) 2) ++
        s.gdn.staged.flatMap (fun g => storeBytes (g.pkg.setWidth 64) 4)) ∧
    (op = 0x51 →
      let cls := p.toNat % 256
      let n := p.toNat / 2 ^ 32 % 32
      let first := p.toNat / 2 ^ 16 % 2 ^ 16
      exec (.tallyRead x.q) s = if 1 ≤ cls ∧ cls ≤ 10 ∧ 1 ≤ n ∧ n ≤ 29 then
        .next (gReply x 0 (cfgWord cls (tallyCfg s cls) :: (List.range n).map (fun i => tallyWord s cls (first + i))) a) else bad) ∧
    (op = 0x50 →
      let cls := p.toNat % 256
      let w : W32 := fieldOf p 32 32
      exec (.tallyConfig x.q) s = if h : 1 ≤ cls ∧ cls ≤ 10 then
        (if w = 0 ∨ (p.getLsbD 8 = true ∧ cls ∈ [7, 8, 9]) then bad
         else .next (gReply x 0 [cfgWord cls (tallyCfg s cls)] { a with gdn := { a.gdn with
           cfg := a.gdn.cfg.set (cls - 1) { retire := p.getLsbD 8, n := p.toNat / 2 ^ 16 % 8 + 1, w := w } (by omega),
           tallies := a.gdn.tallies.map (fun t => if t.cls = cls then { t with recent := [] } else t) } })) else bad) ∧
    (op = 0x52 →
      let key := p.toNat % 2 ^ 16
      let v := x.cmd.param 1
      let n := v.toNat
      let k := s.gdn.pol
      let done (old : Word) (k' : Policies) : Host.Outcome State Fault Refusal := .next (gReply x 0 [old] { a with gdn := { a.gdn with pol := k' } })
      exec (.policySet x.q) s =
        if key = 1 ∧ n ≤ 16 then done k.minCores { k with minCores := v }
        else if key = 2 ∧ n < 2 ^ 32 then done k.calibS { k with calibS := v }
        else if key = 3 ∧ n ≤ 1 then done k.avsEn { k with avsEn := v }
        else if key = 4 ∧ 1 ≤ n ∧ n ≤ 65535 ∧ n ≤ k.avsCeil.toNat then done k.avsFloor { k with avsFloor := v }
        else if key = 5 ∧ 1 ≤ n ∧ n ≤ 65535 ∧ k.avsFloor.toNat ≤ n then done k.avsCeil { k with avsCeil := v }
        else if key = 6 ∧ 1 ≤ n ∧ n ≤ 20 then done k.avsStep { k with avsStep := v }
        else if key = 7 ∧ 900 ≤ n ∧ n ≤ 1000 then done k.roTarget { k with roTarget := v }
        else bad) ∧
    (op = 0x80 → exec (.weederConfig x.q) s = .next (gReply x 0 [(if s.weeder.en then 1 else 0) ||| (s.weeder.period.setWidth 64 <<< 16)]
      { a with weeder := { s.weeder with en := p.getLsbD 0, period := fieldOf p 16 16 } }))

/-- The records of the Gardener (R475, R482, R486 to R489): a commit, RECORD_WRITE and RECORD_READ, NODE_SET, and the records that it writes by
itself. The replies after a failed commit are the model's reading (log entry 74). -/
def Obligations.GardenerRecordResults : Prop :=
  (∀ (s : State) (typ origin : Nat) (d : List Byte) (ok : Bool),
    let f := s.gdn.flash
    let size := (d.length + 0x15 + 15) / 16 * 16
    (ok = true → f.used + size ≤ 2 ^ 22 → commitRecord typ origin d ok s = { s with gdn := { s.gdn with flash := { f with
      records := f.records ++ [{ typ := typ, origin := origin, seq := f.seq, payload := d }], seq := f.seq + 1, used := f.used + size } } }) ∧
    (ok = false → commitRecord typ origin d ok s = raiseSource 1213 (setLeaf 11 3 typ
      { s with gdn := { s.gdn with flash := { f with used := f.used + 3 * size, seq := f.seq + 3 } } }))) ∧
  (∀ (s : State) (x : GCtx) (op : Nat) (ok : Bool), Accepted s x op →
    let a := s.accepting x
    let p := x.cmd.param 0
    let typ := p.toNat % 256
    let origin := if x.q.val = 3 then x.cmd.port + 1 else 0
    (op = 0x60 → typ = 5 ∨ (0x20 ≤ typ ∧ typ ≤ 0x3F) →
      ∃ u, u = commitRecord typ origin ((x.cmd.pkt.drop 24).take (p.toNat / 2 ^ 16 % 2 ^ 16)) ok a ∧
        exec (.recordWrite ok x.q) s = .next (gReply x 0 [(u.gdn.flash.seq - 1).setWidth 64] u)) ∧
    (op = 0x60 → ¬(typ = 5 ∨ (0x20 ≤ typ ∧ typ ≤ 0x3F)) → exec (.recordWrite ok x.q) s = .next (gReply x 0x21 [0] a)) ∧
    (op = 0x61 → (x.q.val = 3 → typ ≠ 0xF0 ∧ typ ≠ 0xF1) →
      let l := (s.gdn.flash.records.filter (fun r => r.typ == typ && r.origin == origin)).reverse
      (∀ r : Record, l[p.toNat / 2 ^ 16 % 2 ^ 16]? = some r → ∃ (d : List Byte) (n : Nat), d = (r.payload.drop (x.cmd.param 1).toNat).take 232 ∧ d.length ≤ 8 * n ∧ 8 * n < d.length + 8 ∧
        exec (.recordRead x.q) s = .next (gReply x 0 ((BitVec.ofNat 64 r.payload.length ||| (zx r.seq <<< 32)) :: wordsOfBytes d n) a)) ∧
      (l[p.toNat / 2 ^ 16 % 2 ^ 16]? = none → exec (.recordRead x.q) s = .next (gReply x 0x21 [0] a))) ∧
    (op = 0x90 → s.tme.quiesced = false → exec (.nodeSet ok x.q) s = .next (gReply x 0x23 [] a)) ∧
    (op = 0x90 → s.tme.quiesced = true → (∀ i : PortId, (s.ports[i.val]).state ≠ 4 ∧ (s.ports[i.val]).state ≠ 5) → p.getLsbD 12 = false →
      exec (.nodeSet ok x.q) s = .next (gReply x 0 [s.node.setWidth 64]
        { a with node := p.setWidth 12, members := s.members.set 0 { s.members[0] with node := p.setWidth 12 } }))) ∧
  (∀ (s : State) (ok : Bool), gdnServes s = true →
    (∃ d, exec (.tallyHistoryWrite ok) s = .next (commitRecord 3 0 d ok s) ∧ d.length = 88 ∧ d.take 8 = storeBytes s.sys.count 8 ∧
      ∀ i : Fin 10, (d.drop (8 + 8 * i.val)).take 8 =
        storeBytes ((s.gdn.events[i.val]).setWidth 64) 4 ++ storeBytes ((s.gdn.marks[i.val]).setWidth 64) 4) ∧
    (∃ d, exec (.ageingDataWrite ok) s = .next (commitRecord 4 0 d ok s) ∧ d.length = 28 ∧ d.take 8 = storeBytes s.sys.count 8 ∧
      (d.drop 8).take 2 = storeBytes (s.gdn.avsMv.setWidth 64) 2 ∧ ∀ r : RegionId, (d.drop (12 + 4 * r.val)).take 4 =
        storeBytes (((s.gdn.roBase[r.val]).getD 0).setWidth 64) 2 ++ storeBytes ((s.gdn.roLast[r.val]).setWidth 64) 2))

/-- Slices (R437 to R449): what SLICE_CREATE requires and what it leaves, the refusal by the first reason of R447, resizing, destroying, and the
invalidation of cached PID table entries. -/
def Obligations.SliceResults : Prop :=
  (∀ (m : Master) (v : W32) (s : State), isActive s = true → plOf m = 0 → m ≠ .debug →
    let l : List (BitVec 16 × BitVec 16) := if v.getLsbD 16 = true then [] else s.smgr.pidCache.filter (fun e => e.1 != v.setWidth 16)
    exec (.slcPidinv m v) s = .next { s with smgr := { s.smgr with pidCache := l } }) ∧
  (∀ (s : State) (x : GCtx), Accepted s x 0x70 →
    let a := s.accepting x
    let p := x.cmd.param
    let d : Slice := {
      state := if (p 1).getLsbD 43 then 4 else 1, s2en := (p 1).getLsbD 40, qpol := fieldOf (p 1) 41 2, dloglim := fieldOf (p 5) 53 9,
      bw := (p 6).setWidth 32, cores := p 0, groups := (p 1).setWidth 40, tmrch := p 2, banks := bankWords x.cmd 7,
      s2root := (p 3).setWidth 53, heb := (p 4).setWidth 53, dlog := (p 5).setWidth 53 }
    let h := s.slices[0]
    (createReason a x = none → ∃ u, exec (.sliceCreate x.q) s = .next (gReply x 0 [] u) ∧
      u.arch = { a with slices := (s.slices.set 0 { h with
        cores := h.cores &&& ~~~d.cores, groups := h.groups &&& ~~~d.groups, tmrch := h.tmrch &&& ~~~d.tmrch,
        banks := h.banks &&& ~~~d.banks }).set x.cmd.slice.toNat d }.arch ∧
      ∀ c : CoreId, d.cores.getLsbD c.val = true → ∀ e ∈ (u.core c).itlb ++ (u.core c).dtlb ++ (u.core c).l2tlb, e.slice ≠ 0) ∧
    (∀ r, createReason a x = some r → r ≠ 8 → exec (.sliceCreate x.q) s = .next (gReply x 0x21 [BitVec.ofNat 64 r] a)) ∧
    (createReason a x = some 8 → exec (.sliceCreate x.q) s = .next (gReply x 0x40 [] a)) ∧
    (createReason a x = none ↔
      (x.cmd.slice ≠ 0 ∧ (s.slice x.cmd.slice).state = 0) ∧
      ((p 1).toNat / 2 ^ 44 = 0 ∧ (p 5).toNat / 2 ^ 62 = 0 ∧ (p 3).toNat < 2 ^ 53 ∧ (p 4).toNat < 2 ^ 53 ∧ (p 6).toNat < 2 ^ 32 ∧
        (∀ ch < 4, d.bw.toNat / 2 ^ (8 * ch + 6) % 4 = 0) ∧ d.qpol ≠ 3) ∧
      ((∀ c : CoreId, d.cores.getLsbD c.val = true → s.hasCore c = true) ∧ (∀ n : ChanId, d.tmrch.getLsbD n.val = true → s.hasChan n = true) ∧
        d.banks &&& ~~~presentBanks s.build = 0 ∧ (∀ ch < 4, s.build.mcChannels ≤ ch → shareOf d.bw ch = 0)) ∧
      ((∀ c : CoreId, d.cores.getLsbD c.val = true → (s.core c).retired = false) ∧
        (∀ b : BankId, d.banks.getLsbD b.val = true → (s.banks[b.val]).owner ≠ 0xFE)) ∧
      (d.cores &&& ~~~h.cores = 0 ∧ d.groups &&& ~~~h.groups = 0 ∧ d.tmrch &&& ~~~h.tmrch = 0 ∧ d.banks &&& ~~~h.banks = 0) ∧
      ((p 3).toNat % 2 ^ 17 = 0 ∧ inDram s (p 3).toNat 0x2_0000 = true ∧ (p 4).toNat % 64 = 0 ∧ inDram s (p 4).toNat 64 = true ∧
        d.dlog.toNat % 4096 = 0 ∧ inDram s d.dlog.toNat (1024 + min d.dloglim.toNat 256 * 32768) = true) ∧
      (∀ ch < 4, shareOf d.bw ch + ((List.finRange 64).map (fun i => if i.val = x.cmd.slice.toNat then 0 else shareOf (s.slices[i.val]).bw ch)).sum ≤ 48))) ∧
  (∀ (s : State) (x : GCtx), Accepted s x 0x71 →
    let a := s.accepting x
    let p := x.cmd.param
    let h := s.slices[0]
    let n := x.cmd.slice
    let d := s.slice n
    let ba := bankWords x.cmd 2
    let br := bankWords x.cmd 6
    let h' : Slice := { h with cores := (h.cores &&& ~~~p 0) ||| p 1, banks := (h.banks &&& ~~~ba) ||| br }
    let d' : Slice := {
      d with
      cores := (d.cores ||| p 0) &&& ~~~p 1, banks := (d.banks ||| ba) &&& ~~~br,
      qpol := if (p 10).getLsbD 2 = true then fieldOf (p 10) 0 2 else d.qpol }
    (resizeReason a x = none → p 1 = 0 ∨ sliceInUse s n = false → ∃ u, exec (.sliceResize x.q) s = .next (gReply x 0 [] u) ∧
      u.arch = { a with slices := (s.slices.set 0 h').set n.toNat d' }.arch) ∧
    (resizeReason a x = none → p 1 ≠ 0 → sliceInUse s n = true → exec (.sliceResize x.q) s = .next (gReply x 0x23 [] a)) ∧
    (n = 0 ∨ d.state ≠ 1 → exec (.sliceResize x.q) s = .next (gReply x 0x21 [1] a))) ∧
  (∀ (s : State) (x : GCtx), Accepted s x 0x72 →
    let a := s.accepting x
    let h := s.slices[0]
    let n := x.cmd.slice
    let d := s.slice n
    (n ≠ 0 → d.state = 1 ∨ d.state = 3 ∨ d.state = 4 → sliceInUse s n = false → ∃ u, exec (.sliceDestroy x.q) s = .next (gReply x 0 [] u) ∧
      u.arch = { a with slices := (s.slices.set 0 { h with
        cores := h.cores ||| d.cores, groups := h.groups ||| d.groups, tmrch := h.tmrch ||| d.tmrch, banks := h.banks ||| d.banks }).set n.toNat {} }.arch) ∧
    (n ≠ 0 → d.state = 1 ∨ d.state = 4 → sliceInUse s n = true → exec (.sliceDestroy x.q) s = .next (gReply x 0x23 [] a)) ∧
    (n = 0 ∨ (d.state ≠ 1 ∧ d.state ≠ 3 ∧ d.state ≠ 4) → exec (.sliceDestroy x.q) s = .next (gReply x 0x21 [1] a)))

/-- Migration (R453 to R458): the start of logging, a round, the freeze of a slice that no core is running, its timeout, and the adoption of an
image with what each captured core gets; the layout of the image's header is the model's (log entry 34). -/
def Obligations.MigrationResults : Prop :=
  (∀ (s : State) (x : GCtx) (op : Nat), Accepted s x op →
    let a := s.accepting x
    let n := x.cmd.slice
    let d := s.slice n
    (op = 0x73 → n ≠ 0 → d.state = 1 → d.dloglim ≠ 0 ∨ d.banks ≠ 0 → exec (.migrateStart x.q) s =
      .next (gReply x 0 [] { a with slices := s.slices.set n.toNat { d with state := 2, logovf := false } })) ∧
    (op = 0x73 → n = 0 ∨ d.state ≠ 1 ∨ (d.dloglim = 0 ∧ d.banks = 0) → exec (.migrateStart x.q) s = .next (gReply x 0x21 [1] a)) ∧
    (op = 0x74 → exec (.migrateRound x.q) s = if d.state = 2 then .next (gReply x 0 [s.sys.count, if d.logovf then 1 else 0] a)
      else .next (gReply x 0x21 [1] a)) ∧
    (op = 0x75 → (∀ y m, finalOf s x.q ≠ some (y, m)) → d.state = 2 → captured s n = [] → sliceMoves s n = false → s.sound →
      s.smgr.plogEn = false → (x.cmd.param 0).toNat < 2 ^ 38 → (x.cmd.param 0).toNat % 4096 = 0 → inDram s (x.cmd.param 0).toNat 0x3000 = true →
      target s (x.cmd.param 0).toNat = .dram (x.cmd.param 0).toNat → Memory.wf s.mem = true →
      ∃ u, exec (.migrateFinal x.q) s = .next (gReply x 0 [s.sys.count, if d.logovf then 1 else 0] u) ∧
        u.slices = s.slices.set n.toNat { d with state := 3 } ∧ u.gdn.job = s.gdn.job.set x.q.val none ∧
        (∀ g : Fin 40, u.intc.mask[g.val] = if d.groups.getLsbD g.val then s.intc.mask[g.val] ||| presentWord s g.val else s.intc.mask[g.val]) ∧
        (∀ i : ChanId, u.chan i = if d.tmrch.getLsbD i.val then { s.chan i with ctl := (s.chan i).ctl &&& ~~~1 } else s.chan i) ∧
        memRead u.mem (x.cmd.param 0).toNat 4 = leBytes 4 0x4D53_4C43 ∧
        memRead u.mem ((x.cmd.param 0).toNat + 40) 8 = storeBytes s.sys.count 8 ∧
        (∀ y, y < (x.cmd.param 0).toNat ∨ (x.cmd.param 0).toNat + 0x3000 ≤ y → memGet u.mem y = memGet s.mem y))) ∧
  (∀ (s : State) (q : Fin 4) (x : GCtx) (n : BitVec 6), gdnServes s = true → finalOf s q = some (x, n) →
    exec (.migrateFinalTimeout q) s = .next (gReply x 0x23 [] { s with
      gdn := { s.gdn with job := s.gdn.job.set x.q.val none },
      cores := Vector.ofFn (fun c : CoreId => if c ∈ captured s n then { s.core c with quiesced := keptStopped s c } else s.core c) })) ∧
  (∀ (s : State) (x : GCtx) (a : Nat), Accepted s x 0x76 →
    let n := x.cmd.slice
    let d := s.slice n
    let hw (o : Nat) : Nat := ofLe (memRead s.mem (a + o) 4)
    let m := hw 24
    let rec' (j : Nat) : Nat := a + 0x3000 + 0x1000 * j
    let pos (j : Nat) : Nat := ofLe (memRead s.mem (rec' j + 0xA0) 8) % 64
    let set := (List.finRange 64).filter (fun c : CoreId => d.cores.getLsbD c.val)
    n ≠ 0 → d.state = 3 ∨ d.state = 4 → x.cmd.param 0 = BitVec.ofNat 64 a → a % 4096 = 0 → a < 2 ^ 38 → (x.cmd.param 2).toNat < 2 →
    inDram s a (0x3000 + 0x1000 * m) = true → (∀ l, a / 64 ≤ l → l < (a + 0x3000 + 0x1000 * m) / 64 → dramServed s (l * 64) = true) →
    target s a = .dram a → (0 < m → target s (a + 0x3000) = .dram (a + 0x3000)) → s.sound →
    hw 0 = 0x4D53_4C43 → hw 8 = s.build.vlen → hw 20 = set.length → m ≤ set.length → hw 28 = ((List.range 40).filter (fun g => d.groups.getLsbD g)).length →
    hw 32 = ((List.range 64).filter (fun g => d.tmrch.getLsbD g)).length → hw 36 = ((List.range 256).filter (fun b => d.banks.getLsbD b)).length →
    (d.state = 3 → hw 12 = s.node.toNat ∧ hw 16 = n.toNat) →
    (∀ i j, i < j → j < m → pos i ≠ pos j) → (∀ j < m, pos j < set.length) → (∀ c ∈ set, (s.core c).sb = []) →
    ((∀ j < m, ∀ c, set[pos j]? = some c → ofLe (memRead s.mem (rec' j + 0x98) 4) = (s.ctl[(clusterOf c).val]).pkg.toNat) ∨ (x.cmd.param 2).getLsbD 0 = true) →
    ∃ u, exec (.migrateAdopt x.q) s = .next (gReply x 0 [BitVec.ofNat 64
        ((s.sys.count.toNat : Int) - (x.cmd.param 1).toInt - (ofLe (memRead s.mem (a + 40) 8) : Int)).toNat] u) ∧
      u.slices = s.slices.set n.toNat { d with state := 1 } ∧ u.mem = s.mem ∧
      (∀ j < m, ∀ c, set[pos j]? = some c → (u.core c).pc = memWord s (rec' j) 0 ∧ (u.core c).cstat = memWord s (rec' j) 8 &&& 0x1FF ∧
        (u.core c).slice = n ∧ (u.core c).ptroot = memWord s (rec' j) 0x60 &&& 0x1F_FFFF_FFFF_F001 ∧
        (u.core c).pid = memWord s (rec' j) 0x68 &&& 0xFFFF ∧ (u.core c).vecbase = memWord s (rec' j) 0x70 &&& 0xFFFF_FFFF_FFFF_F000 ∧
        (u.core c).savehead = memWord s (rec' j) 0x90 &&& 0xFFFF_FFFF_FFFF_FFC0 ∧ (u.core c).run = .run ∧
        (u.core c).quiesced = false))

/-- QUIESCE_CLUSTER and RESUME_CLUSTER, with what ends a quiesce (R281, R282, R284, R446, R474): the cores asked to stop, the outcomes, and the
release. The result word holds four bits for each cluster. -/
def Obligations.QuiesceResults : Prop :=
  (∀ (s : State) (x : GCtx) (k : ClusterId) (t : List ClusterId), Accepted s x 0x20 →
    let a := s.accepting x
    let p := x.cmd.param 0
    let mask : BitVec 16 := p.setWidth 16
    let force := p.getLsbD 16
    (mask = 0 ∨ (∃ j : ClusterId, mask.getLsbD j.val = true ∧ s.hasCluster j = false) →
      exec (.quiesceCluster x.q) s = .next (gReply x 0x21 [0] a)) ∧
    ((∀ j : ClusterId, mask.getLsbD j.val = true → s.hasCluster j = true) → (List.finRange 16).filter (fun j => mask.getLsbD j.val) = k :: t →
      (force = true ∨ policyForbids s k = false → exec (.quiesceCluster x.q) s = .next { a with
        gdn := { a.gdn with job := s.gdn.job.set x.q.val (some (.quiesce force (k :: t) (List.replicate 16 0))) },
        cores := Vector.ofFn (fun c : CoreId => if clusterOf c = k then { s.core c with quiesced := true } else s.core c) }) ∧
      (force = false → policyForbids s k = true → t = [] → exec (.quiesceCluster x.q) s = .next (gReply x 0x22 [BitVec.ofNat 64 (2 * 16 ^ k.val)]
        { a with gdn := { a.gdn with job := s.gdn.job.set x.q.val none } })))) ∧
  (∀ (s : State) (x : GCtx), Accepted s x 0x21 →
    let a := s.accepting x
    let mask : BitVec 16 := (x.cmd.param 0).setWidth 16
    mask ≠ 0 → (∀ j : ClusterId, mask.getLsbD j.val = true → s.hasCluster j = true) →
    exec (.resumeCluster x.q) s = .next (gReply x 0 [] { a with
      gdn := { a.gdn with quiet := s.gdn.quiet.filter (fun j => !mask.getLsbD j.val) },
      cores := Vector.ofFn (fun c : CoreId => if clusterOf c ∈ s.gdn.quiet ∧ mask.getLsbD (clusterOf c).val = true
        then { s.core c with quiesced := (s.core c).retired || (s.slice (s.core c).slice).state == 3 } else s.core c) })) ∧
  (∀ (s : State) (q : Fin 4) (x : GCtx) (k : ClusterId) (f : Bool), gdnServes s = true → s.hasCluster k = true → executingOf s q = some x →
    let stopped : Vector Core 64 := Vector.ofFn (fun c : CoreId => if clusterOf c = k then { s.core c with micro := none, lastIssue := none } else s.core c)
    let released : Vector Core 64 := Vector.ofFn (fun c : CoreId => if clusterOf c = k then { s.core c with quiesced := keptStopped s c } else s.core c)
    (s.gdn.job[q.val] = some (.quiesce f [k] (List.replicate 16 0)) →
      (clusterStopped s k = true → exec (.quiesceReached k q) s = .next (gReply x 0 [BitVec.ofNat 64 (16 ^ k.val)] { s with
        cores := stopped, gdn := { s.gdn with job := s.gdn.job.set q.val none, quiet := insertNew k s.gdn.quiet } })) ∧
      exec (.quiesceTimeout k q) s = .next (gReply x 0 [BitVec.ofNat 64 (4 * 16 ^ k.val)] { s with
        cores := released, gdn := { s.gdn with job := s.gdn.job.set q.val none } })) ∧
    (∀ pkg persist t out ab, s.gdn.job[q.val] = some (.graft pkg f persist (k :: t) out (some .stopping) ab) → clusterStopped s k = true →
      exec (.quiesceReached k q) s = .next { s with
        cores := stopped, gdn := { s.gdn with job := s.gdn.job.set q.val (some (.graft pkg f persist (k :: t) out (some (.writing false false)) ab)) } }))

/-- Grafts (R275, R278, R281, R283, R285 to R291): staging a package that passes the checks and refusing one that does not, the start of an
application, its deferral in a region that is OFF, verification, and the adoption of the image. The ciphers are uninterpreted. Log entry 79 names
the ciphers. -/
def Obligations.GraftResults : Prop :=
  (∀ (s : State) (x : GCtx) (ok : Bool) (b : Nat) (d : List Byte), Accepted s x 0x30 →
    let a := s.accepting x
    let n := (x.cmd.param 1).toNat % 2 ^ 32
    (x.cmd.param 0).toNat = b → target s b = .dram b → (∀ l ∈ linesOf b n, dramServed s (l * 64) = true) → s.sound → d = memRead s.mem b n →
    n ≤ 81920 + 273 → ∃ u, u.arch = a.arch ∧
    (∀ g, checkPackage s d = .ok g →
      let others := s.gdn.staged.filter (fun h => h.pkg != g.pkg)
      others.length < 8 → (others.map Staged.size).sum + g.size ≤ 128 * 1024 → (x.cmd.param 1).getLsbD 32 = false →
      exec (.graftStage ok x.q) s = .next (gReply x 0
        [g.pkg.setWidth 64, g.base.setWidth 64, BitVec.ofNat 64 g.delta.micro.length, BitVec.ofNat 64 g.delta.disp.length]
        { u with gdn := { u.gdn with staged := others ++ [g] } })) ∧
    (ofLe (d.take 4) ≠ 0x5446_5247 → exec (.graftStage ok x.q) s = .next (gReply x 0x21 [0] u)) ∧
    (s.gdn.keys = none → ∀ e, checkPackage s d = .error e → e ≠ 0x21 → exec (.graftStage ok x.q) s = .next (gReply x 0x30 [] u))) ∧
  (∀ (s : State) (x : GCtx) (k : ClusterId) (t : List ClusterId), Accepted s x 0x31 → s.gdn.job[x.q.val] = none →
    let a := s.accepting x
    let p := x.cmd.param 0
    let pkg : W32 := p.setWidth 32
    let mask : BitVec 16 := fieldOf p 32 16
    let st := s.ctl[k.val]
    let r := s.region (clusterRegion k)
    let j : GJob := .graft pkg (p.getLsbD 48) (p.getLsbD 49) (k :: t) (List.replicate 16 0) (some .stopping) false
    (pkg = 0 ∨ ∃ g, s.gdn.staged.find? (fun h => h.pkg == pkg) = some g ∧ st.pkg = g.base) →
    (∀ j : ClusterId, mask.getLsbD j.val = true → s.hasCluster j = true) → (List.finRange 16).filter (fun j => mask.getLsbD j.val) = k :: t →
    p.getLsbD 48 = true ∨ policyForbids s k = false → fifthImage s k (newImage s k pkg) = false → r.waking = false →
    (r.state.toNat < 2 → exec (.graftApply x.q) s = .next { a with
      gdn := { a.gdn with job := s.gdn.job.set x.q.val (some j) },
      cores := Vector.ofFn (fun c : CoreId => if clusterOf c = k then { s.core c with quiesced := true } else s.core c) }) ∧
    (r.state = 3 → t = [] → p.getLsbD 49 = false → exec (.graftApply x.q) s = .next (gReply x 0 [BitVec.ofNat 64 (8 * 16 ^ k.val)] { a with
      ctl := s.ctl.set k.val { st with img := newImage s k pkg, pkg := pkg, gen := st.gen + 1 },
      gdn := { a.gdn with job := s.gdn.job.set x.q.val none,
                          chain := s.gdn.chain.set k.val (if pkg = 0 then [] else s.gdn.chain[k.val] ++ [pkg]) } }))) ∧
  (∀ (s : State) (q : Fin 4) (x : GCtx) (k : ClusterId) (t : List ClusterId) (pkg : W32) (force persist : Bool) (out : List Nat),
    gdnServes s = true → s.hasCluster k = true → executingOf s q = some x →
    let job (ph : QPhase) : State := { s with gdn := { s.gdn with job := s.gdn.job.set q.val (some (.graft pkg force persist (k :: t) out (some ph) false)) } }
    (s.gdn.job[q.val] = some (.graft pkg force persist (k :: t) out (some (.writing false false)) false) →
      exec (.graftVerify k true q) s = .next (job .resuming) ∧ exec (.graftVerify k false q) s = .next (job (.writing true false))) ∧
    (s.gdn.job[q.val] = some (.graft pkg force persist (k :: t) out (some (.writing true false)) false) →
      exec (.graftVerify k false q) s = .next (job (.writing true true))) ∧
    (s.gdn.job[q.val] = some (.graft pkg force persist (k :: t) out (some .resuming) false) → t = [] → persist = false → out = List.replicate 16 0 →
      let st := s.ctl[k.val]
      exec (.graftResume k q) s = .next (gReply x 0 [BitVec.ofNat 64 (16 ^ k.val)] { s with
        ctl := s.ctl.set k.val { st with img := newImage s k pkg, pkg := pkg, gen := st.gen + 1 },
        cores := Vector.ofFn (fun c : CoreId => if clusterOf c = k
          then { s.core c with micro := none, lastIssue := none, quiesced := keptStopped s c } else s.core c),
        gdn := { s.gdn with job := s.gdn.job.set q.val none,
                            chain := s.gdn.chain.set k.val (if pkg = 0 then [] else s.gdn.chain[k.val] ++ [pkg]) } })))

/-- Retirement and restoration of units (R379, R438, R478, R480 to R483, R507, R536): what each command requires, what it retires or brings back,
the retired-unit list committed before the reply, and the retirement of a pending bank that has become free. Readings of the model: log entries 60
and 78. -/
def Obligations.RetirementResults : Prop :=
  let reply (x : GCtx) (ok : Bool) (s : State) : Host.Outcome State Fault Refusal :=
    .next (gReply x 0 [] (raiseSource 1212 (commitRecord 2 0 (retiredPayload s.gdn.retired) ok s)))
  let listed (s : State) (kind unit : Nat) : Gardener := { s.gdn with retired := s.gdn.retired ++ [(kind, unit)] }
  (∀ (s : State) (x : GCtx) (ok : Bool), Accepted s x 0x40 →
    let a := s.accepting x
    let p := x.cmd.param 0
    let c : CoreId := ⟨p.toNat % 64, by omega⟩
    (s.hasCore c = false → exec (.retireCore ok x.q) s = .next (gReply x 0x21 [0] a)) ∧
    (s.hasCore c = true → (s.core c).retired = true → exec (.retireCore ok x.q) s = .next (gReply x 0x40 [] a)) ∧
    (s.hasCore c = true → (s.core c).retired = false → p.getLsbD 8 = false → (coreFree s c = false ∨ minCoresAllow s (regionOf c) = false) →
      exec (.retireCore ok x.q) s = .next (gReply x 0x22 [] a)) ∧
    (s.hasCore c = true → (s.core c).retired = false → p.getLsbD 8 = true ∨ (coreFree s c = true ∧ minCoresAllow s (regionOf c) = true) →
      exec (.retireCore ok x.q) s = reply x ok (setLeaf 0 1 c.val { a with
        cores := s.cores.set c.val { s.core c with retired := true, quiesced := true },
        slices := s.slices.map (fun d => { d with cores := d.cores &&& ~~~((1 : BitVec 64) <<< c.val) }), gdn := listed a 0 c.val }))) ∧
  (∀ (s : State) (x : GCtx) (ok : Bool), Accepted s x 0x41 →
    let a := s.accepting x
    let p := x.cmd.param 0
    let b : BankId := ⟨p.toNat % 256, by omega⟩
    let k := s.banks[b.val]
    let k' : Bank := {
      k with
      owner := 0xFE, oldOwner := if k.handoverDone = true then k.owner else k.oldOwner,
      handoverDone := k.handoverDone && k.owner == 0xFF, req := 2, pstate := if k.pstate = 2 then 2 else 3 }
    s.hasBank b = true → (1, b.val) ∉ s.gdn.retired →
    (p.getLsbD 8 = false → bankFree s b = false → exec (.retireBank ok x.q) s = .next (gReply x 0x22 [] a)) ∧
    (p.getLsbD 8 = true ∨ bankFree s b = true → exec (.retireBank ok x.q) s = reply x ok (setLeaf 5 3 b.val { a with
      banks := s.banks.set b.val k',
      slices := s.slices.map (fun d => { d with banks := d.banks &&& ~~~((1 : BitVec 256) <<< b.val) }), gdn := listed a 1 b.val }))) ∧
  (∀ (s : State) (x : GCtx) (ok : Bool) (q : PortId), Accepted s x 0x42 →
    let a := s.accepting x
    let p := x.cmd.param 0
    let l := p.toNat / 8 % 8
    let o := s.ports[q.val]
    p.toNat % 8 = q.val → s.hasPort q = true → (2, q.val * 8 + l) ∉ s.gdn.retired →
    (p.getLsbD 8 = false → lanesLeft s q < 3 → exec (.retireLane ok x.q) s = .next (gReply x 0x22 [] a)) ∧
    (p.getLsbD 8 = true ∨ 3 ≤ lanesLeft s q → o.state.toNat < 2 → o.state = 0 ∨ 3 ≤ lanesLeft s q →
      exec (.retireLane ok x.q) s = reply x ok (setLeaf 9 1 (q.val * 8 + l) { a with
        ports := s.ports.set q.val { o with retired := o.retired ||| (1 : Byte) <<< l }, gdn := listed a 2 (q.val * 8 + l) })) ∧
    (3 ≤ lanesLeft s q → 2 ≤ o.state.toNat → ∃ u,
      u = raiseSource (1184 + q.val) { a with ports := s.ports.set q.val { o with
        retired := o.retired ||| (1 : Byte) <<< l, back := o.state, state := 1, width := 3, active := 0, linkGot := false } } ∧
      exec (.retireLane ok x.q) s = reply x ok (setLeaf 9 1 (q.val * 8 + l) { u with gdn := listed u 2 (q.val * 8 + l) }))) ∧
  (∀ (s : State) (x : GCtx) (ok : Bool) (m : McId), Accepted s x 0x43 →
    let a := s.accepting x
    let p := x.cmd.param 0
    let r := p.toNat / 4 % 8
    let k := s.mc[m.val]
    p.toNat % 4 = m.val → s.hasMc m = true → r < 4 → k.present.getLsbD r = true → k.retired.getLsbD r = false →
    (p.getLsbD 8 = false → exec (.retireRank ok x.q) s = .next (gReply x 0x22 [] a)) ∧
    (p.getLsbD 8 = true → rankLines s m r = [] → exec (.retireRank ok x.q) s = reply x ok (setLeaf 6 1 (m.val * 8 + r) { a with
      mc := s.mc.set m.val { k with retired := k.retired ||| (1 : BitVec 4) <<< r }, gdn := listed a 3 (m.val * 8 + r) }))) ∧
  (∀ (s : State) (x : GCtx) (ok : Bool), Accepted s x 0x44 →
    let a := s.accepting x
    let p := x.cmd.param 0
    let kind := p.toNat % 16
    let u := p.toNat / 2 ^ 16 % 2 ^ 16
    let cleared : List Tally := s.gdn.tallies.map (fun t => if t.unit = u ∧ (classKind t.cls = some kind ∨ (kind = 0 ∧ t.cls = 8))
      then { t with lasting := false, pending := false, recent := [] } else t)
    let g : Gardener := { a.gdn with retired := s.gdn.retired.filter (fun e => e != (kind, u)), tallies := cleared }
    (kind = 0 → ∀ c : CoreId, u = c.val → s.hasCore c = true → (s.core c).retired = true → exec (.restoreUnit ok x.q) s = reply x ok
      { a with cores := s.cores.set c.val ((s.core c).started (bootAddr s)), gdn := g,
               slices := s.slices.set 0 { s.slices[0] with cores := (s.slices[0]).cores ||| (1 : BitVec 64) <<< c.val } }) ∧
    (kind = 1 → ∀ b : BankId, u = b.val → (1, b.val) ∈ s.gdn.retired → exec (.restoreUnit ok x.q) s = reply x ok
      { a with banks := s.banks.set b.val { s.banks[b.val] with
                 owner := 0xFF, oldOwner := 0xFF, handoverDone := true, req := 0, pstate := 3, fromOff := true }, gdn := g,
               slices := s.slices.set 0 { s.slices[0] with banks := (s.slices[0]).banks ||| (1 : BitVec 256) <<< b.val } }) ∧
    (kind = 3 → ∀ m : McId, u / 8 = m.val → (s.mc[m.val]).retired.getLsbD (u % 8) = true → exec (.restoreUnit ok x.q) s = reply x ok
      { a with mc := s.mc.set m.val { s.mc[m.val] with retired := (s.mc[m.val]).retired &&& ~~~((1 : BitVec 4) <<< (u % 8)) }, gdn := g }) ∧
    (6 ≤ kind → exec (.restoreUnit ok x.q) s = .next (gReply x 0x21 [0] a))) ∧
  (∀ (s : State) (b : Fin 256), gdnServes s = true → bankFree s b = true → (1, b.val) ∉ s.gdn.retired →
    (∃ t ∈ s.gdn.tallies, t.pending = true ∧ t.unit = b.val ∧ t.cls = 3) →
    let k := s.banks[b.val]
    exec (.pendingRetirement true b) s = .next (raiseSource 1212 (setLeaf 5 3 b.val (commitRetiredFree { s with
      banks := s.banks.set b.val { k with owner := 0xFE, oldOwner := 0xFF, handoverDone := true, req := 2, pstate := if k.pstate == 2 then 2 else 3 },
      slices := s.slices.map (fun d => { d with banks := d.banks &&& ~~~((1 : BitVec 256) <<< b.val) }),
      gdn := { s.gdn with
        retired := s.gdn.retired ++ [(1, b.val)],
        tallies := s.gdn.tallies.map (fun t => if t.unit = b.val ∧ t.cls = 3 then { t with pending := false } else t) } }))))

/-- Calibration, ring oscillators and the firmware image (R491 to R493, R574): the ratios that a count gives, a count out of range, the voltage
asked for after a measurement of the one running region, and the image taken into the other slot. The ciphers are uninterpreted. -/
def Obligations.CalibrationAndUpdateResults : Prop :=
  (∀ (s : State) (x : GCtx) (count : W32) (failed : List McId), Accepted s x 0x81 →
    let a := s.accepting x
    let p := x.cmd.param 0
    let c := count.toNat
    let bad : Word := BitVec.ofNat 64 (((List.finRange 4).map (fun m =>
      if p.getLsbD (4 + m.val) = true ∧ s.hasMc m = true ∧ m ∈ failed then 2 ^ (32 + m.val) else 0)).sum)
    (99900000 ≤ c → c ≤ 100100000 → p.getLsbD 0 = true → p.getLsbD 1 = false → exec (.calibrate count failed x.q) s =
      .next (gReply x 0 [count.setWidth 64 ||| bad] { a with sys := { s.sys with ratio := BitVec.ofNat 64 (c * 2 ^ 17), mfrac := 0 } })) ∧
    (99900000 ≤ c → c ≤ 100100000 → p.getLsbD 0 = false → p.getLsbD 1 = true → exec (.calibrate count failed x.q) s =
      .next (gReply x 0 [count.setWidth 64 ||| bad] { a with chans := Vector.ofFn (fun n : ChanId =>
        if s.hasChan n = true ∧ (s.chan n).src = 0 ∧ (s.chan n).makeup = true
        then { s.chan n with ratio := BitVec.ofNat 64 ((2 * c * 2 ^ 33 + max (s.chan n).div.toNat 2 ^ 16) / (2 * max (s.chan n).div.toNat 2 ^ 16)), mfrac := 0 }
        else s.chan n) })) ∧
    ((c < 99900000 ∨ 100100000 < c) → p.getLsbD 0 = true ∨ p.getLsbD 1 = true → exec (.calibrate count failed x.q) s =
      .next (gReply x 0 [count.setWidth 64 ||| bad] (setLeaf 8 0 0 a))) ∧
    (p.getLsbD 0 = false → p.getLsbD 1 = false → exec (.calibrate count failed x.q) s = .next (gReply x 0 [bad] a))) ∧
  (∀ (s : State) (count : W32), gdnServes s = true →
    (s.gdn.pol.calibS = 0 → exec (.automaticCalibrate count) s = .next s) ∧
    (s.gdn.pol.calibS ≠ 0 → count.toNat < 99900000 ∨ 100100000 < count.toNat → exec (.automaticCalibrate count) s = .next (setLeaf 8 0 0 s)) ∧
    (s.gdn.pol.calibS ≠ 0 → 99900000 ≤ count.toNat → count.toNat ≤ 100100000 → (∀ n, (s.chan n).makeup = false) → exec (.automaticCalibrate count) s =
      .next { s with sys := { s.sys with ratio := BitVec.ofNat 64 (count.toNat * 2 ^ 17), mfrac := 0 } })) ∧
  (∀ (s : State) (counts : List Half) (ok : Bool) (r : RegionId), gdnServes s = true → counts.length = 4 →
    (∀ q : RegionId, s.hasRegion q = true ∧ (s.region q).state = 0 ↔ q = r) →
    let g := s.gdn
    let n := (counts.getD r.val 0).toNat
    let base : BitVec 16 := (g.roBase[r.val]).getD (counts.getD r.val 0)
    let p := g.pol
    let low := n * 1000 < p.roTarget.toNat * base.toNat
    let high := (p.roTarget.toNat + 10) * base.toNat ≤ n * 1000
    let mv := g.avsMv.toNat
    let next := if low ∧ mv < p.avsCeil.toNat then min (mv + p.avsStep.toNat) p.avsCeil.toNat
      else if ¬low ∧ high ∧ p.avsFloor.toNat < mv then max (mv - p.avsStep.toNat) p.avsFloor.toNat else mv
    let u : State := { s with gdn := { g with roLast := g.roLast.set r.val (counts.getD r.val 0), roBase := g.roBase.set r.val (some base) } }
    let w := if low ∧ p.avsCeil.toNat ≤ mv then setLeaf 11 4 r.val u else u
    exec (.ringOscillatorMeasurement counts ok) s =
      .next (if p.avsEn = 1 ∧ ok = true then { w with gdn := { w.gdn with avsMv := BitVec.ofNat 16 next } } else w)) ∧
  (∀ (s : State) (x : GCtx) (ok : Bool) (b : Nat) (d : List Byte), Accepted s x 0xFF →
    let a := s.accepting x
    let n := (x.cmd.param 1).toNat % 2 ^ 32
    let ver : W32 := BitVec.ofNat 32 (ofLe ((d.drop 4).take 4))
    (s.gdn.junior = true → exec (.firmwareUpdate ok x.q) s = .next (gReply x 0x20 [] a)) ∧
    (s.gdn.junior = false → 2 ^ 22 < n → exec (.firmwareUpdate ok x.q) s = .next (gReply x 0x21 [0] a)) ∧
    (s.gdn.junior = false → n ≤ 2 ^ 22 → (x.cmd.param 0).toNat = b → target s b = .dram b → (∀ l ∈ linesOf b n, dramServed s (l * 64) = true) →
      s.sound → d = memRead s.mem b n → updateStatus s d ((x.cmd.param 1).getLsbD 32) = none → ∃ u : State, u.arch = a.arch ∧
      exec (.firmwareUpdate ok x.q) s = .next (gReply x 2 [(ver.setWidth 64) ||| (if s.gdn.fwslot then 0 else 2 ^ 32)]
        (commitRecord 7 0 ([if s.gdn.fwslot then 0 else 1, 0, 0, 0] ++ storeBytes (ver.setWidth 64) 4) ok { u with gdn := { u.gdn with flash :=
          if s.gdn.fwslot then { u.gdn.flash with slotA := d } else { u.gdn.flash with slotB := d } } }))))

/-- POWER_SET, CLOCK_SET and ABORT (R463, R473, R543 to R550): the sleep depth of a region and of the complex, a region powered up, one taken
OFF, refused or given up after 1 ms, a clock change, and what becomes of a command that an ABORT names. -/
def Obligations.PowerCommandResults : Prop :=
  (∀ (s : State) (x : GCtx), Accepted s x 0x10 → s.powerFree x.q →
    let a := s.accepting x
    let code := (x.cmd.param 0).toNat % 16
    let r : RegionId := ⟨(x.cmd.param 0).toNat / 16 % 4, by omega⟩
    let k := s.region r
    let up : State := s.setRegion r { k with state := 0, depth := BitVec.ofNat 2 code, waking := false }
    (7 ≤ code ∨ (code < 3 ∧ s.hasRegion r = false) → exec (.powerSet x.q) s = .next (gReply x 0x21 [0] a)) ∧
    (code < 3 → s.hasRegion r = true → k.state ≠ 3 →
      exec (.powerSet x.q) s = .next (gReply x 0 [] (a.setRegion r { k with depth := BitVec.ofNat 2 code }))) ∧
    (code < 3 → s.hasRegion r = true → k.state = 3 → s.pwr.clkreq.getLsbD r.val = true → s.pwr.clkack.getLsbD r.val = true →
      ∃ u, exec (.powerSet x.q) s = .next (gReply x 0 [] u) ∧ u.pwr = up.pwr ∧
        (∀ b : BankId, s.hasBank b = true → bankRegion b = r → (s.banks[b.val]).owner ≠ 0xFE →
          u.banks[b.val] = { s.banks[b.val] with req := 0, pstate := 0, fromOff := false } ∧ ∀ i < 0x2_0000, memGet u.mem (bankBase b + i) = 0) ∧
        (∀ c : CoreId, s.hasCore c = true → regionOf c = r → (s.core c).retired = false → u.core c = (s.core c).started (bootAddr s)) ∧
        (∀ j : ClusterId, clusterRegion j = r → u.ctl[j.val] = { s.ctl[j.val] with lost := false })) ∧
    (code < 3 → s.hasRegion r = true → k.state = 3 → s.pwr.clkack.getLsbD r.val = false → exec (.powerSet x.q) s = .next { a with
      gdn := { a.gdn with job := s.gdn.job.set x.q.val (some (.powerUp r (BitVec.ofNat 2 code))) },
      pwr := { s.pwr with clkreq := s.pwr.clkreq ||| clkBit r.val } }) ∧
    (4 ≤ code → code ≤ 6 → exec (.powerSetComplex x.q) s =
      .next (gReply x 0 [] { a with pwr := { s.pwr with depth := BitVec.ofNat 2 (code - 4) } }))) ∧
  (∀ (s : State) (x : GCtx), Accepted s x 0x10 → s.powerFree x.q → (x.cmd.param 0).toNat % 16 = 3 → s.gdn.job[x.q.val] = none →
    (∀ y ∈ (s.gdn.q[x.q.val]).slots, y.executing = false) →
    let a := s.accepting x
    let r : RegionId := ⟨(x.cmd.param 0).toNat / 16 % 4, by omega⟩
    let k := s.region r
    let held : Prop := ∃ n : SliceId, n.val ≠ 0 ∧ ((∃ c : CoreId, regionOf c = r ∧ (s.slices[n.val]).cores.getLsbD c.val = true) ∨
      (∃ i : ChanId, chanRegion i = r ∧ (s.slices[n.val]).tmrch.getLsbD i.val = true) ∨
      (∃ b : BankId, bankRegion b = r ∧ (s.slices[n.val]).banks.getLsbD b.val = true))
    let moving : Prop := ∃ i : Fin 16, i.val / 4 = r.val ∧ (s.movers[i.val]).state = 1
    (s.hasRegion r = false → exec (.powerSetOff x.q) s = .next (gReply x 0x21 [0] a)) ∧
    (s.hasRegion r = true → k.state = 3 → exec (.powerSetOff x.q) s = .next (gReply x 0 [] a)) ∧
    (s.hasRegion r = true → k.state ≠ 3 → held → exec (.powerSetOff x.q) s = .next (gReply x 0x22 [] a)) ∧
    (s.hasRegion r = true → k.state ≠ 3 → ¬held → moving → exec (.powerSetOff x.q) s = .next (gReply x 0x23 [] a)) ∧
    (s.hasRegion r = true → k.state ≠ 3 → ¬held → ¬moving → (∃ c : CoreId, s.hasCore c = true ∧ regionOf c = r ∧ (s.core c).halted = true) →
      exec (.powerSetOff x.q) s = .next { a with gdn := { a.gdn with job := s.gdn.job.set x.q.val (some (.off r)) } }) ∧
    (s.hasRegion r = true → k.state ≠ 3 → k.waking = false → ¬held → ¬moving → s.regionAsleep r → s.sound → s.remote = [] →
      ∃ u, exec (.powerSetOff x.q) s = .next (gReply x 0 [] u) ∧ u.mem = s.mem ∧
        u.pwr = { (s.setRegion r { k with state := 3, waking := false }).pwr with clkreq := s.pwr.clkreq &&& ~~~clkBit r.val } ∧
        (∀ c : CoreId, s.hasCore c = true → regionOf c = r →
          u.core c = { ({} : Core) with retired := (s.core c).retired, quiesced := (s.core c).retired }) ∧
        (∀ c : CoreId, regionOf c ≠ r → (u.core c).arch = (s.core c).arch) ∧
        (∀ b : BankId, s.hasBank b = true → bankRegion b = r → (s.banks[b.val]).owner ≠ 0xFE →
          (u.banks[b.val]).owner = 0xFF ∧ (u.banks[b.val]).req = 2 ∧ (u.banks[b.val]).pstate = 2) ∧
        (∀ i : ChanId, chanRegion i = r → u.chan i = {}) ∧ (∀ j : ClusterId, clusterRegion j = r → (u.ctl[j.val]).lost = true))) ∧
  (∀ (s : State) (q : Fin 4) (x : GCtx) (r : RegionId), gdnServes s = true → executingOf s q = some x → s.gdn.job[q.val] = some (.off r) →
    exec (.offEntryTimeout q) s = .next (gReply x 0x23 [] { s with gdn := { s.gdn with job := s.gdn.job.set q.val none } })) ∧
  (∀ (s : State) (x : GCtx), Accepted s x 0x11 → s.powerFree x.q →
    let a := s.accepting x
    let mhz := (x.cmd.param 0).toNat / 2 ^ 32
    let r : RegionId := ⟨(x.cmd.param 0).toNat % 4, by omega⟩
    let k := s.region r
    (mhz < 400 ∨ 2000 < mhz ∨ s.hasRegion r = false → exec (.clockSet x.q) s = .next (gReply x 0x21 [0] a)) ∧
    (400 ≤ mhz → mhz ≤ 2000 → s.hasRegion r = true → 2 ≤ k.state.toNat →
      exec (.clockSet x.q) s = .next (gReply x 0 [] (a.setRegion r { k with mhz := mhz }))) ∧
    (400 ≤ mhz → mhz ≤ 2000 → s.hasRegion r = true → k.state.toNat < 2 →
      ((∀ j : ClusterId, clusterRegion j = r → policyForbids s j = false) → exec (.clockSet x.q) s = .next { a with
        gdn := { a.gdn with job := s.gdn.job.set x.q.val (some (.clock r mhz false)) },
        cores := Vector.ofFn (fun c : CoreId => if regionOf c = r then { s.core c with quiesced := true } else s.core c) }) ∧
      ((∃ j : ClusterId, clusterRegion j = r ∧ policyForbids s j = true) → exec (.clockSet x.q) s = .next (gReply x 0x22 [] a)))) ∧
  (∀ (s : State) (x : GCtx), gdnServes s = true → nextAbort s x.q = some (x.slot, x.cmd) → x.q ≠ 3 → headerOk x.cmd = true →
    paramsOk x.cmd = true →
    let a := s.modQueue x.q (fun k => { k with slots := k.slots.modify x.slot (fun c => { c with st := .executing }) })
    let t : Fin 4 := ⟨(x.cmd.param 0).toNat % 4, by omega⟩
    let n := (x.cmd.param 0).toNat / 2 ^ 16 % 2 ^ 16
    (abortTarget a t n = none → exec (.abort x.q) s = .next (gReply x 0x10 [] a)) ∧
    (∀ j d, abortTarget a t n = some (j, d) → d.st = .posted → exec (.abort x.q) s = .next (gReply x 0 [] (gReplyAt t j 0x11 [] false a))) ∧
    (∀ j d, abortTarget a t n = some (j, d) → d.executing = true → s.gdn.job[t.val] = none → exec (.abort x.q) s = .next (gReply x 0x10 [] a)) ∧
    (∀ j d f k out, abortTarget a t n = some (j, d) → d.executing = true → s.gdn.job[t.val] = some (.quiesce f [k] (List.replicate 16 out)) → out < 16 →
      ∃ u : State, u.gdn.job[t.val] = none ∧ (∀ c : CoreId, clusterOf c = k → (u.core c).quiesced = keptStopped s c) ∧
        exec (.abort x.q) s = .next (gReply x 0 [] u)))

/-- The sleep and the wake of regions and of the complex, and the clock handshakes (R431, R432, R535, R540, R541, R544 to R549): IDLE and NAP
entered from their conditions, a wake from each, what PARKED and DORMANT release, and the acknowledgements. The sleep entry as one command is the
model's reading (log entry 82). -/
def Obligations.PowerStateResults : Prop :=
  (∀ (s : State) (r : RegionId), isActive s = true → s.pwr.start = .running → (s.region r).waking = false → s.regionAsleep r → ¬s.regionCalled r →
    let k := s.region r
    (k.depth = 1 → k.state = 0 → exec (.regionSleepEntry r) s = .next (s.setRegion r { k with state := 1 })) ∧
    (k.depth = 2 → k.state = 0 ∨ k.state = 1 → (∀ q : Fin 4, s.gdn.job[q.val] = none) → s.sound → s.remote = [] →
      ∃ u, exec (.regionSleepEntry r) s = .next u ∧
        u.pwr = { (s.setRegion r { k with state := 2, waking := false }).pwr with clkreq := s.pwr.clkreq &&& ~~~clkBit r.val } ∧ u.mem = s.mem ∧
        u.tmr = (if (s.tmr[r.val]).stopped then s.tmr else s.tmr.set r.val { sleep := 0, stopped := true }) ∧
        ∀ c : CoreId, (s.hasCore c = true → regionOf c = r → (u.core c).l1d = [] ∧ (u.core c).l1i = [] ∧ (u.core c).itlb = [] ∧
            (u.core c).dtlb = [] ∧ (u.core c).l2tlb = []) ∧
          (u.core c).arch = (if s.hasCore c = true ∧ regionOf c = r then { s.core c with vgs := none, vgsOn := false } else s.core c : Core).arch)) ∧
  (∀ (s : State) (r : RegionId), s.regionCalled r → exec (.regionSleepEntry r) s = .next s) ∧
  (∀ (s : State) (r : RegionId) (access : Bool), isActive s = true →
    let k := s.region r
    (access = true ∨ s.regionCalled r →
      (k.state = 0 → exec (.regionWake r access) s = .next s) ∧
      (k.state = 1 → (s.tmr[r.val]).stopped = false → exec (.regionWake r access) s = .next (s.setRegion r { k with state := 0, waking := false })) ∧
      (k.state = 2 → k.waking = false → s.hasRegion r = true → s.pwr.clkreq.getLsbD r.val = false → s.pwr.clkack.getLsbD r.val = false →
        exec (.regionWake r access) s = .next { s with
          pwr := { (s.setRegion r { k with waking := true }).pwr with clkreq := s.pwr.clkreq ||| clkBit r.val } })) ∧
    (access = false → ¬s.regionCalled r → exec (.regionWake r access) s = .next s)) ∧
  (∀ s : State, isActive s = true → s.pwr.start = .running → s.pwr.depth ≠ 0 →
    (∀ r : RegionId, s.hasRegion r = true → 2 ≤ (s.region r).state.toNat ∧ (s.region r).waking = false) →
    (∀ p : PortId, (s.ports[p.val]).state = 0 ∨ (s.ports[p.val]).state = 2) → s.tme.quiesced = true → (∀ i : Fin 16, (s.movers[i.val]).state ≠ 1) →
    (∀ q : Fin 4, ∀ c ∈ (s.gdn.q[q.val]).slots, c.executing = false) → ¬s.complexCalled →
    ∃ u, exec .complexSleepEntry s = .next u ∧ u.pwr.complex = s.pwr.depth ∧ u.mem = s.mem ∧
      (∀ i : Fin 17, u.pwr.clkreq.getLsbD i.val = (s.pwr.clkreq.getLsbD i.val && decide (i.val < 4 ∨ (s.pwr.depth ≠ 2 ∧ (i.val = 5 ∨ i.val = 6))))) ∧
      (∀ p : PortId, (u.ports[p.val]).state = 0) ∧ (∀ m : McId, (u.mc[m.val]).selfref = s.hasMc m) ∧
      u.sys = (if s.pwr.depth = 2 then { s.sys with stopped := true, sleep := 0 } else s.sys) ∧
      ∀ r : RegionId, s.hasRegion r = true → (s.region r).state = 2 → (u.tmr[r.val]).stopped = true) ∧
  (∀ s : State, s.pwr.por = false → s.pwr.sysrst = false → s.pwr.start ≠ .inReset → s.pwr.start ≠ .romOnly → s.pwr.complex ≠ 0 →
    (s.complexCalled → s.pwr.clkack = 0 → ∃ m : BitVec 17, exec .complexWake s = .next { s with pwr := { s.pwr with clkreq := s.pwr.clkreq ||| m } } ∧
      ∀ i : Fin 17, m.getLsbD i.val = decide (i.val = 4 ∨ i.val = 5 ∨ i.val = 6 ∨ (∃ c : McId, i.val = 7 + c.val ∧ s.hasMc c = true) ∨
        ∃ p : PortId, i.val = 11 + p.val ∧ s.hasPort p = true ∧ (s.ports[p.val]).en = true)) ∧
    (¬s.complexCalled → exec .complexWake s = .next s)) ∧
  (∀ (s : State) (i : Fin 17),
    (clkPresent s i.val = false → exec (.clkackRise i) s = .next s ∧ exec (.clkackFall i) s = .next s) ∧
    (clkPresent s i.val = true →
      (s.pwr.clkack.getLsbD i.val = false → s.pwr.clkreq.getLsbD i.val = false →
        exec (.clkackRise i) s = .next { s with pwr := { s.pwr with clkack := s.pwr.clkack ||| clkBit i.val } }) ∧
      (∀ r : RegionId, i.val = r.val → s.pwr.clkack.getLsbD i.val = false → s.pwr.clkreq.getLsbD i.val = true → isActive s = true →
        (s.region r).waking = true → (∀ q : Fin 4, s.gdn.job[q.val] = none) → s.resting →
        ∃ u, exec (.clkackRise i) s = .next u ∧ u.region r = { s.region r with state := 0, waking := false } ∧ (u.tmr[r.val]).stopped = false ∧
          u.pwr.clkack = s.pwr.clkack ||| clkBit i.val ∧ u.mem = s.mem) ∧
      (clkWanted { s with pwr := { s.pwr with clkack := s.pwr.clkack &&& ~~~clkBit i.val } } i.val = false →
        exec (.clkackFall i) s = .next { s with pwr := { s.pwr with clkack := s.pwr.clkack &&& ~~~clkBit i.val } }) ∧
      (∀ r : RegionId, i.val = r.val → inReset s = false → (s.region r).waking = true → exec (.clkackFall i) s = .next { s with
        pwr := { s.pwr with clkack := s.pwr.clkack &&& ~~~clkBit i.val, clkreq := s.pwr.clkreq ||| clkBit i.val } })))

/-- The resets and the start-up sequence (R29, R30, R280, R430, R482, R490, R525, R526, R551 to R556, R565): what each reset clears and keeps,
what each step needs and does, the first core, the others by doorbell, and the keys. Digests and signatures are uninterpreted. -/
def Obligations.ResetAndStartResults : Prop :=
  (∀ s : State, ∃ u, exec .porAssert s = .next u ∧ u.cores = State.reset.cores ∧ u.mem = [] ∧ u.dirty = [] ∧ u.remote = [] ∧ u.dir = [] ∧
    u.banks = State.reset.banks ∧ u.slices = resetSlices s.build ∧ u.chans = State.reset.chans ∧ u.sys = State.reset.sys ∧
    u.ports = State.reset.ports ∧ u.tme = State.reset.tme ∧ u.mc = State.reset.mc ∧ u.gdn.q = State.reset.gdn.q ∧ u.gdn.flash = s.gdn.flash ∧
    u.intc = { State.reset.intc with pin := s.intc.pin } ∧ u.pwr.por = true ∧ u.pwr.start = .inReset ∧ u.pwr.clkreq = 0 ∧ u.build = s.build) ∧
  (∀ s : State, s.pwr.por = false → ∃ u, exec .sysrstAssert s = .next u ∧ u.cores = State.reset.cores ∧ u.dirty = [] ∧ u.remote = [] ∧
    u.banks = State.reset.banks ∧ u.slices = resetSlices s.build ∧ u.chans = State.reset.chans ∧ u.ports = State.reset.ports ∧
    u.tme = State.reset.tme ∧ u.mc = State.reset.mc ∧ u.gdn.q = State.reset.gdn.q ∧ u.gdn.flash = s.gdn.flash ∧ u.node = s.node ∧
    (s.sys.stopped = false → u.sys = { State.reset.sys with count := s.sys.count }) ∧ u.pwr.sysrst = true ∧ u.pwr.start = .inReset ∧
    u.pwr.clkreq = 0 ∧
    (s.dirty = [] → (∀ b : BankId, (s.banks[b.val]).pstate ≠ 2 ∧ (s.banks[b.val]).pstate ≠ 3) → u.mem = s.mem)) ∧
  (∀ (s : State) (strap : BitVec 12), s.pwr.start = .inReset → s.pwr.clkack = 0 →
    (s.pwr.por = true → s.pwr.sysrst = false → exec (.resetRelease true strap) s = .next { s with
      node := strap, members := s.members.set 0 { s.members[0] with node := strap },
      pwr := { s.pwr with por := false, start := .step1, clkreq := s.pwr.clkreq ||| 0x70 } }) ∧
    (s.pwr.por = false → s.pwr.sysrst = true → exec (.resetRelease false strap) s = .next { s with
      pwr := { s.pwr with sysrst := false, start := .step1, clkreq := s.pwr.clkreq ||| 0x70 } }) ∧
    (s.pwr.por = true → s.pwr.sysrst = true → exec (.resetRelease false strap) s = .next { s with pwr := { s.pwr with sysrst := false } })) ∧
  (∀ s : State, s.pwr.start = .step1 → clkOn s 5 = true → ∃ m : BitVec 17, exec .gardenerRomBoot s = .next { s with
      pwr := { s.pwr with start := .step2, clkreq := s.pwr.clkreq ||| m }, gdn := { s.gdn with junior := !s.gdn.flash.fitted } } ∧
    ∀ i : Fin 17, m.getLsbD i.val = true ↔ s.pwr.clkack.getLsbD i.val = false ∧ ∃ p : PortId, i.val = 11 + p.val ∧ s.hasPort p = true ∧ (s.ports[p.val]).en = true) ∧
  (∀ s : State, s.pwr.start = .step1 → clkOn s 5 = false → exec .gardenerRomBoot s = .next s) ∧
  (∀ s : State, s.pwr.start = .step2 → gdnRuns s = true →
    let loaded (b : Bool) (u : State) : State := { u with
      pwr := { s.pwr with start := .step3 }, gdn := { u.gdn with fwver := imageVer (slotOf s b), fwslot := b, fwRuns := true } }
    let up : Prop := ∃ p : PortId, 2 ≤ (s.ports[p.val]).state.toNat
    (s.gdn.junior = true → ¬up → exec .firmwareLoad s = .next s) ∧
    (s.gdn.junior = false ∨ up → s.gdn.badSlot = none →
      (∀ (r : Record) (b : Bool), s.gdn.flash.inForce 7 0 = some r → (r.payload.head? = some 1 ↔ b = true) →
        (imageValid s (slotOf s b) = true → exec .firmwareLoad s = .next (loaded b s)) ∧
        (imageValid s (slotOf s b) = false → imageValid s (slotOf s !b) = true →
          exec .firmwareLoad s = .next (loaded (!b) (setLeaf 11 1 (if b then 0 else 1) s)))) ∧
      (s.gdn.flash.inForce 7 0 = none → ∀ b : Bool, imageValid s (slotOf s b) = true → imageValid s (slotOf s !b) = false →
        exec .firmwareLoad s = .next (loaded b s)) ∧
      (imageValid s s.gdn.flash.slotA = false → imageValid s s.gdn.flash.slotB = false →
        exec .firmwareLoad s = .next (setLeaf 11 2 0 { s with pwr := { s.pwr with start := .romOnly, complex := 1 } }))) ∧
    (s.gdn.flash.fitted = false → ¬up →
      exec .noFlashNoPeer s = .next (setLeaf 11 0 0 { s with pwr := { s.pwr with start := .romOnly, complex := 1 } })) ∧
    (s.gdn.flash.fitted = true ∨ up → exec .noFlashNoPeer s = .next s)) ∧
  (∀ s : State, s.pwr.start = .step3 → gdnRuns s = true →
    ∃ u, exec (.recordRecovery []) s = .next u ∧ u.pwr = { s.pwr with start := .step4 } ∧ u.gdn.flash = s.gdn.flash ∧ u.mem = s.mem ∧
      (s.gdn.flash.inForce 2 0 = none → u.gdn.retired = [] ∧ u.cores = s.cores ∧ u.banks = s.banks) ∧
      (∀ r, s.gdn.flash.inForce 2 0 = some r → (∀ e ∈ retiredList r.payload, e.1 = 0 ∧ e.2 < 64) →
        u.gdn.retired = retiredList r.payload ∧ ∀ c : CoreId, (0, c.val) ∈ retiredList r.payload → (u.core c).retired = true)) ∧
  (∀ s : State, s.pwr.start = .step4 → gdnRuns s = true → s.gdn.flash.inForce 1 0 = none →
    ∃ u, exec .graftStartApplication s = .next u ∧ u.pwr = { s.pwr with start := .step5 } ∧ ∀ k : ClusterId, s.hasCluster k = true →
      u.ctl[k.val] = { img := {}, pkg := 0, gen := 0, remap := (s.ctl[k.val]).remap } ∧ u.gdn.chain[k.val] = []) ∧
  (∀ (s : State) (cfg : DramConfig) (failed : List McId), s.pwr.start = .step5 → gdnRuns s = true → s.resting →
    ((∀ m : McId, s.hasMc m = true → clkOn s (7 + m.val) = true) → ∃ u, exec (.dramTraining cfg failed) s = .next u ∧
      u.pwr = { s.pwr with start := .step6 } ∧ (u.ilv = true ↔ cfg.ilv = true ∧ (s.build.mcChannels = 2 ∨ s.build.mcChannels = 4)) ∧
      ∀ m : McId, s.hasMc m = true → ∃ k, k = u.mc[m.val] ∧ k.dens.toNat = cfg.dens.val ∧ k.x8 = cfg.x8 ∧ k.ranks.toNat = cfg.ranks.val + 1 ∧
        k.speed.toNat = cfg.speed.val ∧ k.present.toNat = 2 ^ (cfg.ranks.val + 1) - 1 ∧
        k.cap.toNat = min 64 ((cfg.ranks.val + 1) * (if cfg.dens.val = 0 then 32 else if cfg.dens.val = 1 then 48 else 64) / (if cfg.x8 then 2 else 1)) ∧
        (m ∈ failed → k.retired.toNat ||| k.present.toNat = k.retired.toNat) ∧ (m ∉ failed → k.retired = (s.mc[m.val]).retired)) ∧
    ((∀ i < 17, s.pwr.clkack.getLsbD i = false ∨ i < 7) → (∃ m : McId, s.hasMc m = true) → ∃ r : BitVec 17,
      exec (.dramTraining cfg failed) s = .next { s with pwr := { s.pwr with clkreq := s.pwr.clkreq ||| r } } ∧
      ∀ i : Fin 17, r.getLsbD i.val = true ↔ ∃ m : McId, i.val = 7 + m.val ∧ s.hasMc m = true)) ∧
  (∀ (s : State) (boot : BitVec 53) (c : CoreId), s.pwr.start = .step6 → gdnRuns s = true →
    s.hasCore c = true → (s.core c).retired = false → (∀ d : CoreId, d.val < c.val → s.hasCore d = true → (s.core d).retired = true) →
    (s.core c).run = .held → s.pwr.boot = none → (∀ r : RegionId, s.hasRegion r = true → clkOn s r.val = true ∧ (s.region r).state = 3) →
    ∃ u, exec (.coreRelease boot) s = .next u ∧ u.pwr.start = .running ∧ u.pwr.boot = some boot ∧
      (∀ r : RegionId, s.hasRegion r = true → (u.region r).state = 0) ∧
      u.cores = s.cores.set c.val ((s.core c).started boot.toNat)) ∧
  (∀ (s : State) (boot : BitVec 53), s.pwr.start ≠ .step6 → exec (.coreRelease boot) s = .next s) ∧
  (∀ (k : Core) (boot : Nat), (k.started boot).pc = BitVec.ofNat 64 boot ∧ (k.started boot).pl = 0 ∧ (k.started boot).ml = 7 ∧
    (k.started boot).run = .run) ∧
  (∀ (s : State) (c : CoreId), s.hasCore c = true → (s.core c).run = .held → (s.core c).retired = false → s.pwr.start = .running →
    coreClocked s c = true →
    (bitAt s.intc.pend (1216 + c.val) = true → exec (.doorbellCoreStart c) s = .next (s.setCore c ((s.core c).started (bootAddr s)))) ∧
    (bitAt s.intc.pend (1216 + c.val) = false → exec (.doorbellCoreStart c) s = .next s)) ∧
  (∀ (s : State) (a b : Bool), gdnServes s = true →
    exec (.overlayPageRead a b) s = .next (if a || b then s else { s with
      pwr := { s.pwr with start := .step1 }, gdn := { s.gdn with fwRuns := false, fwver := 0, badSlot := some s.gdn.fwslot } })) ∧
  (∀ (s : State) (v : BitVec 384) (d : BitVec 256),
    (s.gdn.keys = none → exec (.keyValidRise v d) s = .next { s with gdn := { s.gdn with keys := some (v, d) } }) ∧
    (s.gdn.keys ≠ none → exec (.keyValidRise v d) s = .next s) ∧ exec .keyValidFall s = .next { s with gdn := { s.gdn with keys := none } })

/-- Lanes, training and blocks of a coupling port (R495 to R503, R506, R507, R523, R570): what each event changes, what a good block, a bad one and
one out of sequence do, retransmission and its exhaustion, and how a port sends a message. Readings of the model: log entries 85 and 86. -/
def Obligations.LinkResults : Prop :=
  (∀ (s : State) (p : PortId) (l : Fin 8), s.hasPort p = true → portRuns s p = true →
    let o := s.ports[p.val]
    exec (.laneLock p l) s = .next (s.withPort p { o with locked := o.locked ||| (1 : Byte) <<< l.val }) ∧
    (o.active.getLsbD l.val = false ∨ o.state.toNat < 2 →
      exec (.laneUnlock p l) s = .next (s.withPort p { o with locked := o.locked &&& ~~~((1 : Byte) <<< l.val) })) ∧
    (o.active.getLsbD l.val = true → 2 ≤ o.state.toNat → exec (.laneUnlock p l) s = .next (raiseSource (1184 + p.val) (s.withPort p
      { o with locked := o.locked &&& ~~~((1 : Byte) <<< l.val), back := o.state, state := 1, width := 3, active := 0, linkGot := false }))) ∧
    (o.locked.getLsbD l.val = false →
      exec (.slipRequest p l) s = .next (s.withPort p { o with slips := o.slips.set l.val (o.slips[l.val] + 1) })) ∧
    (o.locked.getLsbD l.val = true → exec (.slipRequest p l) s = .next s)) ∧
  (∀ (s : State) (p : PortId), s.hasPort p = true → portRuns s p = true →
    let o := s.ports[p.val]
    let down : Port := { ({} : Port) with
      en := o.en, maxw := o.maxw, admrej := o.admrej, retired := o.retired, locked := o.locked, resend := o.resend, err := o.err, slips := o.slips,
      naks := o.naks, peer := o.peer, peerVer := o.peerVer, peerValid := o.peerValid }
    (o.state = 0 → exec (.trainingAttempt p) s =
      .next (raiseSource (1184 + p.val) (s.withPort p { o with state := 1, back := 2, linkGot := false, peerValid := false }))) ∧
    (o.state ≠ 0 → exec (.trainingAttempt p) s = .next s) ∧
    (o.state = 1 → o.back = 2 → exec (.retrainTimeout p) s = .next (raiseSource (1184 + p.val) (s.withPort p down))) ∧
    (o.state ≠ 1 → exec (.retrainTimeout p) s = .next s) ∧
    (∀ (lanes : Byte) (w : BitVec 2), o.state = 1 → o.back = 2 →
      (chooseWidth (o.locked &&& ~~~o.retired &&& lanes) o.maxw w = none →
        exec (.trainingEnd p lanes w) s = .next (raiseSource (1184 + p.val) (s.withPort p down))) ∧
      (∀ v a, chooseWidth (o.locked &&& ~~~o.retired &&& lanes) o.maxw w = some (v, a) → o.linkGot = false → v ≠ o.width →
        exec (.trainingEnd p lanes w) s = .next (raiseSource (1184 + p.val) (s.withPort p { o with width := v, active := a }))))) ∧
  (∀ (usable : Byte) (m w v : BitVec 2) (a : Byte), chooseWidth usable m w = some (v, a) → m.toNat ≤ v.toNat ∧ w.toNat ≤ v.toNat ∧
    a &&& usable = a ∧ ((List.range 8).filter (fun i => a.getLsbD i)).length = 8 / 2 ^ v.toNat) ∧
  (∀ (s : State) (p : PortId) (raw : List Byte), s.hasPort p = true → portLinked s p = true → blkGood raw 0 = true →
    (s.ports[p.val]).txq = [] → (∀ i : Fin 5, (s.ports[p.val]).owed[i.val] = 0) →
    let o := s.ports[p.val]
    let acked : List TxBlock := if o.replay.any (fun b => b.seq == blkAck raw) then (o.replay.dropWhile (fun b => b.seq != blkAck raw)).drop 1 else o.replay
    let cred : Vector Nat 5 := Vector.ofFn (fun i : Fin 5 => o.credits[i.val] + if blkClass raw = i.val then blkCount raw else 0)
    let again : Port := { o with
      credits := cred, replay := acked.map (fun b : TxBlock => { b with tries := b.tries + 1 }),
      resend := BitVec.ofNat 16 (min (o.resend.toNat + acked.length) 0xFFFF) }
    (blkType raw = 0 → exec (.idleBlock p raw 0) s = .next (s.withPort p { o with replay := acked, credits := cred })) ∧
    (blkType raw = 1 → blkSeq raw = o.rxSeq → exec (.dataBlock p raw 0) s = .next (s.withPort p { o with
      replay := acked, credits := cred, rxSeq := o.rxSeq + 1, episode := false, rxq := o.rxq ++ msgsOf 15 ((raw.drop 8).take (blkFill raw)) })) ∧
    (blkType raw = 1 → blkSeq raw ≠ o.rxSeq → ∃ o' : Port, exec (.dataBlock p raw 0) s = .next (s.withPort p o') ∧ o'.episode = true ∧
      o'.naks = (if o.episode then o.naks else o.naks + 1) ∧ o'.rxSeq = o.rxSeq ∧ o'.rxq = o.rxq ∧ o'.credits = o.credits) ∧
    (blkType raw = 2 → (∀ b ∈ o.replay, b.tries < 15 ∧ ∀ l : Fin 8, b.bad[l.val] = 0) → exec (.nak p raw 0) s = .next (s.withPort p again)) ∧
    (4 ≤ blkType raw → exec (.badTypeBlock p raw 0) s =
      .next (raiseSource (1190 + p.val) (s.withPort p { o with replay := acked, credits := cred, err := o.err ||| 4 }))) ∧
    (∀ (sizes : List Nat) (node : BitVec 12) (ver : Half), blkType raw = 3 → o.state = 1 → o.back = 2 → o.peerValid = false → o.replay = [] →
      exec (.linkBlock p raw 0 sizes node ver) s = .next (raiseSource (1184 + p.val) (s.withPort p { o with
        credits := Vector.ofFn (fun i : Fin 5 => sizes.getD i.val 0), peer := node, peerVer := ver, peerValid := true, linkGot := true, state := 2 })))) ∧
  (∀ (s : State) (p : PortId) (raw : List Byte) (bad : Byte), s.hasPort p = true → portLinked s p = true → blkGood raw bad = false →
    ∃ o' : Port, exec (.dataBlock p raw bad) s = .next (s.withPort p o') ∧ exec (.idleBlock p raw bad) s = .next (s.withPort p o') ∧
      exec (.nak p raw bad) s = .next (s.withPort p o') ∧ o'.episode = true ∧
      o'.naks = (if (s.ports[p.val]).episode then (s.ports[p.val]).naks else (s.ports[p.val]).naks + 1) ∧
      o'.rxSeq = (s.ports[p.val]).rxSeq ∧ o'.rxq = (s.ports[p.val]).rxq ∧ o'.credits = (s.ports[p.val]).credits) ∧
  (∀ (s : State) (p : PortId), s.hasPort p = true → portRuns s p = true → 2 ≤ (s.ports[p.val]).state.toNat → (s.ports[p.val]).txq = [] →
    (s.ports[p.val]).replay ≠ [] → (∀ b ∈ (s.ports[p.val]).replay, ∀ l : Fin 8, b.bad[l.val] = 0) →
    let o := s.ports[p.val]
    ((∀ b ∈ o.replay, b.tries < 15) → exec (.resendTimeout p) s = .next (s.withPort p { o with
      replay := o.replay.map (fun b : TxBlock => { b with tries := b.tries + 1 }),
      resend := BitVec.ofNat 16 (min (o.resend.toNat + o.replay.length) 0xFFFF) })) ∧
    ((∃ b ∈ o.replay, b.tries = 15) → ∃ u, exec (.resendTimeout p) s = .next u ∧ (u.ports[p.val]).state = 1 ∧
      (u.ports[p.val]).back = o.state ∧ (u.ports[p.val]).err = o.err ||| 1 ∧ ∀ b ∈ (u.ports[p.val]).replay, b.tries = 0)) ∧
  (∀ (s : State) (p : PortId) (m : Msg), (s.ports[p.val]).txq = [] → (s.ports[p.val]).replay.length < 128 → portCarries s.ports[p.val] m.cls = true →
    ∀ i : Fin 5, m.cls = i.val →
    let o := s.ports[p.val]
    (m.units ≤ o.credits[i.val] → queueMsg p m s = s.withPort p { o with
      txSeq := o.txSeq + 1, replay := o.replay ++ [{ seq := o.txSeq, msgs := [m], tries := 1 }], credits := o.credits.set i.val (o.credits[i.val] - m.units) }) ∧
    (o.credits[i.val] < m.units → queueMsg p m s = s.withPort p { o with txq := [m] }))

/-- Changes of the board domain (R32, R355, R508 to R510): ADMIT, DEPART and RETRAIN written to CPL_CTL, the admission refused, refused after 1 ms
and completed, and the departure completed. The layout of the data of the messages is the model's (log entry 31). -/
def Obligations.DomainResults : Prop :=
  (∀ (s : State) (m : Master) (p : PortId) (v : W32), isActive s = true → plOf m = 0 → s.hasPort p = true → s.resting →
    s.pwr.clkreq.getLsbD (11 + p.val) = true → s.pwr.clkack.getLsbD (11 + p.val) = true → (s.ports[p.val]).en = true →
    v.toNat % 8 = 1 + 2 * (s.ports[p.val]).maxw.toNat →
    let o := s.ports[p.val]
    let quiet : Prop := s.tme.quiesced = true ∧ ∀ i : Fin 16, (s.movers[i.val]).state ≠ 1
    (o.maxw ≠ 3 → o.state = 2 → ¬quiet →
      exec (.cplCtlAdmit m p v) s = .next (raiseSource 1197 (s.withPort p { o with admrej := 5, admitSent := false, admitGot := none }))) ∧
    (o.maxw ≠ 3 → o.state = 2 → quiet → o.admitGot = none → exec (.cplCtlAdmit m p v) s = .next (queueMsg p
      { cls := 4, op := 1, src := s.node, dst := o.peer, tag := 0, data := tableBytes 0 (memberTable s) }
      (raiseSource (1184 + p.val) (s.withPort p { o with state := 3, admitSent := true })))) ∧
    (o.maxw ≠ 3 → o.state = 4 → ¬quiet → exec (.cplCtlDepart m p v) s = .next (s.withPort p { o with admrej := 5 })) ∧
    (o.maxw ≠ 3 → o.state = 4 → quiet → ∃ u, exec (.cplCtlDepart m p v) s = .next u ∧ (u.ports[p.val]).state = 5 ∧
      (u.ports[p.val]).leaving = o.leaving ++ membersVia s p ∧ membersVia u p = []) ∧
    (o.maxw ≠ 3 → 2 ≤ o.state.toNat → exec (.cplCtlRetrain m p v) s = .next (raiseSource (1184 + p.val)
      (s.withPort p { o with back := o.state, state := 1, width := 3, active := 0, linkGot := false })))) ∧
  (∀ (s : State) (p : PortId), s.hasPort p = true → (s.ports[p.val]).state = 3 → (s.ports[p.val]).admitSent = true →
    let o := s.ports[p.val]
    (o.admitGot = none → exec (.admitTimeout p) s = .next (raiseSource 1197 (raiseSource (1184 + p.val)
      (s.withPort p { o with state := 2, admrej := 4, admitSent := false })))) ∧
    (∀ t, o.admitGot = some (t, 2) → admitReason s t 2 = 0 → s.resting → t.Pairwise (fun a b => a.1 ≠ b.1) → o.txq = [] →
      ∃ u, exec (.admissionComplete p) s = .next u ∧ u.ports = (s.withPort p { o with state := 4, admitSent := false, admitGot := none }).ports ∧
        u.epoch = s.epoch + 1 ∧ ∀ e ∈ t, memberOf u e.1 = some { node := e.1, valid := true, port := BitVec.ofNat 3 p.val, hops := e.2 + 1 })) ∧
  (∀ (s : State) (t : List (BitVec 12 × BitVec 4)) (major : Byte),
    (admitReason s t major = 1 ↔ 16 < ((List.finRange 16).filter (fun i => (s.members[i.val]).valid)).length +
      (t.filter (fun e => (memberOf s e.1).isNone)).length) ∧
    (admitReason s t major = 0 → (∀ e ∈ t, memberOf s e.1 = none) ∧ major = 2)) ∧
  (∀ (s : State) (p : PortId), s.hasPort p = true → (s.ports[p.val]).state = 5 → departureOver s p = true → s.resting →
    ∃ u, exec (.departureComplete p) s = .next u ∧ u.ports = (s.withPort p { s.ports[p.val] with state := 2, leaving := [] }).ports ∧
      bitAt u.intc.pend 1198 = true ∧ ∀ d ∈ u.dir, d.holders ≠ [] ∧ ∀ n ∈ (s.ports[p.val]).leaving, n ∉ d.holders)

/-- The messages of the coupling ports (R24, R344, R345, R353, R355, R461, R503 to R505, R508, R510): the home's answers to reads, writes, atomics
and upgrades, snoops at a holder, responses to requests of this complex, mover messages and management messages. Conventions of MASK and of the
management data are the model's (log entries 30, 31). -/
def Obligations.CouplingMessageResults : Prop :=
  (∀ (s : State) (p : PortId) (m : Msg) (a : Nat), Handles s p m → localTarget s m.addr.toNat = .dram a → s.sound → s.smgr.plogEn = false → m.cls = 0 →
    let line := a / 64
    let grant (x : Bool) : State := { s with dir := [{ line := line, holders := [m.src], excl := x }] }
    (m.op = 0 → ∃ u : State, u.arch = (grant false).arch ∧ exec (.rdShared p) s = .next ((u.answering p m 0 0 (memRead s.mem (line * 64) 64)).freed p m)) ∧
    (m.op = 1 → ∃ u : State, u.arch = (grant true).arch ∧ exec (.rdExcl p) s = .next ((u.answering p m 0 0 (memRead s.mem (line * 64) 64)).freed p m)) ∧
    (m.op = 2 → m.mask = 0 → m.addr.toNat % 64 = 0 → ∃ u : State, u.arch = s.arch ∧
      exec (.rdUncached p) s = .next ((u.answering p m 0 0 (memRead s.mem (line * 64) 64)).freed p m)) ∧
    (m.op = 3 → m.data.length = 64 → m.status ≠ 3 → ∃ u : State, u.arch = ({ s with mem := memWrite s.mem (line * 64) m.data }).arch ∧
      exec (.wrLine p) s = .next ((u.answering p m 1 0 []).freed p m)) ∧
    (m.op = 3 → m.status = 3 → ∃ u : State, u.arch = ({ s with pattern := [line] }).arch ∧
      exec (.wrLine p) s = .next ((u.answering p m 1 0 []).freed p m)) ∧
    (m.op = 4 → m.addr.toNat % 16 = 0 →
      let d : List (Option Byte) := (List.range 16).map (fun i => if m.mask.getLsbD i then some (m.data.getD i 0) else none)
      ∃ u : State, u.arch = ({ s with mem := memWriteMask s.mem a d }).arch ∧ exec (.wrPart p) s = .next ((u.answering p m 1 0 []).freed p m)) ∧
    (m.op = 5 → m.addr.toNat % 16 = 0 → m.mask = 0xFF →
      let old := memRead s.mem a 8
      let x : Word := BitVec.ofNat 64 (ofLe (m.data.take 8))
      let y : Word := BitVec.ofNat 64 (ofLe ((m.data.drop 8).take 8))
      let w : Word := BitVec.ofNat 64 (ofLe old)
      let new : Word := if (m.data.getD 16 0).toNat = 1 then (if w = x then y else w) else if (m.data.getD 16 0).toNat = 3 then x else w + x
      (m.data.getD 16 0).toNat = 1 ∨ (m.data.getD 16 0).toNat = 3 ∨ (m.data.getD 16 0).toNat = 5 → Memory.wf s.mem = true →
      ∃ u : State, u.arch = ({ s with mem := memWrite s.mem a (storeBytes new 8) }).arch ∧
        exec (.atomic p) s = .next ((u.answering p m 0 0 (old ++ List.replicate 8 0)).freed p m)) ∧
    (m.op = 6 → ∃ u : State, u.arch = s.arch ∧ exec (.upgrade p) s = .next ((u.answering p m 1 0 []).freed p m))) ∧
  (∀ (s : State) (p : PortId) (m : Msg) (a : Nat), Handles s p m → m.cls = 0 → m.op = 6 → localTarget s m.addr.toNat = .dram a →
    s.dir = [{ line := a / 64, holders := [m.src], excl := false }] → ∃ u : State,
    u.arch = ({ s with dir := [{ line := a / 64, holders := [m.src], excl := true }] }).arch ∧
    exec (.upgrade p) s = .next ((u.answering p m 1 0 []).freed p m)) ∧
  (∀ (s : State) (p : PortId) (m : Msg), Handles s p m → m.cls = 0 → localTarget s m.addr.toNat = .bad →
    (m.op = 0 → exec (.rdShared p) s = .next ((s.answering p m 2 1 []).freed p m)) ∧
    (m.op = 1 → exec (.rdExcl p) s = .next ((s.answering p m 2 1 []).freed p m)) ∧
    (m.op = 3 → exec (.wrLine p) s = .next ((s.answering p m 2 1 []).freed p m)) ∧
    (m.op = 5 → m.addr.toNat % 16 = 0 → m.mask = 0xFF → exec (.atomic p) s = .next ((s.answering p m 2 1 []).freed p m)) ∧
    (m.op = 6 → exec (.upgrade p) s = .next ((s.answering p m 2 1 []).freed p m))) ∧
  (∀ (s : State) (p : PortId) (m : Msg), Handles s p m → m.cls = 2 → s.poisoned = [] →
    let line := (2 ^ 52 + m.src.toNat * 2 ^ 40 + m.addr.toNat) / 64
    (s.remote = [] →
      (m.op = 0 → exec (.snpInv p) s = .next ((s.answering p m 1 0 []).freed p m)) ∧
      (m.op = 1 → exec (.snpShare p) s = .next ((s.answering p m 1 0 []).freed p m)) ∧
      (m.op = 2 → exec (.snpRecall p) s = .next ((s.answering p m 1 0 []).freed p m))) ∧
    (∀ r : RemLine, s.remote = [r] → r.line = line → r.modified = true →
      (m.op = 0 → ∃ u : State, u.arch = ({ s with remote := [] }).arch ∧ exec (.snpInv p) s = .next ((u.answering p m 0 0 r.data).freed p m)) ∧
      (m.op = 1 → exec (.snpShare p) s =
        .next ((({ s with remote := [{ r with excl := false, modified := false }] } : State).answering p m 0 0 r.data).freed p m)) ∧
      (m.op = 2 → ∃ u : State, u.arch = ({ s with remote := [] }).arch ∧ exec (.snpRecall p) s = .next ((u.answering p m 0 0 r.data).freed p m)))) ∧
  (∀ (s : State) (p : PortId) (m : Msg) (w : Pending), Handles s p m → s.cplWait = [w] → w.tag = m.tag → w.node = m.src → s.smgr.plogEn = false →
    let a := w.addr % 2 ^ 40
    (m.cls = 1 → m.op = 0 → w.op = 64 → m.status = 0 → m.data.length = 64 → s.dir = [{ line := a / 64, holders := [m.src], excl := true }] →
      exec (.data p) s = .next ({ s with cplWait := [], dir := [], mem := memWrite s.mem a m.data }.freed p m)) ∧
    (m.cls = 1 → m.op = 1 → w.op = 65 → m.status = 0 → m.data = [] → s.dir = [{ line := a / 64, holders := [m.src], excl := true }] →
      exec (.comp p) s = .next ({ s with cplWait := [], dir := [{ line := a / 64, holders := [m.src], excl := false }] }.freed p m)) ∧
    (m.cls = 1 → m.op = 2 → w.op = 2 → w.who = .debug → exec (.err p) s =
      .next ({ s with cplWait := [], tap := { s.tap with bad := true, parked := false } }.freed p m)) ∧
    (∀ n : Fin 16, m.cls = 3 → m.op = 2 → w.op = 97 → w.who = .mover n → (s.movers[n.val]).state = 1 → (s.movers[n.val]).waiting = true →
      (s.movers[n.val]).writing = false → (s.movers[n.val]).data = none → exec (.mvData p) s = .next ({ s with
        cplWait := [], movers := s.movers.set n.val { s.movers[n.val] with waiting := false, data := some m.data } }.freed p m))) ∧
  (∀ (s : State) (p : PortId) (m : Msg), Handles s p m → m.cls = 1 → (∀ w ∈ s.cplWait, w.tag ≠ m.tag ∨ w.node ≠ m.src) →
    (m.op = 0 → exec (.data p) s = .next (s.freed p m)) ∧ (m.op = 1 → exec (.comp p) s = .next (s.freed p m)) ∧
    (m.op = 2 → exec (.err p) s = .next (s.freed p m))) ∧
  (∀ (s : State) (p q : PortId) (m : Msg) (a n : Nat), Handles s p m → m.cls = 3 → a = m.addr.toNat → localTarget s a = .dram a → s.sound →
    s.smgr.plogEn = false → 0 < n → a % 64 + n ≤ 64 →
    (m.op = 0 → m.mask = 0 → m.data.length = n → ∃ u : State, u.arch = ({ s with mem := memWrite s.mem a m.data }).arch ∧
      exec (.mvWr p) s = .next ((u.answering p m 1 0 []).freed p m)) ∧
    (m.op = 1 → m.mask.toNat = n → portTo s m.src = some q → ∃ u : State, u.arch = s.arch ∧ exec (.mvRd p) s = .next ((queueMsg q
      { cls := 3, op := 2, src := s.node, dst := m.src, tag := m.tag, addr := m.addr, data := memRead s.mem a n } u).freed p m))) ∧
  (∀ (s : State) (p : PortId) (m : Msg), Handles s p m → m.cls = 4 →
    let o := s.ports[p.val]
    let l := (tableOf m.data).take (blockField m.data 1 1 % 64)
    (m.op = 0 → s.gdn.junior = false → (s.gdn.q[3]).slots.length < 16 → m.data.length = 16 + 8 * blockField m.data 3 1 → blockField m.data 3 1 ≤ 30 →
      exec (.gdnPkt p) s = .next ((s.modQueue 3 (fun q => { q with
        slots := q.slots ++ [{ pkt := m.data, port := p.val }], lastseq := BitVec.ofNat 16 (blockField m.data 4 2) })).freed p m)) ∧
    (m.op = 0 → s.gdn.junior = false → 16 ≤ (s.gdn.q[3]).slots.length → exec (.gdnPkt p) s =
      .next ((s.modQueue 3 (fun q => { q with rej := true })).freed p m)) ∧
    (m.op = 1 → o.state = 2 ∨ o.state = 3 → o.admitSent = false → exec (.admitMsg p) s =
      .next ((s.withPort p { o with admitGot := some (l, BitVec.ofNat 8 (blockField m.data 0 1)) }).freed p m)) ∧
    (∀ n h, m.op = 2 → o.state = 4 → blockField m.data 1 1 / 64 = 1 → l = [(n, h)] → memberOf s n = none → (∃ i : Fin 16, (s.members[i.val]).valid = false) →
      ∃ u, exec (.domainUpdate p) s = .next u ∧ memberOf u n = some { node := n, valid := true, port := BitVec.ofNat 3 p.val, hops := h + 1 } ∧
        u.epoch = s.epoch + 1) ∧
    (m.op = 3 → o.state = 4 → ∃ u, exec (.depart p) s = .next u ∧ (u.ports[p.val]).state = 5 ∧ membersVia u p = [] ∧
      (u.ports[p.val]).leaving = o.leaving ++ membersVia s p)) ∧
  (∀ (s : State) (p : PortId) (m : Msg), Handles s p m → (s.ports[p.val]).rxq.find? (fun x => !x.listed) = some m →
    exec (.unlistedOp p) s = .next (if m.cls = 1 then s.freed p m else (s.answering p m 2 5 []).freed p m)) ∧
  (∀ (s : State) (p : PortId) (m : Msg), s.hasPort p = true → portRuns s p = true → fabRuns s = true → portCarries s.ports[p.val] 0 = true →
    (s.ports[p.val]).rxq.find? (fun x => x.cls == 0) = some m → m.dst ≠ s.node → m.op = 0 →
    (∀ q, portTo s m.dst = some q → exec (.rdShared p) s = .next ((queueMsg q m s).freed p m)) ∧
    (portTo s m.dst = none → ∃ u, exec (.rdShared p) s = .next u ∧ (u.ports[p.val]).err = (s.ports[p.val]).err ||| 2 ∧ u.mem = s.mem))

/-- The train message engine (R513 to R523, R572): discarded frames, acknowledgement, the sequenced kinds at their target, refusals and duplicates,
retransmission and failure, the open store frame, the transmit ring, quiescing, and the timebase exchange. Readings of the model: log entries 90 to
93. -/
def Obligations.TmeResults : Prop :=
  (∀ (s : State) (raw : List Byte) (e : Bool), fabRuns s = true → s.tme.en = true →
    let dropped : State := raiseSource 1205 { s with tme := { s.tme with rxdrop := BitVec.ofNat 16 (min (s.tme.rxdrop.toNat + 1) 0xFFFF) } }
    (frameGood s raw e = false → ∀ i ∈ [Instr.ack raw e, .write raw e, .writeRec raw e, .msg raw e, .readReq raw e, .readData raw e, .tbxReq raw e,
      .tbxRsp raw e, .reservedKindFrame raw e], exec i s = .next dropped) ∧
    (frameGood s raw e = true → 8 ≤ (frameOf (raw.drop 14)).kind → exec (.reservedKindFrame raw e) s = .next dropped)) ∧
  (∀ (s : State) (raw : List Byte) (e : Bool), s.tme.en = false → ∀ i ∈ [Instr.ack raw e, .write raw e, .msg raw e, .reservedKindFrame raw e],
    exec i s = .next s) ∧
  (∀ (s : State) (raw : List Byte) (f : TmeFrame), Taken s raw f → f.kind = 0 → exec (.ack raw false) s = .next s) ∧
  (∀ (s : State) (raw : List Byte) (f y : TmeFrame), fabRuns s = true → s.tme.en = true → frameGood s raw false = true →
    f = frameOf (raw.drop 14) → s.coresRest → f.kind = 0 → (tmePeer s f.src).out = [y] → (tmePeer s f.src).wait = [] → y.seq = f.ack → y.kind = 2 →
    y.desc = none → s.tme.quiesce = false → s.tme.txhead = s.tme.txtail →
    (f.status = 0 → exec (.ack raw false) s = .next (setTmePeer { tmePeer s f.src with out := [], tries := 0 } s)) ∧
    (f.status ≠ 0 → ∃ u, exec (.ack raw false) s = .next u ∧ (tmePeer u f.src).out = [] ∧ u.tme.failNode = y.dst ∧ u.tme.failKind = 2 ∧
      bitAt u.intc.pend 1202 = true)) ∧
  (∀ (s : State) (raw : List Byte) (f : TmeFrame) (a : Nat), InTurn s raw f → target s f.addr.toNat = .dram a → s.sound → s.smgr.plogEn = false →
    (f.kind = 1 → 0 < f.data.length → a % 64 + f.data.length ≤ 64 →
      (winCovers s f.addr.toNat f.data.length true = true → ∃ u : State, u.arch = ({ s with mem := memWrite s.mem a f.data }).arch ∧
        exec (.write raw false) s = .next (u.acked f 0)) ∧
      (winCovers s f.addr.toNat f.data.length true = false → exec (.write raw false) s = .next ((raiseSource 1206 s).acked f 2))) ∧
    (f.kind = 4 → 0 < f.len → a % 64 + f.len ≤ 64 →
      (winCovers s f.addr.toNat f.len false = true → ∃ u : State, u.arch = s.arch ∧ exec (.readReq raw false) s = .next ((tmeQueue
        { kind := 5, src := s.node, dst := f.src, len := f.len, tag := f.tag, data := memRead s.mem a f.len } u).acked f 0)) ∧
      (winCovers s f.addr.toNat f.len false = false → exec (.readReq raw false) s = .next ((raiseSource 1206 s).acked f 2)))) ∧
  (∀ (s : State) (raw : List Byte) (f : TmeFrame) (a : Nat), InTurn s raw f → f.kind = 2 → f.data.length = 24 → target s (recordOf f.data).1 = .dram a →
    s.sound → s.smgr.plogEn = false → winCovers s (recordOf f.data).1 16 true = true → ∃ u : State,
    u.arch = ({ s with mem := memWriteMask s.mem a (recordOf f.data).2 }).arch ∧ exec (.writeRec raw false) s = .next (u.acked f 0)) ∧
  (∀ (s : State) (raw : List Byte) (f : TmeFrame), InTurn s raw f → f.kind = 3 → f.len ≠ 0 → s.sound → s.smgr.plogEn = false →
    let next : BitVec 12 := BitVec.ofNat 12 ((s.tme.rxhead.toNat + 1) % ringSlots s.tme.rxsize)
    let a := localAddr s (s.tme.rxbase.toNat + 2048 * s.tme.rxhead.toNat)
    let d := (raw.drop 14).take 0x20 ++ f.data
    (next ≠ s.tme.rxtail → (∀ l ∈ linesOf a d.length, dramServed s (l * 64) = true) → ∃ u : State,
      u.arch = ({ s with mem := memWrite s.mem a d, tme := { s.tme with rxhead := next } }).arch ∧
      exec (.msg raw false) s = .next ((raiseSource 1200 u).acked f 0)) ∧
    (next = s.tme.rxtail → exec (.msg raw false) s = .next s)) ∧
  (∀ (s : State) (raw : List Byte) (f : TmeFrame) (n : Fin 16), InTurn s raw f → f.kind = 5 → f.tag.toNat = n.val → (s.movers[n.val]).state = 1 →
    (s.movers[n.val]).waiting = true → (s.movers[n.val]).writing = false → (s.movers[n.val]).data = none →
    let k : Mover := { s.movers[n.val] with waiting := false, data := some f.data }
    exec (.readData raw false) s = .next ({ s with movers := s.movers.set n.val k }.acked f 0)) ∧
  (∀ (s : State) (raw : List Byte) (f : TmeFrame) (v : BitVec 16), Taken s raw f → f.reset = false → (tmePeer s f.src).rx = some v →
    (v - f.seq).toNat < 0x8000 → ∀ (k : Nat) (i : Instr), (k, i) ∈ [(1, Instr.write raw false), (2, .writeRec raw false), (3, .msg raw false),
      (4, .readReq raw false), (5, .readData raw false)] → f.kind = k →
    exec i s = .next { s with tme := { s.tme with lastTx := some { kind := 0, src := s.node, dst := f.src, ack := v } } }) ∧
  (∀ (s : State) (raw : List Byte) (f : TmeFrame), Taken s raw f →
    let rsp : TmeFrame :=
      { kind := 7, src := s.node, dst := f.src, len := 16, tag := f.tag, data := storeBytes s.sys.count 8 ++ storeBytes s.sys.count 8 }
    (f.kind = 6 → exec (.tbxReq raw false) s = .next { s with tme := { s.tme with lastTx := some rsp } }) ∧
    (f.kind = 7 → s.tme.tbxStat = 1 → f.src = s.tme.tbxNode →
      let t1 : Int := s.tme.tbxT1.toNat
      let t2 : Int := ofLe (f.data.take 8)
      let t3 : Int := ofLe ((f.data.drop 8).take 8)
      let t4 : Int := s.sys.count.toNat
      exec (.tbxRsp raw false) s = .next (raiseSource 1203 { s with tme := { s.tme with
        tbxStat := 2, tbxDelta := wrap (((t2 - t1) + (t3 - t4)) / 2), tbxRtt := BitVec.ofNat 32 (min ((t4 - t1) - (t3 - t2)).toNat 0xFFFF_FFFF) } })) ∧
    (f.kind = 7 → s.tme.tbxStat ≠ 1 → s.tme.tbxStat.getLsbD 0 = false → exec (.tbxRsp raw false) s = .next s)) ∧
  (∀ (s : State) (n : BitVec 12) (y : TmeFrame) (t : List TmeFrame), fabRuns s = true → s.tme.en = true → (tmePeer s n).out = y :: t →
    let p := tmePeer s n
    (p.tries < max s.tme.retry.toNat 1 → exec (.tmeRetransmit n) s = .next (setTmePeer { p with tries := p.tries + 1 } s)) ∧
    (max s.tme.retry.toNat 1 ≤ p.tries → t = [] → p.wait = [] → y.kind = 2 → y.desc = none → s.tme.acc = none → s.tme.quiesce = false →
      s.tme.txhead = s.tme.txtail → s.coresRest → exec (.tmeRetransmit n) s = .next (raiseSource 1202 (setTmePeer
        { p with out := [], wait := [], tries := 0, failed := true, reset := true } { s with tme := { s.tme with
          failNode := y.dst, failKind := 2, failAddr := y.addr, failDrops := BitVec.ofNat 16 (min (s.tme.failDrops.toNat + y.len / 24) 0xFFFF) } })))) ∧
  (∀ s : State, fabRuns s = true → s.tme.en = true →
    (s.tme.acc = none → exec .frameClose s = .next s) ∧
    (∀ n rs, s.tme.acc = some (n, rs) → exec .frameClose s = .next (tmeQueue
      { kind := 2, src := s.node, dst := n, len := (rs.flatMap recordBytes).length, data := rs.flatMap recordBytes } { s with tme := { s.tme with acc := none } }))) ∧
  (∀ (s : State) (f : TmeFrame), (tmePeer s f.dst).wait = [] →
    ((tmePeer s f.dst).out.length < 64 → tmeQueue f s = setTmePeer { tmePeer s f.dst with
      out := (tmePeer s f.dst).out ++ [{ f with seq := (tmePeer s f.dst).txSeq, reset := (tmePeer s f.dst).reset, ack := (tmePeer s f.dst).rx.getD 0xFFFF }],
      txSeq := (tmePeer s f.dst).txSeq + 1, reset := false } s) ∧
    (64 ≤ (tmePeer s f.dst).out.length → tmeQueue f s = setTmePeer { tmePeer s f.dst with wait := [f] } s)) ∧
  (∀ (s : State) (m : Master) (v : W32), isActive s = true → plOf m = 0 → s.coresRest →
    (s.tme.en = false → exec (.tmeTxtailWrite m v) s =
      .next { s with tme := { s.tme with txtail := v.setWidth 12 } }) ∧
    (s.tme.en = true → s.tme.quiesce = false → s.tme.acc = none → s.sound → 1 ≤ s.tme.txsize.toNat → s.tme.txhead.toNat < ringSlots s.tme.txsize →
      v.toNat = (s.tme.txhead.toNat + 1) % ringSlots s.tme.txsize →
      let i := s.tme.txhead
      let w := memWord s (txSlot s i) 0
      let n : BitVec 12 := w.setWidth 12
      let src := localAddr s ((memWord s (txSlot s i) 8).toNat % 2 ^ 53)
      let len := w.toNat / 2 ^ 32 % 2 ^ 16
      dramRange s (txSlot s i) 32 = true → dramRange s src len = true → len ≤ 1024 → reachOf s n = .tme → (tmePeer s n).failed = false →
      ∃ u : State, u.arch = s.arch ∧ exec (.tmeTxtailWrite m v) s = .next (tmeQueue
        { kind := 3, src := s.node, dst := n, len := len, data := memRead s.mem src len, desc := some i }
        { u with tme := { s.tme with txhead := v.setWidth 12, txtail := v.setWidth 12 } })) ∧
    (s.tme.en = true → s.tme.quiesced = false → s.tme.acc = none → (∀ p ∈ s.tme.peers, p.out = [] ∧ p.wait = []) →
      exec (.quiesce m true) s = .next (raiseSource 1204 { s with tme := { s.tme with quiesce := true, quiesced := true } })) ∧
    (s.tme.en = true → s.tme.txhead = s.tme.txtail →
      exec (.quiesce m false) s = .next { s with tme := { s.tme with quiesce := false, quiesced := false } }) ∧
    (∀ n : BitVec 12,
      ((tmePeer s n).failed = true → exec (.tmeFailClr m n) s = .next (setTmePeer { tmePeer s n with failed := false, reset := true, tries := 0 } s)) ∧
      ((tmePeer s n).failed = false → exec (.tmeFailClr m n) s = .next s) ∧
      (s.tme.tbxStat.getLsbD 0 = false → exec (.tbxStart m n) s = .next { s with tme := { s.tme with
        tbxNode := n, tbxStat := 1, tbxT1 := s.sys.count,
        lastTx := some { kind := 6, src := s.node, dst := n, len := 16, data := storeBytes s.sys.count 8 ++ List.replicate 8 0 } } }))) ∧
  (∀ s : State, (s.tme.tbxStat = 1 → exec .tbxTimeout s = .next (raiseSource 1203 { s with tme := { s.tme with tbxStat := 4 } })) ∧
    (s.tme.tbxStat.getLsbD 0 = false → exec .tbxTimeout s = .next s))

/-- The DRAM controller's events, the host ports, the TAP, the debug port and the counters (R9, R313, R346, R430 to R432, R527 to R530, R560 to
R564, R575, R576): what a scrub finds, requests on wz_ss_* served, refused and held, an answer on wz_sm_*, a debug access, and a tick. The line that
a scrub reads is the row's operand (log entry 62). -/
def Obligations.DramPortAndTickResults : Prop :=
  (∀ (s : State) (line : Nat), fabRuns s = true → s.scrub ≠ 0 → dramServed s (line * 64) = true → line ∉ s.pattern → line ∉ s.dramUe →
    ∀ (m : McId) (r : Nat), rankAt s (line * 64) = (m, r) →
    let k := s.mc[m.val]
    k.training = false → k.selfref = false →
    exec (.patrolScrub line none) s = .next s ∧
    exec (.patrolScrub line (some false)) s = .next (tallyEvent 4 (m.val * 8 + r) 0 false { s with mc := s.mc.set m.val { k with
      cecnt := if k.cecnt = 0xFFFF then k.cecnt else k.cecnt + 1, errAddr := BitVec.ofNat 40 (line * 64), errUe := false } }) ∧
    exec (.patrolScrub line (some true)) s = .next (tallyEvent 4 (m.val * 8 + r) 0 true { s with
      dramUe := line :: s.dramUe, mc := s.mc.set m.val { k with
        uecnt := if k.uecnt = 0xFF then k.uecnt else k.uecnt + 1, errAddr := BitVec.ofNat 40 (line * 64), errUe := true } })) ∧
  (∀ (s : State) (line : Nat) (f : Option Bool), s.scrub = 0 ∨ dramServed s (line * 64) = false ∨ line ∈ s.pattern → exec (.patrolScrub line f) s = .next s) ∧
  (∀ (s : State) (m : McId) (req : Bool), s.hasMc m = true →
    let k := s.mc[m.val]
    exec (.dfiPhymstr m req) s = .next { s with mc := s.mc.set m.val { k with phymstr := req } } ∧
    exec (.dfiUpdate m) s = .next { s with mc := s.mc.set m.val { k with updates := k.updates + 1 } } ∧
    exec (.dfiError m) s = .next (tallyEvent 4 (m.val * 8) 0 false
      { s with mc := s.mc.set m.val { k with cecnt := if k.cecnt = 0xFFFF then k.cecnt else k.cecnt + 1 } })) ∧
  (∀ (s : State) (id : BitVec 10) (addr : BitVec 53) (len : BitVec 2) (strb : Half) (a : Nat), isActive s = true → s.pwr.start = .running → s.resting →
    let b := addr.toNat / 16 * 16
    (target s b = .dram a → s.sound → ∃ u : State, u.arch = s.arch ∧ exec (.ssRead id addr len strb false) s = .next { u with ssRsp :=
      [{ id := id, status := 0, data := (List.range (len.toNat + 1)).map (fun i => BitVec.ofNat 128 (ofLe (memRead s.mem (a + 16 * i) 16))) }] }) ∧
    (target s b = .bad → exec (.ssRead id addr len strb false) s =
      .next { s with ssRsp := [{ id := id, status := 1, data := List.replicate (len.toNat + 1) 0 }] }) ∧
    (exec (.ssRead id addr len strb true) s = .next { s with ssRsp := [{ id := id, status := 1, data := List.replicate (len.toNat + 1) 0 }] }) ∧
    (∀ off, target s b = .regs off → len ≠ 0 → exec (.ssRead id addr len strb false) s =
      .next { s with ssRsp := [{ id := id, status := 1, data := List.replicate (len.toNat + 1) 0 }] }) ∧
    (∀ off (i : Fin 4), target s b = .regs off → len = 0 → strb = (0xF : Half) <<< (4 * i.val) → regWaits s (off + 4 * i.val) = false →
      let r : SsReq := { id := id, write := false, op := 0, addr := b, len := 0, strb := [strb], data := [] }
      exec (.ssRead id addr len strb false) s = .next { s with ssRsp := [{ id := id, status := 0, data :=
        [(regRead .host (off + 4 * i.val) { s with ssRsp := [], ssHeld := [r] }).setWidth 128 <<< (32 * i.val)] }] }) ∧
    (∀ (d : BitVec 128), target s b = .dram a → s.sound → s.smgr.plogEn = false →
      let w : List (Option Byte) := (List.range 16).map (fun i => if strb.getLsbD i then some (BitVec.ofNat 8 (d.toNat / 256 ^ i)) else none)
      ∃ u : State, u.arch = ({ s with mem := memWriteMask s.mem a w }).arch ∧
        exec (.ssWrite id addr [(d, strb)] false) s = .next { u with ssRsp := [{ id := id, status := 0, data := [] }] }) ∧
    (∀ (d : BitVec 128), target s b = .bad → exec (.ssWrite id addr [(d, strb)] false) s =
      .next { s with ssRsp := [{ id := id, status := 1, data := [] }] })) ∧
  (∀ (s : State) (id : BitVec 10) (addr : BitVec 53) (len : BitVec 2) (strb : Half) (a : Nat), isActive s = true → s.pwr.start = .step4 → s.resting →
    target s (addr.toNat / 16 * 16) = .dram a → exec (.ssRead id addr len strb false) s = .next { s with
      ssRsp := [], ssHeld := [{ id := id, write := false, op := 0, addr := addr.toNat / 16 * 16, len := len.toNat,
                                strb := List.replicate (len.toNat + 1) (if len = 0 then strb else 0xFFFF), data := [] }] }) ∧
  (∀ (s : State) (id : BitVec 10) (ok : Bool) (d : List (BitVec 128)), s.coresRest →
    ((∀ r ∈ s.smOut, r.id ≠ id) → exec (.smResponse id ok d) s = .next s) ∧
    (∀ r, s.smOut = [r] → r.id = id → r.who = .debug →
      exec (.smResponse id false d) s = .next { s with smOut := [], tap := { s.tap with bad := true, parked := false } } ∧
      (r.write = false → r.len = 4 → exec (.smResponse id true d) s = .next { s with smOut := [], tap := { s.tap with
        data := BitVec.ofNat 32 (ofLe (((d.flatMap (fun b => leBytes 16 b.toNat)).drop (r.addr % 16)).take 4)), parked := false } }))) ∧
  (∀ (s : State) (addr : BitVec 53) (w : Bool) (v : W32),
    let t : Tap := { s.tap with ir := 0b01000, addr := addr, write := w, data := v, status := 2, busy := true, parked := false, bad := false }
    (s.tap.busy = true → exec (.dbgacc addr w v) s = .next { s with tap := { s.tap with status := 3 } }) ∧
    (s.tap.busy = false → addr.toNat % 4 ≠ 0 → exec (.dbgacc addr w v) s = .next { s with tap := { t with bad := true } }) ∧
    (s.tap.busy = false → addr.toNat % 4 = 0 → isActive s = false → exec (.dbgacc addr w v) s = .next { s with tap := { t with parked := true } }) ∧
    (s.tap.busy = false → addr.toNat % 4 = 0 → isActive s = true →
      (target s addr.toNat = .bad → exec (.dbgacc addr w v) s = .next { s with tap := { t with bad := true } }) ∧
      (∀ a, target s addr.toNat = .dram a → s.sound → s.smgr.plogEn = false →
        (w = false → ∃ u : State, u.arch = s.arch ∧
          exec (.dbgacc addr w v) s = .next { u with tap := { t with data := BitVec.ofNat 32 (ofLe (memRead s.mem a 4)) } }) ∧
        (w = true → ∃ u : State, u.arch = ({ s with mem := memWrite s.mem a (leBytes 4 v.toNat) }).arch ∧
          exec (.dbgacc addr w v) s = .next { u with tap := t })))) ∧
  (∀ s : State,
    (s.tap.busy = false → exec .dbgaccCompletion s = .next s) ∧
    (s.tap.busy = true → s.tap.parked = false →
      exec .dbgaccCompletion s = .next { s with tap := { s.tap with busy := false, status := if s.tap.bad then 1 else 0 } }) ∧
    (∀ pins, exec (.idcode pins) s = .next { s with tap := { s.tap with ir := 1, idcode := pins ||| 1 } }) ∧
    (∀ ir : BitVec 5, ir ≠ 1 → ir ≠ 8 → exec (.bypass ir) s = .next { s with tap := { s.tap with ir := ir, bypass := 0 } }) ∧
    exec .tapReset s = .next { s with tap := { s.tap with ir := 1 } } ∧
    exec .systemCounterTick s = .next (if s.pwr.por || s.sys.stopped then s else { s with sys := { s.sys with count := s.sys.count + 1 } }) ∧
    (s.pwr.por = true → exec .sleepCounterTick s = .next s) ∧
    (s.pwr.por = false → ∃ u : State, exec .sleepCounterTick s = .next u ∧
      u = { s with tmr := u.tmr, sys := if s.sys.stopped then { s.sys with sleep := s.sys.sleep + 1 } else s.sys } ∧
      ∀ r : RegionId, u.tmr[r.val] = if (s.tmr[r.val]).stopped then { s.tmr[r.val] with sleep := (s.tmr[r.val]).sleep + 1 } else s.tmr[r.val]))

/-- The machine right after reset (R57, R388, R437, R444, R551, R555): every core with empty stacks, zero tills and masks, PL 0, ML 7 and no event under
way; slice 0 holding every unit of the build; no clock requested. Values that the spec does not give are the model's (log entries 1, 21 to 27). -/
def Obligations.ResetState : Prop :=
  Memory.wf State.reset.mem = true ∧ State.reset.mem = [] ∧ State.reset.pending = [] ∧
  (∀ c : CoreId, ∃ k, k = State.reset.core c ∧ k.ops = [] ∧ k.stk.spilled = 0 ∧ k.rets = [] ∧ k.rstk.spilled = 0 ∧ k.fstk = [] ∧
    (∀ i : Fin 4, k.tills[i.val] = 0) ∧ (∀ i : Fin 7, k.masks[i.val] = 0) ∧ k.pl = 0 ∧ k.ml = 7 ∧ k.met = false ∧ k.ven = false ∧ k.fen = false ∧
    k.sstep = false ∧ k.win = none ∧ k.sb = [] ∧ k.l1d = [] ∧ k.l1i = [] ∧ k.itlb = [] ∧ k.dtlb = [] ∧ k.l2tlb = [] ∧ k.slice = 0 ∧ k.ptroot = 0 ∧
    k.vecbase = 0 ∧ k.run = .held) ∧
  ((State.reset.slices[0]).state = 1 ∧ (∀ c : CoreId, State.reset.hasCore c = true → (State.reset.slices[0]).cores.getLsbD c.val = true) ∧
    (∀ b : BankId, (State.reset.slices[0]).banks.getLsbD b.val = State.reset.hasBank b) ∧
    ∀ n : SliceId, n.val ≠ 0 → (State.reset.slices[n.val]) = {}) ∧
  (∀ b : BankId, (State.reset.banks[b.val]).owner = 0xFF ∧ (State.reset.banks[b.val]).pstate = 0) ∧
  State.reset.pwr.por = true ∧ State.reset.pwr.clkreq = 0 ∧ State.reset.sys.count = 0 ∧ (∀ r : RegionId, (State.reset.region r).state = 3) ∧
  (∀ p : PortId, (State.reset.ports[p.val]).state = 0) ∧ State.reset.tme.en = false

/-- Every step keeps memory in its canonical form: addresses strictly rising and no cell that holds what an unlisted address reads as, so that
equal memories are equal data. -/
def Obligations.StepKeepsMemoryForm : Prop :=
  ∀ s t : State, Memory.wf s.mem = true → step s = .next t → Memory.wf t.mem = true

/-- No command touches the queue of those that wait or the build: the queue's rest runs as it was sent, and the units of R6 stay. -/
def Obligations.CommandsKeepQueueAndBuild : Prop :=
  ∀ (i : Instr) (s t : State), exec i s = .next t → t.pending = s.pending ∧ t.build = s.build

/-- Every command answers a next state, in every state, but where the build lacks a core, cluster, region, bank, channel or port (R6): there
a command may meet the one fault of the model. Nothing is refused. -/
def Obligations.EveryCommandCompletes : Prop :=
  ∀ (i : Instr) (s : State),
  (∃ t, exec i s = .next t) ∨ (exec i s = .fault .absentUnit ∧ ((∃ c : CoreId, s.hasCore c = false) ∨ (∃ k : ClusterId, s.hasCluster k = false) ∨
    (∃ r : RegionId, s.hasRegion r = false) ∨ (∃ b : BankId, s.hasBank b = false) ∨ (∃ n : ChanId, s.hasChan n = false) ∨
    (∃ m : McId, s.hasMc m = false) ∨ (∃ p : PortId, s.hasPort p = false)))
end

