-- ==== Sys2Proof/Laws/Checks.lean ====
section
/-!
SUPPORT. Laws/Checks.lean: the conditions of Safety.lean as Bools that the kernel evaluates, each with the lemma that it implies the
condition: the tests show with them that the hypotheses of the statements can be met.
-/
namespace Sys2Proof.Machine

/-- No source of the interrupt controller is pending, and none is level-sensitive. -/
def quietIntc (s : State) : Bool := s.intc.pend == Vector.replicate 40 0 && s.intc.sense == Vector.replicate 40 0

theorem pendingWord_quiet {s : State} (h : quietIntc s = true) (g : Nat) : pendingWord s g = 0 := by
  simp only [quietIntc, Bool.and_eq_true, beq_iff_eq] at h
  unfold pendingWord
  split
  · next h1 _ _ _ h5 =>
    rw [h.2] at h1
    rw [h.1] at h5
    simp only [Vector.getElem?_replicate] at h1 h5
    split at h1
    · rw [if_pos ‹_›] at h5
      cases h1; cases h5
      simp
    · cases h1
  · rfl

theorem viewWord_quiet {s : State} (h : quietIntc s = true) (c : CoreId) (g : Nat) : viewWord s c g = 0 := by
  unfold viewWord
  rw [pendingWord_quiet h]
  simp

theorem intrDue_quiet {s : State} (h : quietIntc s = true) (c : CoreId) (ml : Nat) : intrDue s c ml = none := by
  unfold intrDue
  simp [viewWord_quiet h]

theorem viewAny_quiet {s : State} (h : quietIntc s = true) (c : CoreId) : viewAny s c = false := by
  unfold viewAny
  simp [viewWord_quiet h]

/-- No event comes before the next instruction of core `c`. -/
def noEvent (s : State) (c : CoreId) : Bool :=
  let k := s.core c
  quietIntc s && !k.stepDue && (k.trapw || (k.mcheck.isNone && k.late.isEmpty))

theorem eventDue_of {s : State} {c : CoreId} (h : noEvent s c = true) : eventDue s c = false := by
  simp only [noEvent, Bool.and_eq_true, Bool.not_eq_true', Bool.or_eq_true] at h
  obtain ⟨⟨h1, h2⟩, h3⟩ := h
  unfold eventDue
  simp only [intrDue_quiet h1, h2, Option.isSome_none, Bool.and_false, Bool.false_or, Bool.or_false]
  rcases h3 with h3 | ⟨h3, h4⟩
  · simp [h3]
  · simp only [Option.isNone_iff_eq_none] at h3
    simp [h3, h4]

/-- Nothing comes before the instruction of core `c`. -/
def canGo (s : State) (c : CoreId) : Bool :=
  let k := s.core c
  coreLive s c && k.run == .run && k.mcheck.isNone && !k.quiesced && !k.haltReq && noEvent s c

theorem canRun_of {s : State} {c : CoreId} (h : canGo s c = true) (cls : FoldClass) (len : Nat) : canRun s c cls len = true := by
  simp only [canGo, Bool.and_eq_true, Bool.not_eq_true', Option.isNone_iff_eq_none, beq_iff_eq] at h
  obtain ⟨⟨⟨⟨⟨h1, h2⟩, h3⟩, h4⟩, h5⟩, h6⟩ := h
  unfold canRun
  simp [eventDue_of h6, h1, h2, h3, h4, h5]

/-- `Poised`. -/
def poisedB (c : CoreId) (bytes : List Byte) (s : State) : Bool :=
  s.hasCore c && canGo s c && fetches c bytes s && ibpHits (s.core c) (s.core c).pc == 0 && (s.core c).pend.isEmpty && !(s.core c).met &&
  !(s.core c).stepOne && s.remote.isEmpty && s.spmCe.isEmpty

theorem poised_of {c : CoreId} {bytes : List Byte} {cls : FoldClass} {s : State} (h : poisedB c bytes s = true) : Poised c bytes cls s := by
  simp only [poisedB, Bool.and_eq_true, Bool.not_eq_true', List.isEmpty_iff, beq_iff_eq] at h
  obtain ⟨⟨⟨⟨⟨⟨⟨⟨h1, h2⟩, h3⟩, h4⟩, h5⟩, h6⟩, h7⟩, h8⟩, h9⟩ := h
  exact { present := h1, can := canRun_of h2 _ _, fetch := h3, noBreak := h4, settled := h5, unmetered := h6, noStep := h7, noRemote := h8,
          noCe := h9 }

/-- `Ready`. -/
def readyB (c : CoreId) (op : CoreOp) (s : State) : Bool := poisedB c (opBytes op) s && opRoute s c op (opBytes op) == .native

theorem ready_of {c : CoreId} {op : CoreOp} {s : State} (h : readyB c op s = true) : Ready c op s := by
  simp only [readyB, Bool.and_eq_true, beq_iff_eq] at h
  exact { toPoised := poised_of h.1, native := h.2 }

theorem holds_of {k : Core} {l rest : List Word} (h : (k.ops == l ++ rest && decide (l.length ≤ k.frame)) = true) : k.holds l rest := by
  simp only [Bool.and_eq_true, beq_iff_eq, decide_eq_true_eq] at h
  exact h

theorem retTop_of {k : Core} {e : RetEntry} {rest : List RetEntry} (h : (k.rets == e :: rest && decide (k.rfloor < k.rdepth)) = true) :
    k.retTop e rest := by
  simp only [Bool.and_eq_true, beq_iff_eq, decide_eq_true_eq] at h
  exact h

/-- `Core.room`. -/
def roomB (k : Core) (n : Nat) : Bool := match k.win with
  | some w => decide (w.ops.length + n ≤ 16)
  | none => decide (k.stk.cut = 0) && decide (k.stk.ring.length + n ≤ 112)

theorem room_of {k : Core} {n : Nat} (h : roomB k n = true) : k.room n := by
  unfold roomB at h
  right
  split at h <;> simp_all

/-- `Core.retRoom`. -/
def retRoomB (k : Core) : Bool := match k.win with
  | some w => decide (w.rets.length < 4)
  | none => decide (k.rstk.cut = 0) && decide (k.rstk.ring.length < 24)

theorem retRoom_of {k : Core} (h : retRoomB k = true) : k.retRoom := by
  unfold retRoomB at h
  unfold Core.retRoom
  split at h <;> simp_all

/-- `State.sound`. -/
def soundB (s : State) : Bool :=
  s.dir.isEmpty && s.dramUe.isEmpty && s.pattern.isEmpty && s.lostLines.isEmpty && s.poisoned.isEmpty && s.spmUe.isEmpty && s.spmCe.isEmpty

theorem sound_of {s : State} (h : soundB s = true) : s.sound := by
  simp only [soundB, Bool.and_eq_true, List.isEmpty_iff] at h
  obtain ⟨⟨⟨⟨⟨⟨h1, h2⟩, h3⟩, h4⟩, h5⟩, h6⟩, h7⟩ := h
  exact ⟨h1, h2, h3, h4, h5, h6, h7⟩

/-- `DataAt` in local DRAM. -/
def dataAtB (c : CoreId) (s : State) (va : Word) (n a : Nat) : Bool :=
  !bitOf (s.core c).ptroot 0 && !(s.slice (s.core c).slice).s2en && decide (va.toNat < 2 ^ 53) && decide (0 < n) &&
  decide (va.toNat % 4096 + n ≤ 4096) && fieldOf (s.core c).dbgctl 4 2 == 0 && target s va.toNat == .dram a && soundB s

theorem dataAt_of {c : CoreId} {s : State} {va : Word} {n a : Nat} (h : dataAtB c s va n a = true) : DataAt c s va n a := by
  simp only [dataAtB, Bool.and_eq_true, Bool.not_eq_true', decide_eq_true_eq, beq_iff_eq] at h
  obtain ⟨⟨⟨⟨⟨⟨⟨h1, h2⟩, h3⟩, h4⟩, h5⟩, h6⟩, h7⟩, h8⟩ := h
  exact { stage1 := h1, stage2 := h2, small := h3, some := h4, page := h5, noBreak := h6, place := .inl h7, clean := sound_of h8 }

/-- `DataAt` in an own bank. -/
def dataAtSpmB (c : CoreId) (s : State) (va : Word) (n a : Nat) (b : BankId) : Bool :=
  !bitOf (s.core c).ptroot 0 && !(s.slice (s.core c).slice).s2en && decide (va.toNat < 2 ^ 53) && decide (0 < n) &&
  decide (va.toNat % 4096 + n ≤ 4096) && fieldOf (s.core c).dbgctl 4 2 == 0 && target s va.toNat == .spm b a &&
  (s.banks[b.val]).owner == BitVec.ofNat 8 c.val && (s.banks[b.val]).req == 0 && (s.banks[b.val]).pstate == 0 &&
  (s.banks[b.val]).handoverDone && soundB s

theorem dataAtSpm_of {c : CoreId} {s : State} {va : Word} {n a : Nat} {b : BankId} (h : dataAtSpmB c s va n a b = true) : DataAt c s va n a := by
  simp only [dataAtSpmB, Bool.and_eq_true, Bool.not_eq_true', decide_eq_true_eq, beq_iff_eq] at h
  obtain ⟨⟨⟨⟨⟨⟨⟨⟨⟨⟨⟨h1, h2⟩, h3⟩, h4⟩, h5⟩, h6⟩, h7⟩, h8⟩, h9⟩, h10⟩, h11⟩, h12⟩ := h
  exact { stage1 := h1, stage2 := h2, small := h3, some := h4, page := h5, noBreak := h6, place := .inr ⟨b, h7, h8, h9, h10, h11⟩,
          clean := sound_of h12 }

theorem reads_of_mem {k : Core} {m : List Host.Cell} {a n : Nat} {d : List Byte} (h : k.sb = []) (hd : d = memRead m a n) :
    k.reads m a n d := by
  left
  exact ⟨by rw [h]; simp, hd⟩

theorem sbRoom_of {k : Core} {n : Nat} (h : (decide (k.sb.length + n ≤ 8) && k.sb.all (fun e => e.bytes.length == 16)) = true) : k.sbRoom n := by
  simp only [Bool.and_eq_true, decide_eq_true_eq, List.all_eq_true, beq_iff_eq] at h
  exact h

/-- `State.noLog`. -/
def noLogB (s : State) : Bool := s.slices.toList.all (fun d => d.state != 2) && !s.smgr.plogEn

theorem noLog_of {s : State} (h : noLogB s = true) : s.noLog := by
  simp only [noLogB, Bool.and_eq_true, Bool.not_eq_true', List.all_eq_true, bne_iff_ne, ne_eq] at h
  refine ⟨fun n => h.1 _ ?_, h.2⟩
  unfold State.slice
  simp

/-- `Enters`, for an entry that is not a host entry. -/
def entersB (c : CoreId) (s : State) (e : EventIn) (a : Nat) : Bool :=
  (s.core c).trapWin.isNone && (s.core c).dfWin.isNone && (e.level != 7 || (s.core c).ml != 7) && decide (0 < e.level) && decide (e.level ≤ 7) &&
  (s.core c).rep.isNone && (s.core c).pend.isEmpty && (s.core c).sb.isEmpty && !(s.core c).stepOne && !hostEntry (s.core c) e &&
  !(s.slice (s.core c).slice).s2en && target s (s.core c).tsbp.toNat == .dram a && soundB s && s.remote.isEmpty && noLogB s && Memory.wf s.mem

theorem enters_of {c : CoreId} {s : State} {e : EventIn} {a ha : Nat} (h : entersB c s e a = true) : Enters c s e a ha := by
  simp only [entersB, Bool.and_eq_true, Bool.or_eq_true, Bool.not_eq_true', decide_eq_true_eq, beq_iff_eq, bne_iff_ne, ne_eq, List.isEmpty_iff,
    Option.isNone_iff_eq_none] at h
  obtain ⟨⟨⟨⟨⟨⟨⟨⟨⟨⟨⟨⟨⟨⟨⟨h1, h2⟩, h3⟩, h4⟩, h5⟩, h6⟩, h7⟩, h8⟩, h9⟩, h10⟩, h11⟩, h12⟩, h13⟩, h14⟩, h15⟩, h16⟩ := h
  exact { windows := ⟨h1, h2⟩, unmasked := fun e => h3.resolve_left (fun g => g e), level := ⟨h4, h5⟩, noRepeat := h6, settled := h7,
          drained := h8, noStep := h9, heb := by simp [h10], stage2 := fun _ => h11, hostPlace := by simp [h10], place := fun _ => h12,
          clean := sound_of h13, noRemote := h14, noLog := noLog_of h15, wf := h16 }

/-- `Enters`, for a host entry. -/
def entersHostB (c : CoreId) (s : State) (e : EventIn) (a ha : Nat) : Bool :=
  (s.core c).trapWin.isNone && (s.core c).dfWin.isNone && (e.level != 7 || (s.core c).ml != 7) && decide (0 < e.level) && decide (e.level ≤ 7) &&
  (s.core c).rep.isNone && (s.core c).pend.isEmpty && (s.core c).sb.isEmpty && !(s.core c).stepOne && hostEntry (s.core c) e &&
  target s (s.slice (s.core c).slice).heb.toNat == .dram ha && ha % 64 == 0 && !s.smgr.pidtabEn && !(s.slice 0).s2en &&
  target s (withHeb s (s.core c) ha).tsbp.toNat == .dram a && soundB s && s.remote.isEmpty && noLogB s && Memory.wf s.mem

theorem entersHost_of {c : CoreId} {s : State} {e : EventIn} {a ha : Nat} (h : entersHostB c s e a ha = true) : Enters c s e a ha := by
  simp only [entersHostB, Bool.and_eq_true, Bool.or_eq_true, Bool.not_eq_true', decide_eq_true_eq, beq_iff_eq, bne_iff_ne, ne_eq,
    List.isEmpty_iff, Option.isNone_iff_eq_none] at h
  obtain ⟨⟨⟨⟨⟨⟨⟨⟨⟨⟨⟨⟨⟨⟨⟨⟨⟨⟨h1, h2⟩, h3⟩, h4⟩, h5⟩, h6⟩, h7⟩, h8⟩, h9⟩, h10⟩, h11⟩, h12⟩, h17⟩, h18⟩, h19⟩, h13⟩, h14⟩, h15⟩, h16⟩ := h
  exact { windows := ⟨h1, h2⟩, unmasked := fun e => h3.resolve_left (fun g => g e), level := ⟨h4, h5⟩, noRepeat := h6, settled := h7,
          drained := h8, noStep := h9, heb := fun _ => ⟨h11, h12, h17, h18⟩, stage2 := by simp [h10], hostPlace := fun _ => h19,
          place := by simp [h10], clean := sound_of h13, noRemote := h14, noLog := noLog_of h15, wf := h16 }

/-- `VecReady`. -/
def vecReadyB (c : CoreId) (s : State) (o : VecOp) (t : Byte) (m : Option Byte) (ty : EType) (n : Nat) : Bool :=
  readyB c (.vec o t m) s && (s.core c).ven && (s.core c).fen && decide ((m.getD 0).toNat < 16) && etypeOf (t.toNat % 16) == some ty &&
  n == s.build.vlen / ty.w && (s.build.vlen == 256 || s.build.vlen == 512)

theorem vecReady_of {c : CoreId} {s : State} {o : VecOp} {t : Byte} {m : Option Byte} {ty : EType} {n : Nat}
    (h : vecReadyB c s o t m ty n = true) (ha : typeAccepted o ty) : VecReady c s o t m ty n := by
  simp only [vecReadyB, Bool.and_eq_true, Bool.or_eq_true, decide_eq_true_eq, beq_iff_eq] at h
  obtain ⟨⟨⟨⟨⟨⟨h1, h2⟩, h3⟩, h4⟩, h5⟩, h6⟩, h7⟩ := h
  exact { ready := ready_of h1, enabled := ⟨h2, h3⟩, maskByte := fun b e => by subst e; exact h4, type := h5, accepted := ha, count := h6, vlen := h7 }

/-- `Turn`. -/
def turnB (s : State) (x : GCtx) (op : Nat) : Bool :=
  gdnServes s && turnOf s == some x.q && nextPosted s x.q == some (x.slot, x.cmd) && x.cmd.opcode == op

theorem turn_of {s : State} {x : GCtx} {op : Nat} (h : turnB s x op = true) : Turn s x op := by
  simp only [turnB, Bool.and_eq_true, beq_iff_eq] at h
  obtain ⟨⟨⟨h1, h2⟩, h3⟩, h4⟩ := h
  exact { serves := h1, turn := h2, front := h3, opcode := h4 }

/-- `Accepted`. -/
def acceptedB (s : State) (x : GCtx) (op : Nat) : Bool :=
  turnB s x op && (match opQueues op with | some l => l.contains x.q.val | none => true) && headerOk x.cmd && paramsOk x.cmd &&
  !classBusy (s.accepting x) x

theorem accepted_of {s : State} {x : GCtx} {op : Nat} (h : acceptedB s x op = true) : Accepted s x op := by
  simp only [acceptedB, Bool.and_eq_true, Bool.not_eq_true'] at h
  obtain ⟨⟨⟨⟨h1, h2⟩, h3⟩, h4⟩, h5⟩ := h
  refine { toTurn := turn_of h1, queue := ?_, header := h3, params := h4, free := h5 }
  intro l hl
  rw [hl] at h2
  simpa using h2

/-- `State.coresRest`. -/
def coresRestB (s : State) : Bool := s.cores.toList.all (fun k => k.ext.isEmpty)

theorem coresRest_of {s : State} (h : coresRestB s = true) : s.coresRest := by
  simp only [coresRestB, List.all_eq_true, List.isEmpty_iff] at h
  intro c
  left
  exact h _ (by unfold State.core; simp)

theorem resting_of {s : State} (h : (coresRestB s && s.ssHeld.isEmpty && (!s.tap.busy || !s.tap.parked)) = true) : s.resting := by
  simp only [Bool.and_eq_true, Bool.or_eq_true, Bool.not_eq_true', List.isEmpty_iff] at h
  exact { cores := coresRest_of h.1.1, held := h.1.2, debug := h.2 }

/-- `State.regionAsleep`. -/
def regionAsleepB (s : State) (r : RegionId) : Bool := allCores.all (fun c => !(s.hasCore c && regionOf c == r) ||
  (!(s.core c).halted && (s.core c).sb.isEmpty &&
    ((s.core c).retired || (!(s.core c).quiesced && ((s.core c).run == .wait || (s.core c).run == .tripled)))))

theorem regionAsleep_of {s : State} {r : RegionId} (h : regionAsleepB s r = true) : s.regionAsleep r := by
  simp only [regionAsleepB, List.all_eq_true] at h
  intro c h1 h2
  have := h c (by simp [allCores])
  simp only [h1, h2, Bool.or_eq_true, Bool.not_eq_true', Bool.and_eq_true, List.isEmpty_iff, beq_iff_eq, beq_self_eq_true, Bool.and_self,
    Bool.true_eq_false, false_or] at this
  exact ⟨this.1.1, this.1.2, this.2⟩

/-- No wake condition of region `r`. -/
def regionQuietB (s : State) (r : RegionId) : Bool := quietIntc s && (s.region r).depth != 0 &&
  allCores.all (fun c => !(s.hasCore c && regionOf c == r) || (s.core c).retired ||
    ((s.core c).mcheck.isNone && (s.core c).late.isEmpty && !(s.core c).haltReq && (s.core c).run != .run))

theorem regionQuiet_of {s : State} {r : RegionId} (h : regionQuietB s r = true) : ¬s.regionCalled r := by
  simp only [regionQuietB, Bool.and_eq_true, List.all_eq_true, bne_iff_ne, ne_eq] at h
  obtain ⟨⟨h1, h2⟩, h3⟩ := h
  rintro (h | ⟨c, ha, hb, hc, hd⟩)
  · exact h2 h
  · have := h3 c (by simp [allCores])
    simp only [ha, hb, hc, beq_self_eq_true, Bool.and_self, Bool.not_true, Bool.false_or, Bool.and_eq_true, Option.isNone_iff_eq_none,
      List.isEmpty_iff, Bool.not_eq_true', bne_iff_ne, ne_eq] at this
    rw [viewAny_quiet h1] at hd
    simp [this] at hd

/-- `Handles`. -/
def handlesB (s : State) (p : PortId) (m : Msg) : Bool :=
  s.hasPort p && portRuns s p && fabRuns s && portCarries s.ports[p.val] m.cls && (s.ports[p.val]).rxq.find? (fun x => x.cls == m.cls) == some m &&
  m.dst == s.node && decide (m.cls < 5) && coresRestB s

theorem handles_of {s : State} {p : PortId} {m : Msg} (h : handlesB s p m = true) : Handles s p m := by
  simp only [handlesB, Bool.and_eq_true, decide_eq_true_eq, beq_iff_eq] at h
  obtain ⟨⟨⟨⟨⟨⟨⟨h1, h2⟩, h3⟩, h4⟩, h5⟩, h6⟩, h7⟩, h8⟩ := h
  exact { present := h1, runs := h2, fabric := h3, carries := h4, front := h5, here := h6, cls := h7, rest := coresRest_of h8 }

/-- `Taken`. -/
def takenB (s : State) (raw : List Byte) (f : TmeFrame) : Bool :=
  fabRuns s && s.tme.en && frameGood s raw false && f == frameOf (raw.drop 14) && (tmePeer s f.src).out.all (fun x => x.seq != f.ack) && coresRestB s

theorem taken_of {s : State} {raw : List Byte} {f : TmeFrame} (h : takenB s raw f = true) : Taken s raw f := by
  simp only [takenB, Bool.and_eq_true, beq_iff_eq, List.all_eq_true, bne_iff_ne, ne_eq] at h
  obtain ⟨⟨⟨⟨⟨h1, h2⟩, h3⟩, h4⟩, h5⟩, h6⟩ := h
  exact { fabric := h1, enabled := h2, good := h3, frame := h4, noAck := h5, rest := coresRest_of h6 }

theorem inTurn_of {s : State} {raw : List Byte} {f : TmeFrame} (h : (takenB s raw f && f.reset) = true) : InTurn s raw f := by
  simp only [Bool.and_eq_true] at h
  exact { toTaken := taken_of h.1, next := .inl h.2 }

/-- Four little-endian bytes of a 32-bit word hold the word. -/
theorem ofLe_leBytes4 (w : W32) : BitVec.ofNat 32 (ofLe (leBytes 4 w.toNat)) = w := by
  have h := w.isLt
  apply BitVec.eq_of_toNat_eq
  simp only [leBytes, ofLe, BitVec.toNat_ofNat]
  omega

/-- A block of 248 bytes followed by their CRC and 4 bytes passes the checks of R499, where its FILL does. -/
theorem blkGood_crc (d : List Byte) (hl : d.length = 248) (hf : (decide (blkFill d ≤ 240) && blkFill d % 16 == 0) = true) :
    blkGood (d ++ leBytes 4 (ethCrc d).toNat ++ [0, 0, 0, 0]) 0 = true := by
  have hlen : ∀ n, (leBytes 4 n).length = 4 := fun n => rfl
  have h1 : (d ++ leBytes 4 (ethCrc d).toNat ++ [0, 0, 0, 0]).take 248 = d := by
    rw [List.append_assoc, List.take_append_of_le_length (by omega), ← hl, List.take_length]
  have h2 : blockField (d ++ leBytes 4 (ethCrc d).toNat ++ [0, 0, 0, 0]) 248 4 = ofLe (leBytes 4 (ethCrc d).toNat) := by
    unfold blockField
    rw [List.append_assoc, ← hl, List.drop_left, List.take_append_of_le_length (by simp [hlen]), List.take_of_length_le (by simp [hlen])]
  have h3 : blkFill (d ++ leBytes 4 (ethCrc d).toNat ++ [0, 0, 0, 0]) = blkFill d := by
    unfold blkFill blockField
    rw [List.append_assoc, List.drop_append_of_le_length (by omega), List.take_append_of_le_length (by simp; omega)]
  simp only [Bool.and_eq_true] at hf
  unfold blkGood
  rw [h1, h2, h3, ofLe_leBytes4, hf.1, hf.2]
  simp [hl, hlen]

end Sys2Proof.Machine
end

