-- ==== Sys2Proof/Laws/Quiet.lean ====
section
/-!
SUPPORT. Laws/Quiet.lean: what an access of a core leaves alone: translation, the checks of an access and a fetch change nothing but caches
and TLBs where no cached copy of another complex's line and no scratchpad word with an uncounted error is in the way.
-/
namespace Sys2Proof.Machine

/-- The state after a computation of a core, whether it ended or stopped. -/
def after {α : Type} (m : Op α) (s : State) : State := match m s with
  | .ok _ t => t
  | .error _ t => t

/-- A computation that changes nothing but caches and TLBs, where no cached copy of another complex's line and no scratchpad word with a single-bit error is in its way. -/
def Quiet {α : Type} (m : Op α) : Prop := ∀ s : State, s.remote = [] → s.spmCe = [] → (after m s).arch = s.arch

theorem arch_remote {s t : State} (h : t.arch = s.arch) : t.remote = s.remote := (congrArg State.remote h :)
theorem arch_spmCe {s t : State} (h : t.arch = s.arch) : t.spmCe = s.spmCe := (congrArg State.spmCe h :)

theorem quiet_pure {α : Type} (a : α) : Quiet (pure a : Op α) := fun _ _ _ => rfl
theorem quiet_throw {α : Type} (e : Stop) : Quiet (throw e : Op α) := fun _ _ _ => rfl
theorem quiet_get : Quiet (get : Op State) := fun _ _ _ => rfl

theorem quiet_bind {α β : Type} {m : Op α} {f : α → Op β} (hm : Quiet m) (hf : ∀ a, Quiet (f a)) : Quiet (m >>= f) := by
  intro s h1 h2
  have h := hm s h1 h2
  show (after (EStateM.bind m f) s).arch = _
  unfold after EStateM.bind
  unfold after at h
  cases hms : m s with
  | ok a t =>
    rw [hms] at h
    have := hf a t (by rw [arch_remote h, h1]) (by rw [arch_spmCe h, h2])
    unfold after at this
    simp only
    rw [this, h]
  | error e t => rw [hms] at h; exact h

theorem arch_setCore (s : State) (c : CoreId) (k : Core) (h : k.arch = (s.core c).arch) : (s.setCore c k).arch = s.arch := by
  unfold State.arch State.setCore
  simp only [State.mk.injEq, true_and, and_true]
  ext i hi
  simp only [Vector.getElem_map, Vector.getElem_set]
  split
  · next e => subst e; exact h
  · rfl

theorem quiet_updCore (c : CoreId) (f : Core → Core) (h : ∀ k, (f k).arch = k.arch) : Quiet (updCore c f) :=
  fun s _ _ => arch_setCore s c _ (h _)

theorem arch_settleRemote (s : State) (l : Nat) (h : s.remote = []) : settleRemote s l = s := by
  unfold settleRemote
  split
  · rfl
  · rw [h]; rfl

theorem arch_settleEvicted (s : State) (l : Nat) : (settleEvicted s l).arch = s.arch := by
  unfold settleEvicted; split <;> rfl

theorem arch_fillL2 (s : State) (k : ClusterId) (l : Nat) (h : s.remote = []) : (fillL2 s k l).arch = s.arch := by
  unfold fillL2
  simp only
  split
  · rw [arch_settleRemote]
    · rw [arch_settleEvicted]; rfl
    · unfold settleEvicted; split <;> exact h
  · rfl

theorem spmNoteCe_none (s : State) (b : BankId) (a n : Nat) (h : s.spmCe = []) : spmNoteCe s b a n = s := by
  unfold spmNoteCe
  generalize wordsOf a n = l
  induction l with
  | nil => rfl
  | cons w t ih => simp [List.foldl, h] ; exact ih

theorem quiet_getBind {α : Type} {f : State → Op α}
    (h : ∀ s : State, s.remote = [] → s.spmCe = [] → (after (f s) s).arch = s.arch) : Quiet (get >>= f) :=
  fun s h1 h2 => h s h1 h2

theorem quiet_core (c : CoreId) : Quiet (core c) := fun _ _ _ => rfl

theorem quiet_walkRead (c : CoreId) (pa : Nat) : Quiet (walkRead c pa) := by
  apply quiet_getBind
  intro s h1 h2
  simp only
  split
  · split
    · rfl
    · split
      · rfl
      · split
        · rfl
        · split
          · rfl
          · exact arch_fillL2 _ _ _ h1
  · split
    · rfl
    · split
      · rfl
      · split
        · rfl
        · split
          · rfl
          · show (spmNoteCe s _ _ 8).arch = _
            rw [spmNoteCe_none _ _ _ _ h2]
  · rfl

theorem quiet_stage2walk (c : CoreId) (slice : BitVec 6) (gpa : Nat) (fuel : Nat) :
    ∀ table l, Quiet (stage2.walk c slice gpa table fuel l) := by
  induction fuel with
  | zero => intro table l; exact quiet_pure _
  | succ n ih =>
    intro table l
    unfold stage2.walk
    apply quiet_bind (quiet_walkRead _ _)
    intro r
    split
    · exact quiet_pure _
    · simp only
      split
      · exact quiet_pure _
      · split
        · exact ih _ _
        · exact quiet_pure _

theorem quiet_stage2 (c : CoreId) (slice : BitVec 6) (gpa : Nat) : Quiet (stage2 c slice gpa) := by
  unfold stage2
  apply quiet_bind quiet_get
  intro s
  simp only
  split
  · exact quiet_pure _
  · split
    · apply quiet_bind (quiet_updCore _ _ _)
      · intro _; exact quiet_pure _
      · intro _; rfl
    · exact quiet_stage2walk _ _ _ _ _ _

theorem quiet_ite {α : Type} {p : Prop} [Decidable p] {a b : Op α} (ha : Quiet a) (hb : Quiet b) : Quiet (if p then a else b) := by
  split <;> assumption

/-- An operation, done only under a condition, before another. -/
theorem quiet_after {α : Type} {p : Prop} [Decidable p] {a : Op Unit} {b : Op α} (ha : Quiet a) (hb : Quiet b) :
    Quiet (if p then (do a; b) else b) := quiet_ite (quiet_bind ha (fun _ => hb)) hb

theorem quiet_fault1 {α : Type} (a : Acc) (va : Word) : Quiet (fault1 a va : Op α) := quiet_throw _
theorem quiet_fault2 {α : Type} (a : Acc) (va : Word) (g : Nat) : Quiet (fault2 a va g : Op α) := quiet_throw _

theorem quiet_stage1walk (c : CoreId) (a : Acc) (va : Word) (k : Core) (pid : BitVec 16)
    (leaf : Desc → Nat → List TlbEntry → Op (TlbEntry × List TlbEntry)) (hl : ∀ d b es, Quiet (leaf d b es)) (fuel : Nat) :
    ∀ table es l, Quiet (stage1.walk c a va k pid leaf table es fuel l) := by
  induction fuel with
  | zero => intro table es l; exact quiet_fault1 _ _
  | succ n ih =>
    intro table es l
    unfold stage1.walk
    apply quiet_bind (quiet_stage2 _ _ _)
    intro r
    split
    · exact quiet_fault2 _ _ _
    · apply quiet_bind (quiet_walkRead _ _)
      intro r
      split
      · exact quiet_fault1 _ _
      · simp only
        split
        · exact quiet_fault1 _ _
        · split
          · exact ih _ _ _
          · exact hl _ _ _

theorem quiet_stage1 (c : CoreId) (a : Acc) (va : Word) : Quiet (stage1 c a va) := by
  unfold stage1
  apply quiet_bind quiet_get
  intro s
  simp only
  split
  · apply quiet_after (quiet_fault1 _ _)
    apply quiet_bind (quiet_stage2 _ _ _)
    intro r; split
    · exact quiet_fault2 _ _ _
    · exact quiet_pure _
  · repeat' split
    all_goals
      refine quiet_stage1walk _ _ _ _ _ _ ?_ _ _ _ _
      intro d b es
      apply quiet_after (quiet_fault1 _ _)
      apply quiet_bind (quiet_stage2 _ _ _)
      intro r; split
      · exact quiet_fault2 _ _ _
      · exact quiet_pure _

theorem quiet_permCheck (k : Core) (a : Acc) (va : Word) (e : TlbEntry) : Quiet (permCheck k a va e) := by
  unfold permCheck
  cases a <;> exact quiet_ite (quiet_fault1 _ _) (quiet_ite (quiet_fault2 _ _ _) (quiet_pure _))

theorem quiet_translate (c : CoreId) (a : Acc) (va : Word) : Quiet (translate c a va) := by
  unfold translate
  apply quiet_bind quiet_get
  intro s
  simp only
  split
  · exact quiet_fault1 _ _
  · split
    · exact quiet_fault1 _ _
    · split
      · exact quiet_pure _
      · split
        · apply quiet_bind (quiet_permCheck _ _ _ _); intro _
          apply quiet_bind (quiet_updCore _ _ (by intro k; split <;> rfl)); intro _
          exact quiet_pure _
        · split
          · apply quiet_bind (quiet_permCheck _ _ _ _); intro _
            apply quiet_bind (quiet_updCore _ _ (by intro k; rfl)); intro _
            apply quiet_bind (quiet_updCore _ _ (by intro k; split <;> rfl)); intro _
            exact quiet_pure _
          · apply quiet_bind (quiet_stage1 _ _ _); intro r
            apply quiet_bind (quiet_permCheck _ _ _ _); intro _
            apply quiet_bind (quiet_updCore _ _ (by intro k; rfl)); intro _
            apply quiet_bind (quiet_updCore _ _ (by intro k; split <;> rfl)); intro _
            exact quiet_pure _

theorem quiet_checkBank (c : CoreId) (b : BankId) (va : Word) (pa : Nat) : Quiet (checkBank c b va pa) := by
  unfold checkBank
  apply quiet_bind quiet_get
  intro s
  simp only
  repeat' (first | exact quiet_throw _ | exact quiet_pure _ | split)

theorem quiet_checkTarget (c : CoreId) (u : Use) (p : Part) (n : Nat) : Quiet (checkTarget c u p n) := by
  unfold checkTarget
  apply quiet_bind quiet_get
  intro s
  simp only
  repeat' (first | exact quiet_throw _ | exact quiet_pure _ | exact quiet_checkBank _ _ _ _ | split)

theorem quiet_mapM {α β : Type} (f : α → Op β) (h : ∀ a, Quiet (f a)) (l : List α) : Quiet (l.mapM f) := by
  induction l with
  | nil => exact quiet_pure _
  | cons a t ih =>
    rw [List.mapM_cons]
    exact quiet_bind (h a) (fun _ => quiet_bind ih (fun _ => quiet_pure _))

theorem quiet_forM {α : Type} (f : α → Op PUnit) (h : ∀ a, Quiet (f a)) (l : List α) : Quiet (l.forM f) := by
  induction l with
  | nil => exact quiet_pure _
  | cons a t ih => exact quiet_bind (h a) (fun _ => ih)

theorem quiet_checkAccess (c : CoreId) (u : Use) (va : Word) (n : Nat) : Quiet (checkAccess c u va n) := by
  unfold checkAccess
  apply quiet_bind
  · apply quiet_mapM
    intro p
    exact quiet_bind (quiet_translate _ _ _) (fun _ => quiet_pure _)
  · intro ps
    apply quiet_bind
    · exact quiet_forM _ (fun p => quiet_checkTarget _ _ _ _) _
    · intro _; exact quiet_bind quiet_get (fun _ => quiet_pure _)

theorem arch_dropCopies_none (s : State) (l : Nat) : (dropCopies s none l).arch = s.arch := by
  unfold dropCopies
  simp only
  have h1 : ∀ (cs : List CoreId) (s : State), (cs.foldl (fun s c => s.modCore c (fun k => { k with l1d := l1Drop k.l1d l })) s).arch = s.arch := by
    intro cs
    induction cs with
    | nil => intro s; rfl
    | cons c t ih => intro s; rw [List.foldl_cons, ih]; exact arch_setCore s c _ rfl
  have h2 : ∀ (ks : List ClusterId) (s : State), (ks.foldl (fun s k => { s with l2 := s.l2.set k.val (l2Drop s.l2[k.val] l) }) s).arch = s.arch := by
    intro ks
    induction ks with
    | nil => intro s; rfl
    | cons c t ih => intro s; rw [List.foldl_cons, ih]; rfl
  rw [h2, h1]

theorem arch_foldl {α : Type} (f : State → α → State) (h : ∀ s a, s.remote = [] → s.spmCe = [] → (f s a).arch = s.arch) (l : List α) :
    ∀ s : State, s.remote = [] → s.spmCe = [] → (l.foldl f s).arch = s.arch := by
  induction l with
  | nil => intro s _ _; rfl
  | cons a t ih =>
    intro s h1 h2
    have := h s a h1 h2
    rw [List.foldl_cons, ih _ (by rw [arch_remote this, h1]) (by rw [arch_spmCe this, h2]), this]

theorem quiet_outside (c : CoreId) (va : Word) (pa n op : Nat) : Quiet (outside c va pa n op) := by
  unfold outside
  apply quiet_bind (quiet_core _)
  intro k
  split <;> first | exact quiet_throw _ | exact quiet_pure _

theorem quiet_outsideBytes (c : CoreId) (va : Word) (pa n : Nat) : Quiet (outsideBytes c va pa n) := by
  unfold outsideBytes
  apply quiet_bind
  · exact quiet_mapM _ (fun _ => quiet_outside _ _ _ _ _) _
  · intro _; exact quiet_pure _

theorem arch_fillL1d (s : State) (c : CoreId) (l : Nat) (h : s.remote = []) : (fillL1d s c l).arch = s.arch := by
  unfold fillL1d
  simp only
  have e := arch_fillL2 s (clusterOf c) l h
  have e2 : ((fillL2 s (clusterOf c) l).modCore c (fun k => { k with l1d := (l1Fill (fillL2 s (clusterOf c) l).isPoisoned ((fillL2 s (clusterOf c) l).core c).l1d l).1 })).arch = s.arch := by
    rw [← e]; exact arch_setCore _ c _ rfl
  split
  · rw [arch_fillL2 _ _ _ (by rw [arch_remote e2, h])]; exact e2
  · exact e2

theorem arch_cacheRead (s : State) (c : CoreId) (a n : Nat) (h1 : s.remote = []) (h2 : s.spmCe = []) : (cacheRead s c a n).2.arch = s.arch := by
  unfold cacheRead
  apply arch_foldl
  · intro s l h1 h2
    simp only
    split
    · rw [arch_fillL1d]
      · rfl
      · exact h1
    · exact arch_fillL1d _ _ _ h1
  · exact h1
  · exact h2

theorem quiet_loadPart_fetch (c : CoreId) (p : Part) : Quiet (loadPart c true p) := by
  unfold loadPart
  apply quiet_bind quiet_get; intro s
  simp only [Bool.not_true, Bool.and_false, Bool.or_true, Bool.false_eq_true, if_false, if_true]
  refine quiet_bind (quiet_pure none) (fun fw => ?_)
  split
  · exact quiet_pure _
  apply quiet_getBind
  intro s h1 h2
  split
  · split
    · rfl
    · split
      · rfl
      · split
        · show (List.foldl _ s _).arch = _
          exact arch_foldl _ (fun s l h1 h2 => by rw [arch_dropCopies_none]; rfl) _ s h1 h2
        · have e : ∀ ls : List Nat, (ls.foldl (fun s l => fillL2 s (clusterOf c) l) s).arch = s.arch := fun ls =>
            arch_foldl _ (fun s l h1 h2 => arch_fillL2 _ _ _ h1) ls s h1 h2
          rename_i a _ _ _ _ _ _
          refine Eq.trans ?_ (e (linesOf a p.len))
          refine arch_foldl (fun s l => s.modCore c (fun k => { k with l1i := (l1Fill (fun _ => false) k.l1i l).1 })) ?_ _ _
            ((arch_remote (e _)).trans h1) ((arch_spmCe (e _)).trans h2)
          intro s l _ _
          exact arch_setCore s c _ rfl
  · split
    · rfl
    · show (spmNoteCe s _ _ _).arch = _
      rw [spmNoteCe_none _ _ _ _ h2]
  · rfl
  · exact quiet_bind (quiet_outside _ _ _ _ _) (fun _ => quiet_pure _) s h1 h2
  · split
    · split
      · exact quiet_bind (quiet_core _) (fun k => by split <;> exact quiet_throw _) s h1 h2
      · split
        · rfl
        · show (List.foldl _ s _).arch = _
          refine arch_foldl _ (fun s l h1 _ => ?_) _ s h1 h2
          show (((fillL2 s (clusterOf c) l).modCore c (fun k => { k with l1i := (l1Fill (fun _ => false) k.l1i l).1 })).arch = s.arch)
          refine Eq.trans ?_ (arch_fillL2 s (clusterOf c) l h1)
          exact arch_setCore (fillL2 s (clusterOf c) l) c _ rfl
    · exact quiet_bind (quiet_outside _ _ _ _ _) (fun _ => quiet_pure _) s h1 h2
  · rfl
  · rfl

theorem quiet_fetchCheck (x : Ctx) : Quiet (fetchCheck x) := by
  unfold fetchCheck
  apply quiet_bind
  · exact quiet_mapM _ (fun p => quiet_bind (quiet_translate _ _ _) (fun _ => quiet_pure _)) _
  · intro ps
    exact quiet_forM _ (fun p => quiet_bind (quiet_checkTarget _ _ _ _) (fun _ => quiet_bind (quiet_loadPart_fetch _ _) (fun _ => quiet_pure _))) _

end Sys2Proof.Machine
end

