-- ==== Sys2Proof/Laws/Exec.lean ====
section
/-!
SUPPORT. Laws/Exec.lean: how an instruction of a core runs from its command to its end, and what the stack operations leave: each says
once everything its operation does in the setting of Safety.lean.
-/
namespace Sys2Proof.Machine

theorem arch_core {s t : State} (h : t.arch = s.arch) (c : CoreId) : (t.core c).arch = (s.core c).arch := by
  have := congrArg (fun v : Vector Core 64 => v[c.val]) (congrArg State.cores h)
  simpa [State.arch, State.core] using this

theorem core_setCore (s : State) (c : CoreId) (k : Core) : (s.setCore c k).core c = k := by
  simp [State.core, State.setCore]

theorem core_modCore (s : State) (c : CoreId) (f : Core → Core) : (s.modCore c f).core c = f (s.core c) := core_setCore _ _ _

theorem setCore_setCore (s : State) (c : CoreId) (j k : Core) : (s.setCore c j).setCore c k = s.setCore c k := by
  simp [State.setCore]

theorem arch_set {s : State} (c : CoreId) (k : Core) : (s.setCore c k).arch = s.arch.setCore c k.arch := by
  simp only [State.arch, State.setCore, State.mk.injEq, true_and, and_true]
  ext i hi
  simp only [Vector.getElem_map, Vector.getElem_set]
  split <;> rfl

/-- Changing core `c` alike in two states that look alike leaves them alike. -/
theorem arch_mod {s t : State} {c : CoreId} {j : Core} (h : t.arch = (s.setCore c j).arch) (f : Core → Core)
    (hf : ∀ a b : Core, a.arch = b.arch → (f a).arch = (f b).arch) : (t.modCore c f).arch = (s.setCore c (f j)).arch := by
  have hc := arch_core h c
  rw [core_setCore] at hc
  unfold State.modCore
  rw [arch_set, h, ← arch_set, setCore_setCore, arch_set, arch_set, hf _ _ hc]

/-- Where an instruction that ended goes on. -/
def Next.addr (x : Ctx) : Next → Option Word
  | .seq => some x.next
  | .jump a => some a
  | _ => none

theorem arch_mod' {s t : State} {c : CoreId} {j : Core} (h : t.arch = (s.setCore c j).arch) (f : Core → Core)
    (hf : ∀ a : Core, (f a).arch = (f a.arch).arch) : (t.modCore c f).arch = (s.setCore c (f j)).arch :=
  arch_mod h f (fun a b e => by rw [hf a, hf b, e])

theorem landDue_none {s : State} {c : CoreId} (h : (s.core c).pend = []) : landDue s c = s.modCore c (fun k => { k with pend := [] }) := by
  unfold landDue
  simp only [h, List.map_nil, List.filter_nil, List.foldl_nil, List.any_nil, Bool.false_eq_true, if_false]

theorem pend_eta {k : Core} (h : k.pend = []) : ({ k with pend := [] } : Core) = k := by
  cases k; cases h; rfl

theorem fetch_breaks {c : CoreId} {op : CoreOp} {s : State} (h : Ready c op s) :
    ∃ f, (do fetchCheck (ctxOf s c (opBytes op)); ibpCheck (ctxOf s c (opBytes op)) : Op Unit) (s.modCore c (fun k => { k with sbOpen := false })) = .ok () f ∧
      f.arch = s.arch := by
  have hs : (s.modCore c (fun k => { k with sbOpen := false })).arch = s.arch := arch_setCore s c _ rfl
  have hq := quiet_fetchCheck (ctxOf s c (opBytes op)) _ ((arch_remote hs).trans h.noRemote) ((arch_spmCe hs).trans h.noCe)
  have hf := h.fetch
  unfold fetches at hf
  unfold after at hq
  change (match fetchCheck (ctxOf s c (opBytes op)) (s.modCore c (fun k => { k with sbOpen := false })) with | .ok _ _ => true | .error _ _ => false) = true at hf
  cases he : fetchCheck (ctxOf s c (opBytes op)) (s.modCore c (fun k => { k with sbOpen := false })) with
  | error e f => rw [he] at hf; cases hf
  | ok u f =>
    rw [he] at hq
    have ha : f.arch = s.arch := hq.trans hs
    refine ⟨f, ?_, ha⟩
    have hb : ibpCheck (ctxOf s c (opBytes op)) f = .ok () f := by
      have hk := arch_core ha c
      have h1 : (f.core c).dbgctl = (s.core c).dbgctl := (congrArg Core.dbgctl hk :)
      have h2 : (f.core c).ibp = (s.core c).ibp := (congrArg Core.ibp hk :)
      have hh : ibpHits (f.core c) (s.core c).pc = 0 := by
        rw [← h.noBreak]; unfold ibpHits; rw [h1, h2]
      unfold ibpCheck
      show (ite _ _ _ : Op Unit) f = _
      split
      · rfl
      · show (ite (ibpHits (f.core c) (s.core c).pc == 0) _ _ : Op Unit) f = _
        rw [hh]; rfl
    show EStateM.bind _ _ _ = _
    unfold EStateM.bind
    rw [he]
    exact hb

theorem exec_completes {c : CoreId} {op : CoreOp} {s : State} (h : Ready c op s) {k : Core} {n : Next} {a : Word}
    (hn : n.addr (ctxOf s c (opBytes op)) = some a)
    (hb : ∀ f : State, f.arch = s.arch → ∃ t, runOp (ctxOf s c (opBytes op)) op f = .ok n t ∧ t.arch = (s.setCore c k).arch)
    (hc : k.cstat = (s.core c).cstat) (hp : k.pend = []) (ho : k.stepOne = false) :
    Completes c s (execCore c op s) k a := by
  obtain ⟨f, hf, ha⟩ := fetch_breaks h
  obtain ⟨t, ht, hta⟩ := hb f ha
  have hctl : f.ctl = s.ctl := (congrArg State.ctl ha :)
  have hroute : opRoute f c op (opBytes op) = .native := by
    rw [← h.native]; unfold opRoute ctlOf; rw [hctl]
  have hbody : routed op (opBytes op) (ctxOf s c (opBytes op)) f = .ok n t := by
    unfold routed
    show EStateM.bind get _ f = _
    unfold EStateM.bind
    show (match opRoute f c op (opBytes op) with | .native => _ | .illegal => _ | .micro a => _ | .parity i => _ : Op Next) f = _
    rw [hroute]
    exact ht
  have hpt := arch_core hta c
  rw [core_setCore] at hpt
  have hpend : (t.core c).pend = [] := (congrArg Core.pend hpt :).trans hp
  have hcst : (t.core c).cstat = (s.core c).cstat := (congrArg Core.cstat hpt :).trans hc
  have hone : (t.core c).stepOne = false := (congrArg Core.stepOne hpt :).trans ho
  have hmet : (t.core c).met = false := by unfold Core.met; rw [hcst]; exact h.unmetered
  -- what retirement and the end of the command leave
  have hret : ∀ cls second, ∃ u, retire (ctxOf s c (opBytes op)) cls second ((s.core c).sstep && decide ((s.core c).ml < 7)) n t = u ∧
      (noteWait c { op := op, rep := none, units := 0 } u).arch = (s.setCore c (k.ended a)).arch := by
    intro cls second
    have hw : ∀ (last : Option LastIssue) (st : State),
        st = t.modCore c (fun k => { k with
              pc := a, ext := [], begun := false, bpSkip := false, rep := none,
              stepDue := (s.core c).sstep && decide ((s.core c).ml < 7), mid := false, micro := none, lastIssue := last }) →
        ((landDue st c).core c).met = false ∧ ((landDue st c).core c).stepOne = false ∧
          (noteWait c { op := op, rep := none, units := 0 } (landDue st c)).arch = (s.setCore c (k.ended a)).arch := by
      intro last st hst
      subst hst
      rw [landDue_none (by rw [core_modCore]; exact hpend)]
      refine ⟨?_, ?_, ?_⟩
      · rw [core_modCore, core_modCore]; exact hmet
      · rw [core_modCore, core_modCore]; exact hone
      · have e1 := arch_mod' hta (fun k => { k with
              pc := a, ext := [], begun := false, bpSkip := false, rep := none,
              stepDue := (s.core c).sstep && decide ((s.core c).ml < 7), mid := false, micro := none, lastIssue := last }) (fun _ => rfl)
        have e2 := arch_mod' e1 (fun k => { k with pend := [] }) (fun _ => rfl)
        have e3 := arch_mod' e2 (fun k => { k with waitOp := if k.ext.isEmpty then none else some { op := op, rep := none, units := 0 } }) (fun _ => rfl)
        refine e3.trans ?_
        rw [arch_set, arch_set]
        congr 1
        have hs1 : (k.sstep && decide (k.ml < 7)) = ((s.core c).sstep && decide ((s.core c).ml < 7)) := by
          unfold Core.sstep Core.ml; rw [hc]
        unfold Core.ended Core.arch
        simp [hs1, hp]
    cases n with
    | seq =>
      cases hn
      refine ⟨_, rfl, ?_⟩
      obtain ⟨h1, h2, h3⟩ := hw (some { cls := cls, pc := (ctxOf s c (opBytes op)).pc, second := second }) _ rfl
      have e : retire (ctxOf s c (opBytes op)) cls second ((s.core c).sstep && decide ((s.core c).ml < 7)) .seq t =
          landDue (t.modCore c (fun k => { k with
              pc := (ctxOf s c (opBytes op)).next, ext := [], begun := false, bpSkip := false, rep := none,
              stepDue := (s.core c).sstep && decide ((s.core c).ml < 7), mid := false, micro := none,
              lastIssue := some { cls := cls, pc := (ctxOf s c (opBytes op)).pc, second := second } })) c := by
        unfold retire
        dsimp only
        have hif : ∀ (p q : State) , (landDue (t.modCore c (fun k => { k with
              pc := (ctxOf s c (opBytes op)).next, ext := [], begun := false, bpSkip := false && k.bpSkip, rep := if false = true then k.rep else none,
              stepDue := (s.core c).sstep && decide ((s.core c).ml < 7), mid := false, micro := none,
              lastIssue := if true = true then some { cls := cls, pc := (ctxOf s c (opBytes op)).pc, second := second } else none })) c) = p → (p.core c).met = false → (p.core c).stepOne = false → 
              (let u := if (p.core c).met then q else p
               if (u.core c).stepOne && !(u.core c).halted then u.modCore c (fun k => haltCore k 3) else u) = p := by
          intro p q _ hm ho
          simp [hm, ho]
        exact hif _ _ rfl h1 h2
      rw [e]; exact h3
    | jump _ =>
      cases hn
      refine ⟨_, rfl, ?_⟩
      obtain ⟨h1, h2, h3⟩ := hw none _ rfl
      have e : retire (ctxOf s c (opBytes op)) cls second ((s.core c).sstep && decide ((s.core c).ml < 7)) (.jump a) t =
          landDue (t.modCore c (fun k => { k with
              pc := a, ext := [], begun := false, bpSkip := false, rep := none,
              stepDue := (s.core c).sstep && decide ((s.core c).ml < 7), mid := false, micro := none,
              lastIssue := none })) c := by
        unfold retire
        dsimp only
        have hif : ∀ (p q : State), (p.core c).met = false → (p.core c).stepOne = false → 
              (let u := if (p.core c).met then q else p
               if (u.core c).stepOne && !(u.core c).halted then u.modCore c (fun k => haltCore k 3) else u) = p := by
          intro p q hm ho
          simp [hm, ho]
        exact hif _ _ h1 h2
      rw [e]; exact h3
    | _ => cases hn
  have hrun : ∀ cls, ∃ u pr, runWith c cls (opBytes op) (routed op (opBytes op)) s = (u, pr) ∧ pr = Progress.over ∧
      (noteWait c { op := op, rep := none, units := 0 } u).arch = (s.setCore c (k.ended a)).arch := by
    intro cls
    obtain ⟨u, hu, hua⟩ := hret cls (foldsWithLast (s.core c) cls (opBytes op).length)
    refine ⟨u, .over, ?_, rfl, hua⟩
    unfold runWith
    dsimp only
    change (match (do fetchCheck (ctxOf s c (opBytes op)); ibpCheck (ctxOf s c (opBytes op)) : Op Unit) (s.modCore c (fun k => { k with sbOpen := false })) with
      | .error st s1 => _ | .ok _ s1 => _) = _
    rw [hf]
    dsimp only
    change (match routed op (opBytes op) (ctxOf s c (opBytes op)) f with
      | .error st s2 => _ | .ok n s2 => _) = _
    rw [hbody]
    dsimp only
    change (retire (ctxOf s c (opBytes op)) _ _ _ _ _, _) = _
    rw [hu]
    cases n <;> first | rfl | cases hn
  unfold Completes execCore execUnits
  rw [h.present]
  simp only [Bool.not_true, Bool.false_eq_true, if_false]
  rw [if_pos h.can]
  obtain ⟨u, pr, h1, h2, h3⟩ := hrun (classOf s c op (opBytes op))
  refine ⟨_, rfl, ?_⟩
  have : runUnits c (classOf s c op (opBytes op)) (opBytes op) (routed op (opBytes op)) (65536 + 0) 0 s = u := by
    show runUnits c (classOf s c op (opBytes op)) (opBytes op) (routed op (opBytes op)) (65535 + 1) 0 s = u
    unfold runUnits
    rw [h1, h2]
  rw [this]
  exact h3

/-- State `f` looks like `s` with core `c` as `k`: nothing but caches and TLBs sets them apart. -/
def Looks (s : State) (c : CoreId) (k : Core) (f : State) : Prop := f.arch = (s.setCore c k).arch

theorem looks_self {s f : State} (c : CoreId) (h : f.arch = s.arch) : Looks s c (s.core c) f := by
  unfold Looks
  rw [h, arch_setCore s c _ rfl]

theorem looks_upd {s f : State} {c : CoreId} {k : Core} (h : Looks s c k f) (g : Core → Core) (hg : ∀ a : Core, (g a).arch = (g a.arch).arch) :
    Looks s c (g k) (f.modCore c g) := arch_mod' h g hg

theorem looks_core {s f : State} {c : CoreId} {k : Core} (h : Looks s c k f) : (f.core c).arch = k.arch := by
  have := arch_core h c
  rwa [core_setCore] at this

theorem bind_ok {α β : Type} {m : Op α} {g : α → Op β} {s t : State} {a : α} (h : m s = .ok a t) : (m >>= g) s = g a t := by
  show EStateM.bind m g s = _
  unfold EStateM.bind
  rw [h]

theorem setOps_arch (k : Core) (l : List Word) : (k.setOps l).arch = (k.arch.setOps l).arch := by
  rcases k with ⟨⟩
  unfold Core.setOps Core.win Core.setWin Core.arch
  simp only
  repeat' split
  all_goals rfl

theorem ops_arch {k j : Core} (h : k.arch = j.arch) : k.ops = j.ops := by
  have e : ∀ i : Core, i.ops = i.arch.ops := fun _ => rfl
  rw [e k, e j, h]
theorem frame_arch {k j : Core} (h : k.arch = j.arch) : k.frame = j.frame := by
  have e : ∀ i : Core, i.frame = i.arch.frame := fun _ => rfl
  rw [e k, e j, h]
theorem win_arch {k j : Core} (h : k.arch = j.arch) : k.win = j.win := by
  have e : ∀ i : Core, i.win = i.arch.win := fun _ => rfl
  rw [e k, e j, h]

theorem need_ok {s : State} {c : CoreId} {n : Nat} (h : n ≤ (s.core c).frame) : need c n s = .ok () s := by
  unfold need
  rw [bind_ok (m := core c) (a := s.core c) (t := s) rfl, if_pos h]
  rfl

theorem holdTop_ok {s : State} {c : CoreId} {n : Nat} (h : n ≤ (s.core c).ops.length) : holdTop c n s = .ok () s := by
  unfold holdTop
  rw [bind_ok (m := core c) (a := s.core c) (t := s) rfl]
  have : (((s.core c).win.isSome || decide (n ≤ (s.core c).stk.ring.length)) = true) := by
    cases hw : (s.core c).win with
    | some w => rfl
    | none =>
      unfold Core.ops at h
      rw [hw] at h
      simpa using h
  rw [if_pos (by simp only [Bool.or_eq_true, decide_eq_true_eq] at this ⊢; tauto)]
  rfl

theorem looks_peek {s f : State} {c : CoreId} {k : Core} (h : Looks s c k f) {l rest : List Word} (hk : k.holds l rest) :
    peek c l.length f = .ok l f := by
  have hc := looks_core h
  unfold peek
  rw [bind_ok (need_ok (by rw [frame_arch hc]; exact hk.2)), bind_ok (holdTop_ok (by rw [ops_arch hc, hk.1]; simp)),
    bind_ok (m := core c) (a := f.core c) (t := f) rfl, ops_arch hc, hk.1]
  simp
  rfl

theorem looks_popN {s f : State} {c : CoreId} {k : Core} (h : Looks s c k f) {l rest : List Word} (hk : k.holds l rest) :
    ∃ t, popN c l.length f = .ok l t ∧ Looks s c (k.setOps rest) t := by
  refine ⟨f.modCore c (fun k => k.setOps (k.ops.drop l.length)), ?_, ?_⟩
  · unfold popN
    rw [bind_ok (looks_peek h hk)]
    rfl
  · have := looks_upd h (fun k => k.setOps (k.ops.drop l.length)) (fun a => setOps_arch a _)
    simp only [hk.1, List.drop_left] at this
    exact this

theorem looks_push {s f : State} {c : CoreId} {k : Core} (h : Looks s c k f) (v : Word) (hr : k.room 1) :
    ∃ t, push c v f = .ok () t ∧ Looks s c (k.setOps (v :: k.ops)) t := by
  have hc := looks_core h
  have hw := win_arch hc
  refine ⟨f.modCore c (fun k => k.setOps (v :: k.ops)), ?_, looks_upd h _ (fun a => setOps_arch a _)⟩
  unfold push
  rw [bind_ok (m := core c) (a := f.core c) (t := f) rfl]
  have hr := hr.resolve_left (by decide)
  cases hk : k.win with
  | some w =>
    rw [hk] at hr
    rw [hw, hk]
    dsimp only
    rw [if_neg (by omega)]
    have : (f.core c).ops = w.ops := by unfold Core.ops; rw [hw, hk]
    show EStateM.Result.ok () (f.setCore c ((f.core c).setOps (v :: w.ops))) = EStateM.Result.ok () (f.setCore c ((f.core c).setOps (v :: (f.core c).ops)))
    rw [this]
  | none =>
    rw [hk] at hr
    rw [hw, hk]
    dsimp only
    have hs : (f.core c).stk = k.stk := (congrArg Core.stk hc :)
    have h1 : ((f.core c).stk.cut != 0) = false := by rw [hs, hr.1]; rfl
    have h2 : (decide ((f.core c).stk.occ ≥ 8) && (f.core c).stk.depth % 16 == 0) = false := by
      rw [hs]
      have : k.stk.occ ≤ 7 := by
        unfold OpStk.occ
        split
        · omega
        · unfold OpStk.depth; rw [hr.1]; have := hr.2; omega
      have : decide (k.stk.occ ≥ 8) = false := by simp; omega
      rw [this]; rfl
    rw [h1]
    rw [if_neg (by simp)]
    rw [if_neg (by rw [h2]; simp)]
    rfl

end Sys2Proof.Machine
end

