-- ==== Sys2Proof/Laws/Memory.lean ====
section
/-!
SUPPORT. Laws/Memory.lean: memory's canonical form is kept by every operation on it, and a byte read after a write is the byte written, at
its address, and the old byte elsewhere.
-/
namespace Sys2Proof.Machine

theorem memWf_weaken {lo l : Nat} {m : List Host.Cell} (h : memWfFrom lo m = true) (hl : l ≤ lo) : memWfFrom l m = true := by
  cases m with
  | nil => rfl
  | cons x t =>
    obtain ⟨b, v⟩ := x
    simp only [memWfFrom, Bool.and_eq_true, decide_eq_true_eq] at h ⊢
    exact ⟨⟨by omega, h.1.2⟩, h.2⟩

/-- Below the lowest listed address, memory reads as unlisted. -/
theorem memGet_below {lo a : Nat} {m : List Host.Cell} (h : memWfFrom lo m = true) (ha : a < lo) : memGet m a = unlisted := by
  cases m with
  | nil => rfl
  | cons x t =>
    obtain ⟨b, v⟩ := x
    simp only [memWfFrom, Bool.and_eq_true, decide_eq_true_eq] at h
    unfold memGet
    rw [if_neg (by omega), if_pos (by omega)]

theorem memSet_wfFrom {lo a : Nat} {m : List Host.Cell} (v : Byte) (h : memWfFrom lo m = true) (ha : lo ≤ a) :
    memWfFrom lo (memSet m a v) = true := by
  induction m generalizing lo with
  | nil =>
    unfold memSet
    split
    · rfl
    · next hv => simp [memWfFrom, ha, hv]
  | cons x t ih =>
    obtain ⟨b, w⟩ := x
    have h0 := h
    simp only [memWfFrom, Bool.and_eq_true, decide_eq_true_eq] at h
    unfold memSet
    split
    · split
      · exact h0
      · next hv => simp only [memWfFrom, Bool.and_eq_true, decide_eq_true_eq]; exact ⟨⟨ha, hv⟩, ⟨by omega, h.1.2⟩, h.2⟩
    · split
      · next hab =>
        subst hab
        split
        · exact memWf_weaken h.2 (by omega)
        · next hv => simp only [memWfFrom, Bool.and_eq_true, decide_eq_true_eq]; exact ⟨⟨ha, hv⟩, h.2⟩
      · simp only [memWfFrom, Bool.and_eq_true, decide_eq_true_eq]; exact ⟨h.1, ih h.2 (by omega)⟩

/-- Writing a byte keeps the canonical form. -/
theorem memSet_wf (m : List Host.Cell) (a : Nat) (v : Byte) (h : Memory.wf m = true) : Memory.wf (memSet m a v) = true :=
  memSet_wfFrom v h (Nat.zero_le a)

theorem memGet_memSet_from {lo : Nat} {m : List Host.Cell} (a x : Nat) (v : Byte) (h : memWfFrom lo m = true) :
    memGet (memSet m a v) x = if x = a then v else memGet m x := by
  induction m generalizing lo with
  | nil =>
    unfold memSet
    split
    · next hv => subst hv; simp [memGet]
    · simp [memGet]
  | cons y t ih =>
    obtain ⟨b, w⟩ := y
    simp only [memWfFrom, Bool.and_eq_true, decide_eq_true_eq] at h
    unfold memSet
    split
    · next hab =>
      split
      · next hv =>
        subst hv
        split
        · next hx => subst hx; unfold memGet; rw [if_neg (by omega), if_pos (by omega)]
        · rfl
      · conv => lhs; unfold memGet
        by_cases hx : x = a
        · rw [if_pos hx, if_pos hx]
        · rw [if_neg hx, if_neg hx]
          split
          · unfold memGet; rw [if_neg (by omega), if_pos (by omega)]
          · rfl
    · split
      · next hab =>
        subst hab
        split
        · next hv =>
          subst hv
          by_cases hx : x = a
          · rw [if_pos hx, memGet_below h.2 (by omega)]
          · rw [if_neg hx]
            conv => rhs; unfold memGet
            rw [if_neg hx]
            split
            · exact memGet_below h.2 (by omega)
            · rfl
        · by_cases hx : x = a
          · rw [if_pos hx]; unfold memGet; rw [if_pos hx]
          · rw [if_neg hx]; unfold memGet; rw [if_neg hx, if_neg hx]
      · next h1 h2 =>
        conv => lhs; unfold memGet
        conv => rhs; rhs; unfold memGet
        rw [ih h.2]
        by_cases hx : x = a
        · rw [if_neg (by omega), if_neg (by omega), if_pos hx, if_pos hx]
        · rw [if_neg hx, if_neg hx]

/-- A byte read after a write (canonical memory). -/
theorem memGet_memSet (m : List Host.Cell) (a x : Nat) (v : Byte) (h : Memory.wf m = true) :
    memGet (memSet m a v) x = if x = a then v else memGet m x := memGet_memSet_from a x v h

theorem memWrite_wf (m : List Host.Cell) (a : Nat) (d : List Byte) (h : Memory.wf m = true) : Memory.wf (memWrite m a d) = true := by
  induction d generalizing m a with
  | nil => exact h
  | cons v t ih => exact ih _ _ (memSet_wf m a v h)

theorem memWriteMask_wf (m : List Host.Cell) (a : Nat) (d : List (Option Byte)) (h : Memory.wf m = true) :
    Memory.wf (memWriteMask m a d) = true := by
  induction d generalizing m a with
  | nil => exact h
  | cons v t ih =>
    cases v with
    | none => exact ih _ _ h
    | some v => exact ih _ _ (memSet_wf m a v h)

theorem memZero_wfFrom (lo hi : Nat) {l : Nat} (m : List Host.Cell) (h : memWfFrom l m = true) : memWfFrom l (memZero m lo hi) = true := by
  unfold memZero
  induction m generalizing l with
  | nil => rfl
  | cons x t ih =>
    obtain ⟨b, v⟩ := x
    simp only [memWfFrom, Bool.and_eq_true, decide_eq_true_eq] at h
    rw [List.filter_cons]
    split
    · simp only [memWfFrom, Bool.and_eq_true, decide_eq_true_eq]; exact ⟨h.1, ih h.2⟩
    · exact memWf_weaken (ih h.2) (by omega)

theorem memZero_wf (m : List Host.Cell) (lo hi : Nat) (h : Memory.wf m = true) : Memory.wf (memZero m lo hi) = true :=
  memZero_wfFrom lo hi m h

/-- A byte read after a zero fill (canonical memory). -/
theorem memGet_memZero_from (lo hi x : Nat) {l : Nat} (m : List Host.Cell) (h : memWfFrom l m = true) :
    memGet (memZero m lo hi) x = if lo ≤ x ∧ x < hi then unlisted else memGet m x := by
  induction m generalizing l with
  | nil => simp [memZero, memGet]
  | cons y t ih =>
    obtain ⟨b, v⟩ := y
    have h0 := h
    simp only [memWfFrom, Bool.and_eq_true, decide_eq_true_eq] at h
    have iht := ih h.2
    unfold memZero at iht ⊢
    rw [List.filter_cons]
    split
    · next hk =>
      simp only [Bool.or_eq_true, decide_eq_true_eq] at hk
      unfold memGet
      split
      · next hx => subst hx; rw [if_neg (by omega)]
      · split
        · split <;> rfl
        · exact iht
    · next hk =>
      simp only [Bool.or_eq_true, decide_eq_true_eq, not_or, Nat.not_lt, Nat.not_le] at hk
      rw [iht]
      split
      · rfl
      · conv => rhs; unfold memGet
        rw [if_neg (by omega)]
        split
        · exact memGet_below h.2 (by omega)
        · rfl

theorem memGet_memZero (m : List Host.Cell) (lo hi x : Nat) (h : Memory.wf m = true) :
    memGet (memZero m lo hi) x = if lo ≤ x ∧ x < hi then unlisted else memGet m x := memGet_memZero_from lo hi x m h

/-- A byte read after a write of several (canonical memory). -/
theorem memGet_memWrite (m : List Host.Cell) (a x : Nat) (d : List Byte) (h : Memory.wf m = true) :
    memGet (memWrite m a d) x = if hx : a ≤ x ∧ x < a + d.length then d[x - a]'(by omega) else memGet m x := by
  induction d generalizing m a with
  | nil => rw [dif_neg (by simp only [List.length_nil]; omega)]; rfl
  | cons v t ih =>
    unfold memWrite
    rw [ih _ _ (memSet_wf m a v h), memGet_memSet m a x v h]
    simp only [List.length_cons]
    by_cases hx : x = a
    · subst hx
      rw [dif_neg (by omega), if_pos rfl, dif_pos (by omega)]
      simp
    · rw [if_neg hx]
      by_cases hi : a ≤ x ∧ x < a + (t.length + 1)
      · rw [dif_pos (by omega), dif_pos hi]
        have : x - a = (x - (a + 1)) + 1 := by omega
        simp only [this, List.getElem_cons_succ]
      · rw [dif_neg (by omega), dif_neg hi]

theorem memRead_length (m : List Host.Cell) (a n : Nat) : (memRead m a n).length = n := by
  induction n generalizing a with
  | zero => rfl
  | succ n ih => simp [memRead, ih]

theorem memRead_getElem (m : List Host.Cell) (a n i : Nat) (hi : i < (memRead m a n).length) : (memRead m a n)[i] = memGet m (a + i) := by
  induction n generalizing a i with
  | zero => simp [memRead] at hi
  | succ n ih =>
    cases i with
    | zero => simp [memRead]
    | succ i =>
      simp only [memRead, List.getElem_cons_succ]
      rw [ih (a + 1) i, Nat.add_assoc, Nat.add_comm 1 i]

/-- What is read where it was written (canonical memory). -/
theorem memRead_memWrite (m : List Host.Cell) (a : Nat) (d : List Byte) (h : Memory.wf m = true) : memRead (memWrite m a d) a d.length = d := by
  apply List.ext_getElem
  · exact memRead_length _ _ _
  · intro i h1 h2
    rw [memRead_getElem, memGet_memWrite m a _ d h, dif_pos ⟨by omega, by omega⟩]
    simp

end Sys2Proof.Machine
end

