-- ==== Sys2Proof/Laws/State.lean ====
section
/-!
SUPPORT. Laws/State.lean: what each named update of State leaves alone, field by field, and what it sets.
-/
namespace Sys2Proof.Machine

/-! ### setCore -/
@[simp] theorem State.setCore_build (s : State) (c : CoreId) (k : Core) : (s.setCore c k).build = s.build := rfl
@[simp] theorem State.setCore_l2 (s : State) (c : CoreId) (k : Core) : (s.setCore c k).l2 = s.l2 := rfl
@[simp] theorem State.setCore_ctl (s : State) (c : CoreId) (k : Core) : (s.setCore c k).ctl = s.ctl := rfl
@[simp] theorem State.setCore_mem (s : State) (c : CoreId) (k : Core) : (s.setCore c k).mem = s.mem := rfl
@[simp] theorem State.setCore_dramUe (s : State) (c : CoreId) (k : Core) : (s.setCore c k).dramUe = s.dramUe := rfl
@[simp] theorem State.setCore_pattern (s : State) (c : CoreId) (k : Core) : (s.setCore c k).pattern = s.pattern := rfl
@[simp] theorem State.setCore_lostLines (s : State) (c : CoreId) (k : Core) : (s.setCore c k).lostLines = s.lostLines := rfl
@[simp] theorem State.setCore_spmCe (s : State) (c : CoreId) (k : Core) : (s.setCore c k).spmCe = s.spmCe := rfl
@[simp] theorem State.setCore_spmUe (s : State) (c : CoreId) (k : Core) : (s.setCore c k).spmUe = s.spmUe := rfl
@[simp] theorem State.setCore_dirty (s : State) (c : CoreId) (k : Core) : (s.setCore c k).dirty = s.dirty := rfl
@[simp] theorem State.setCore_poisoned (s : State) (c : CoreId) (k : Core) : (s.setCore c k).poisoned = s.poisoned := rfl
@[simp] theorem State.setCore_remote (s : State) (c : CoreId) (k : Core) : (s.setCore c k).remote = s.remote := rfl
@[simp] theorem State.setCore_banks (s : State) (c : CoreId) (k : Core) : (s.setCore c k).banks = s.banks := rfl
@[simp] theorem State.setCore_rgn (s : State) (c : CoreId) (k : Core) : (s.setCore c k).rgn = s.rgn := rfl
@[simp] theorem State.setCore_movers (s : State) (c : CoreId) (k : Core) : (s.setCore c k).movers = s.movers := rfl
@[simp] theorem State.setCore_weeder (s : State) (c : CoreId) (k : Core) : (s.setCore c k).weeder = s.weeder := rfl
@[simp] theorem State.setCore_slices (s : State) (c : CoreId) (k : Core) : (s.setCore c k).slices = s.slices := rfl
@[simp] theorem State.setCore_smgr (s : State) (c : CoreId) (k : Core) : (s.setCore c k).smgr = s.smgr := rfl
@[simp] theorem State.setCore_smOut (s : State) (c : CoreId) (k : Core) : (s.setCore c k).smOut = s.smOut := rfl
@[simp] theorem State.setCore_cplWait (s : State) (c : CoreId) (k : Core) : (s.setCore c k).cplWait = s.cplWait := rfl
@[simp] theorem State.setCore_dir (s : State) (c : CoreId) (k : Core) : (s.setCore c k).dir = s.dir := rfl
@[simp] theorem State.setCore_node (s : State) (c : CoreId) (k : Core) : (s.setCore c k).node = s.node := rfl
@[simp] theorem State.setCore_intc (s : State) (c : CoreId) (k : Core) : (s.setCore c k).intc = s.intc := rfl
@[simp] theorem State.setCore_chans (s : State) (c : CoreId) (k : Core) : (s.setCore c k).chans = s.chans := rfl
@[simp] theorem State.setCore_tmr (s : State) (c : CoreId) (k : Core) : (s.setCore c k).tmr = s.tmr := rfl
@[simp] theorem State.setCore_sys (s : State) (c : CoreId) (k : Core) : (s.setCore c k).sys = s.sys := rfl
@[simp] theorem State.setCore_gdn (s : State) (c : CoreId) (k : Core) : (s.setCore c k).gdn = s.gdn := rfl
@[simp] theorem State.setCore_ports (s : State) (c : CoreId) (k : Core) : (s.setCore c k).ports = s.ports := rfl
@[simp] theorem State.setCore_members (s : State) (c : CoreId) (k : Core) : (s.setCore c k).members = s.members := rfl
@[simp] theorem State.setCore_epoch (s : State) (c : CoreId) (k : Core) : (s.setCore c k).epoch = s.epoch := rfl
@[simp] theorem State.setCore_tme (s : State) (c : CoreId) (k : Core) : (s.setCore c k).tme = s.tme := rfl
@[simp] theorem State.setCore_mc (s : State) (c : CoreId) (k : Core) : (s.setCore c k).mc = s.mc := rfl
@[simp] theorem State.setCore_ilv (s : State) (c : CoreId) (k : Core) : (s.setCore c k).ilv = s.ilv := rfl
@[simp] theorem State.setCore_scrub (s : State) (c : CoreId) (k : Core) : (s.setCore c k).scrub = s.scrub := rfl
@[simp] theorem State.setCore_pwr (s : State) (c : CoreId) (k : Core) : (s.setCore c k).pwr = s.pwr := rfl
@[simp] theorem State.setCore_ssHeld (s : State) (c : CoreId) (k : Core) : (s.setCore c k).ssHeld = s.ssHeld := rfl
@[simp] theorem State.setCore_ssRsp (s : State) (c : CoreId) (k : Core) : (s.setCore c k).ssRsp = s.ssRsp := rfl
@[simp] theorem State.setCore_tap (s : State) (c : CoreId) (k : Core) : (s.setCore c k).tap = s.tap := rfl
@[simp] theorem State.setCore_free (s : State) (c : CoreId) (k : Core) : (s.setCore c k).free = s.free := rfl
@[simp] theorem State.setCore_pending (s : State) (c : CoreId) (k : Core) : (s.setCore c k).pending = s.pending := rfl

/-! ### modCore -/
@[simp] theorem State.modCore_build (s : State) (c : CoreId) (f : Core → Core) : (s.modCore c f).build = s.build := rfl
@[simp] theorem State.modCore_l2 (s : State) (c : CoreId) (f : Core → Core) : (s.modCore c f).l2 = s.l2 := rfl
@[simp] theorem State.modCore_ctl (s : State) (c : CoreId) (f : Core → Core) : (s.modCore c f).ctl = s.ctl := rfl
@[simp] theorem State.modCore_mem (s : State) (c : CoreId) (f : Core → Core) : (s.modCore c f).mem = s.mem := rfl
@[simp] theorem State.modCore_dramUe (s : State) (c : CoreId) (f : Core → Core) : (s.modCore c f).dramUe = s.dramUe := rfl
@[simp] theorem State.modCore_pattern (s : State) (c : CoreId) (f : Core → Core) : (s.modCore c f).pattern = s.pattern := rfl
@[simp] theorem State.modCore_lostLines (s : State) (c : CoreId) (f : Core → Core) : (s.modCore c f).lostLines = s.lostLines := rfl
@[simp] theorem State.modCore_spmCe (s : State) (c : CoreId) (f : Core → Core) : (s.modCore c f).spmCe = s.spmCe := rfl
@[simp] theorem State.modCore_spmUe (s : State) (c : CoreId) (f : Core → Core) : (s.modCore c f).spmUe = s.spmUe := rfl
@[simp] theorem State.modCore_dirty (s : State) (c : CoreId) (f : Core → Core) : (s.modCore c f).dirty = s.dirty := rfl
@[simp] theorem State.modCore_poisoned (s : State) (c : CoreId) (f : Core → Core) : (s.modCore c f).poisoned = s.poisoned := rfl
@[simp] theorem State.modCore_remote (s : State) (c : CoreId) (f : Core → Core) : (s.modCore c f).remote = s.remote := rfl
@[simp] theorem State.modCore_banks (s : State) (c : CoreId) (f : Core → Core) : (s.modCore c f).banks = s.banks := rfl
@[simp] theorem State.modCore_rgn (s : State) (c : CoreId) (f : Core → Core) : (s.modCore c f).rgn = s.rgn := rfl
@[simp] theorem State.modCore_movers (s : State) (c : CoreId) (f : Core → Core) : (s.modCore c f).movers = s.movers := rfl
@[simp] theorem State.modCore_weeder (s : State) (c : CoreId) (f : Core → Core) : (s.modCore c f).weeder = s.weeder := rfl
@[simp] theorem State.modCore_slices (s : State) (c : CoreId) (f : Core → Core) : (s.modCore c f).slices = s.slices := rfl
@[simp] theorem State.modCore_smgr (s : State) (c : CoreId) (f : Core → Core) : (s.modCore c f).smgr = s.smgr := rfl
@[simp] theorem State.modCore_smOut (s : State) (c : CoreId) (f : Core → Core) : (s.modCore c f).smOut = s.smOut := rfl
@[simp] theorem State.modCore_cplWait (s : State) (c : CoreId) (f : Core → Core) : (s.modCore c f).cplWait = s.cplWait := rfl
@[simp] theorem State.modCore_dir (s : State) (c : CoreId) (f : Core → Core) : (s.modCore c f).dir = s.dir := rfl
@[simp] theorem State.modCore_node (s : State) (c : CoreId) (f : Core → Core) : (s.modCore c f).node = s.node := rfl
@[simp] theorem State.modCore_intc (s : State) (c : CoreId) (f : Core → Core) : (s.modCore c f).intc = s.intc := rfl
@[simp] theorem State.modCore_chans (s : State) (c : CoreId) (f : Core → Core) : (s.modCore c f).chans = s.chans := rfl
@[simp] theorem State.modCore_tmr (s : State) (c : CoreId) (f : Core → Core) : (s.modCore c f).tmr = s.tmr := rfl
@[simp] theorem State.modCore_sys (s : State) (c : CoreId) (f : Core → Core) : (s.modCore c f).sys = s.sys := rfl
@[simp] theorem State.modCore_gdn (s : State) (c : CoreId) (f : Core → Core) : (s.modCore c f).gdn = s.gdn := rfl
@[simp] theorem State.modCore_ports (s : State) (c : CoreId) (f : Core → Core) : (s.modCore c f).ports = s.ports := rfl
@[simp] theorem State.modCore_members (s : State) (c : CoreId) (f : Core → Core) : (s.modCore c f).members = s.members := rfl
@[simp] theorem State.modCore_epoch (s : State) (c : CoreId) (f : Core → Core) : (s.modCore c f).epoch = s.epoch := rfl
@[simp] theorem State.modCore_tme (s : State) (c : CoreId) (f : Core → Core) : (s.modCore c f).tme = s.tme := rfl
@[simp] theorem State.modCore_mc (s : State) (c : CoreId) (f : Core → Core) : (s.modCore c f).mc = s.mc := rfl
@[simp] theorem State.modCore_ilv (s : State) (c : CoreId) (f : Core → Core) : (s.modCore c f).ilv = s.ilv := rfl
@[simp] theorem State.modCore_scrub (s : State) (c : CoreId) (f : Core → Core) : (s.modCore c f).scrub = s.scrub := rfl
@[simp] theorem State.modCore_pwr (s : State) (c : CoreId) (f : Core → Core) : (s.modCore c f).pwr = s.pwr := rfl
@[simp] theorem State.modCore_ssHeld (s : State) (c : CoreId) (f : Core → Core) : (s.modCore c f).ssHeld = s.ssHeld := rfl
@[simp] theorem State.modCore_ssRsp (s : State) (c : CoreId) (f : Core → Core) : (s.modCore c f).ssRsp = s.ssRsp := rfl
@[simp] theorem State.modCore_tap (s : State) (c : CoreId) (f : Core → Core) : (s.modCore c f).tap = s.tap := rfl
@[simp] theorem State.modCore_free (s : State) (c : CoreId) (f : Core → Core) : (s.modCore c f).free = s.free := rfl
@[simp] theorem State.modCore_pending (s : State) (c : CoreId) (f : Core → Core) : (s.modCore c f).pending = s.pending := rfl

/-! ### modBank -/
@[simp] theorem State.modBank_build (s : State) (b : BankId) (f : Bank → Bank) : (s.modBank b f).build = s.build := rfl
@[simp] theorem State.modBank_cores (s : State) (b : BankId) (f : Bank → Bank) : (s.modBank b f).cores = s.cores := rfl
@[simp] theorem State.modBank_l2 (s : State) (b : BankId) (f : Bank → Bank) : (s.modBank b f).l2 = s.l2 := rfl
@[simp] theorem State.modBank_ctl (s : State) (b : BankId) (f : Bank → Bank) : (s.modBank b f).ctl = s.ctl := rfl
@[simp] theorem State.modBank_mem (s : State) (b : BankId) (f : Bank → Bank) : (s.modBank b f).mem = s.mem := rfl
@[simp] theorem State.modBank_dramUe (s : State) (b : BankId) (f : Bank → Bank) : (s.modBank b f).dramUe = s.dramUe := rfl
@[simp] theorem State.modBank_pattern (s : State) (b : BankId) (f : Bank → Bank) : (s.modBank b f).pattern = s.pattern := rfl
@[simp] theorem State.modBank_lostLines (s : State) (b : BankId) (f : Bank → Bank) : (s.modBank b f).lostLines = s.lostLines := rfl
@[simp] theorem State.modBank_spmCe (s : State) (b : BankId) (f : Bank → Bank) : (s.modBank b f).spmCe = s.spmCe := rfl
@[simp] theorem State.modBank_spmUe (s : State) (b : BankId) (f : Bank → Bank) : (s.modBank b f).spmUe = s.spmUe := rfl
@[simp] theorem State.modBank_dirty (s : State) (b : BankId) (f : Bank → Bank) : (s.modBank b f).dirty = s.dirty := rfl
@[simp] theorem State.modBank_poisoned (s : State) (b : BankId) (f : Bank → Bank) : (s.modBank b f).poisoned = s.poisoned := rfl
@[simp] theorem State.modBank_remote (s : State) (b : BankId) (f : Bank → Bank) : (s.modBank b f).remote = s.remote := rfl
@[simp] theorem State.modBank_rgn (s : State) (b : BankId) (f : Bank → Bank) : (s.modBank b f).rgn = s.rgn := rfl
@[simp] theorem State.modBank_movers (s : State) (b : BankId) (f : Bank → Bank) : (s.modBank b f).movers = s.movers := rfl
@[simp] theorem State.modBank_weeder (s : State) (b : BankId) (f : Bank → Bank) : (s.modBank b f).weeder = s.weeder := rfl
@[simp] theorem State.modBank_slices (s : State) (b : BankId) (f : Bank → Bank) : (s.modBank b f).slices = s.slices := rfl
@[simp] theorem State.modBank_smgr (s : State) (b : BankId) (f : Bank → Bank) : (s.modBank b f).smgr = s.smgr := rfl
@[simp] theorem State.modBank_smOut (s : State) (b : BankId) (f : Bank → Bank) : (s.modBank b f).smOut = s.smOut := rfl
@[simp] theorem State.modBank_cplWait (s : State) (b : BankId) (f : Bank → Bank) : (s.modBank b f).cplWait = s.cplWait := rfl
@[simp] theorem State.modBank_dir (s : State) (b : BankId) (f : Bank → Bank) : (s.modBank b f).dir = s.dir := rfl
@[simp] theorem State.modBank_node (s : State) (b : BankId) (f : Bank → Bank) : (s.modBank b f).node = s.node := rfl
@[simp] theorem State.modBank_intc (s : State) (b : BankId) (f : Bank → Bank) : (s.modBank b f).intc = s.intc := rfl
@[simp] theorem State.modBank_chans (s : State) (b : BankId) (f : Bank → Bank) : (s.modBank b f).chans = s.chans := rfl
@[simp] theorem State.modBank_tmr (s : State) (b : BankId) (f : Bank → Bank) : (s.modBank b f).tmr = s.tmr := rfl
@[simp] theorem State.modBank_sys (s : State) (b : BankId) (f : Bank → Bank) : (s.modBank b f).sys = s.sys := rfl
@[simp] theorem State.modBank_gdn (s : State) (b : BankId) (f : Bank → Bank) : (s.modBank b f).gdn = s.gdn := rfl
@[simp] theorem State.modBank_ports (s : State) (b : BankId) (f : Bank → Bank) : (s.modBank b f).ports = s.ports := rfl
@[simp] theorem State.modBank_members (s : State) (b : BankId) (f : Bank → Bank) : (s.modBank b f).members = s.members := rfl
@[simp] theorem State.modBank_epoch (s : State) (b : BankId) (f : Bank → Bank) : (s.modBank b f).epoch = s.epoch := rfl
@[simp] theorem State.modBank_tme (s : State) (b : BankId) (f : Bank → Bank) : (s.modBank b f).tme = s.tme := rfl
@[simp] theorem State.modBank_mc (s : State) (b : BankId) (f : Bank → Bank) : (s.modBank b f).mc = s.mc := rfl
@[simp] theorem State.modBank_ilv (s : State) (b : BankId) (f : Bank → Bank) : (s.modBank b f).ilv = s.ilv := rfl
@[simp] theorem State.modBank_scrub (s : State) (b : BankId) (f : Bank → Bank) : (s.modBank b f).scrub = s.scrub := rfl
@[simp] theorem State.modBank_pwr (s : State) (b : BankId) (f : Bank → Bank) : (s.modBank b f).pwr = s.pwr := rfl
@[simp] theorem State.modBank_ssHeld (s : State) (b : BankId) (f : Bank → Bank) : (s.modBank b f).ssHeld = s.ssHeld := rfl
@[simp] theorem State.modBank_ssRsp (s : State) (b : BankId) (f : Bank → Bank) : (s.modBank b f).ssRsp = s.ssRsp := rfl
@[simp] theorem State.modBank_tap (s : State) (b : BankId) (f : Bank → Bank) : (s.modBank b f).tap = s.tap := rfl
@[simp] theorem State.modBank_free (s : State) (b : BankId) (f : Bank → Bank) : (s.modBank b f).free = s.free := rfl
@[simp] theorem State.modBank_pending (s : State) (b : BankId) (f : Bank → Bank) : (s.modBank b f).pending = s.pending := rfl

/-! ### modSlice -/
@[simp] theorem State.modSlice_build (s : State) (n : SliceId) (f : Slice → Slice) : (s.modSlice n f).build = s.build := rfl
@[simp] theorem State.modSlice_cores (s : State) (n : SliceId) (f : Slice → Slice) : (s.modSlice n f).cores = s.cores := rfl
@[simp] theorem State.modSlice_l2 (s : State) (n : SliceId) (f : Slice → Slice) : (s.modSlice n f).l2 = s.l2 := rfl
@[simp] theorem State.modSlice_ctl (s : State) (n : SliceId) (f : Slice → Slice) : (s.modSlice n f).ctl = s.ctl := rfl
@[simp] theorem State.modSlice_mem (s : State) (n : SliceId) (f : Slice → Slice) : (s.modSlice n f).mem = s.mem := rfl
@[simp] theorem State.modSlice_dramUe (s : State) (n : SliceId) (f : Slice → Slice) : (s.modSlice n f).dramUe = s.dramUe := rfl
@[simp] theorem State.modSlice_pattern (s : State) (n : SliceId) (f : Slice → Slice) : (s.modSlice n f).pattern = s.pattern := rfl
@[simp] theorem State.modSlice_lostLines (s : State) (n : SliceId) (f : Slice → Slice) : (s.modSlice n f).lostLines = s.lostLines := rfl
@[simp] theorem State.modSlice_spmCe (s : State) (n : SliceId) (f : Slice → Slice) : (s.modSlice n f).spmCe = s.spmCe := rfl
@[simp] theorem State.modSlice_spmUe (s : State) (n : SliceId) (f : Slice → Slice) : (s.modSlice n f).spmUe = s.spmUe := rfl
@[simp] theorem State.modSlice_dirty (s : State) (n : SliceId) (f : Slice → Slice) : (s.modSlice n f).dirty = s.dirty := rfl
@[simp] theorem State.modSlice_poisoned (s : State) (n : SliceId) (f : Slice → Slice) : (s.modSlice n f).poisoned = s.poisoned := rfl
@[simp] theorem State.modSlice_remote (s : State) (n : SliceId) (f : Slice → Slice) : (s.modSlice n f).remote = s.remote := rfl
@[simp] theorem State.modSlice_banks (s : State) (n : SliceId) (f : Slice → Slice) : (s.modSlice n f).banks = s.banks := rfl
@[simp] theorem State.modSlice_rgn (s : State) (n : SliceId) (f : Slice → Slice) : (s.modSlice n f).rgn = s.rgn := rfl
@[simp] theorem State.modSlice_movers (s : State) (n : SliceId) (f : Slice → Slice) : (s.modSlice n f).movers = s.movers := rfl
@[simp] theorem State.modSlice_weeder (s : State) (n : SliceId) (f : Slice → Slice) : (s.modSlice n f).weeder = s.weeder := rfl
@[simp] theorem State.modSlice_smgr (s : State) (n : SliceId) (f : Slice → Slice) : (s.modSlice n f).smgr = s.smgr := rfl
@[simp] theorem State.modSlice_smOut (s : State) (n : SliceId) (f : Slice → Slice) : (s.modSlice n f).smOut = s.smOut := rfl
@[simp] theorem State.modSlice_cplWait (s : State) (n : SliceId) (f : Slice → Slice) : (s.modSlice n f).cplWait = s.cplWait := rfl
@[simp] theorem State.modSlice_dir (s : State) (n : SliceId) (f : Slice → Slice) : (s.modSlice n f).dir = s.dir := rfl
@[simp] theorem State.modSlice_node (s : State) (n : SliceId) (f : Slice → Slice) : (s.modSlice n f).node = s.node := rfl
@[simp] theorem State.modSlice_intc (s : State) (n : SliceId) (f : Slice → Slice) : (s.modSlice n f).intc = s.intc := rfl
@[simp] theorem State.modSlice_chans (s : State) (n : SliceId) (f : Slice → Slice) : (s.modSlice n f).chans = s.chans := rfl
@[simp] theorem State.modSlice_tmr (s : State) (n : SliceId) (f : Slice → Slice) : (s.modSlice n f).tmr = s.tmr := rfl
@[simp] theorem State.modSlice_sys (s : State) (n : SliceId) (f : Slice → Slice) : (s.modSlice n f).sys = s.sys := rfl
@[simp] theorem State.modSlice_gdn (s : State) (n : SliceId) (f : Slice → Slice) : (s.modSlice n f).gdn = s.gdn := rfl
@[simp] theorem State.modSlice_ports (s : State) (n : SliceId) (f : Slice → Slice) : (s.modSlice n f).ports = s.ports := rfl
@[simp] theorem State.modSlice_members (s : State) (n : SliceId) (f : Slice → Slice) : (s.modSlice n f).members = s.members := rfl
@[simp] theorem State.modSlice_epoch (s : State) (n : SliceId) (f : Slice → Slice) : (s.modSlice n f).epoch = s.epoch := rfl
@[simp] theorem State.modSlice_tme (s : State) (n : SliceId) (f : Slice → Slice) : (s.modSlice n f).tme = s.tme := rfl
@[simp] theorem State.modSlice_mc (s : State) (n : SliceId) (f : Slice → Slice) : (s.modSlice n f).mc = s.mc := rfl
@[simp] theorem State.modSlice_ilv (s : State) (n : SliceId) (f : Slice → Slice) : (s.modSlice n f).ilv = s.ilv := rfl
@[simp] theorem State.modSlice_scrub (s : State) (n : SliceId) (f : Slice → Slice) : (s.modSlice n f).scrub = s.scrub := rfl
@[simp] theorem State.modSlice_pwr (s : State) (n : SliceId) (f : Slice → Slice) : (s.modSlice n f).pwr = s.pwr := rfl
@[simp] theorem State.modSlice_ssHeld (s : State) (n : SliceId) (f : Slice → Slice) : (s.modSlice n f).ssHeld = s.ssHeld := rfl
@[simp] theorem State.modSlice_ssRsp (s : State) (n : SliceId) (f : Slice → Slice) : (s.modSlice n f).ssRsp = s.ssRsp := rfl
@[simp] theorem State.modSlice_tap (s : State) (n : SliceId) (f : Slice → Slice) : (s.modSlice n f).tap = s.tap := rfl
@[simp] theorem State.modSlice_free (s : State) (n : SliceId) (f : Slice → Slice) : (s.modSlice n f).free = s.free := rfl
@[simp] theorem State.modSlice_pending (s : State) (n : SliceId) (f : Slice → Slice) : (s.modSlice n f).pending = s.pending := rfl

/-! ### modChan -/
@[simp] theorem State.modChan_build (s : State) (n : ChanId) (f : Chan → Chan) : (s.modChan n f).build = s.build := rfl
@[simp] theorem State.modChan_cores (s : State) (n : ChanId) (f : Chan → Chan) : (s.modChan n f).cores = s.cores := rfl
@[simp] theorem State.modChan_l2 (s : State) (n : ChanId) (f : Chan → Chan) : (s.modChan n f).l2 = s.l2 := rfl
@[simp] theorem State.modChan_ctl (s : State) (n : ChanId) (f : Chan → Chan) : (s.modChan n f).ctl = s.ctl := rfl
@[simp] theorem State.modChan_mem (s : State) (n : ChanId) (f : Chan → Chan) : (s.modChan n f).mem = s.mem := rfl
@[simp] theorem State.modChan_dramUe (s : State) (n : ChanId) (f : Chan → Chan) : (s.modChan n f).dramUe = s.dramUe := rfl
@[simp] theorem State.modChan_pattern (s : State) (n : ChanId) (f : Chan → Chan) : (s.modChan n f).pattern = s.pattern := rfl
@[simp] theorem State.modChan_lostLines (s : State) (n : ChanId) (f : Chan → Chan) : (s.modChan n f).lostLines = s.lostLines := rfl
@[simp] theorem State.modChan_spmCe (s : State) (n : ChanId) (f : Chan → Chan) : (s.modChan n f).spmCe = s.spmCe := rfl
@[simp] theorem State.modChan_spmUe (s : State) (n : ChanId) (f : Chan → Chan) : (s.modChan n f).spmUe = s.spmUe := rfl
@[simp] theorem State.modChan_dirty (s : State) (n : ChanId) (f : Chan → Chan) : (s.modChan n f).dirty = s.dirty := rfl
@[simp] theorem State.modChan_poisoned (s : State) (n : ChanId) (f : Chan → Chan) : (s.modChan n f).poisoned = s.poisoned := rfl
@[simp] theorem State.modChan_remote (s : State) (n : ChanId) (f : Chan → Chan) : (s.modChan n f).remote = s.remote := rfl
@[simp] theorem State.modChan_banks (s : State) (n : ChanId) (f : Chan → Chan) : (s.modChan n f).banks = s.banks := rfl
@[simp] theorem State.modChan_rgn (s : State) (n : ChanId) (f : Chan → Chan) : (s.modChan n f).rgn = s.rgn := rfl
@[simp] theorem State.modChan_movers (s : State) (n : ChanId) (f : Chan → Chan) : (s.modChan n f).movers = s.movers := rfl
@[simp] theorem State.modChan_weeder (s : State) (n : ChanId) (f : Chan → Chan) : (s.modChan n f).weeder = s.weeder := rfl
@[simp] theorem State.modChan_slices (s : State) (n : ChanId) (f : Chan → Chan) : (s.modChan n f).slices = s.slices := rfl
@[simp] theorem State.modChan_smgr (s : State) (n : ChanId) (f : Chan → Chan) : (s.modChan n f).smgr = s.smgr := rfl
@[simp] theorem State.modChan_smOut (s : State) (n : ChanId) (f : Chan → Chan) : (s.modChan n f).smOut = s.smOut := rfl
@[simp] theorem State.modChan_cplWait (s : State) (n : ChanId) (f : Chan → Chan) : (s.modChan n f).cplWait = s.cplWait := rfl
@[simp] theorem State.modChan_dir (s : State) (n : ChanId) (f : Chan → Chan) : (s.modChan n f).dir = s.dir := rfl
@[simp] theorem State.modChan_node (s : State) (n : ChanId) (f : Chan → Chan) : (s.modChan n f).node = s.node := rfl
@[simp] theorem State.modChan_intc (s : State) (n : ChanId) (f : Chan → Chan) : (s.modChan n f).intc = s.intc := rfl
@[simp] theorem State.modChan_tmr (s : State) (n : ChanId) (f : Chan → Chan) : (s.modChan n f).tmr = s.tmr := rfl
@[simp] theorem State.modChan_sys (s : State) (n : ChanId) (f : Chan → Chan) : (s.modChan n f).sys = s.sys := rfl
@[simp] theorem State.modChan_gdn (s : State) (n : ChanId) (f : Chan → Chan) : (s.modChan n f).gdn = s.gdn := rfl
@[simp] theorem State.modChan_ports (s : State) (n : ChanId) (f : Chan → Chan) : (s.modChan n f).ports = s.ports := rfl
@[simp] theorem State.modChan_members (s : State) (n : ChanId) (f : Chan → Chan) : (s.modChan n f).members = s.members := rfl
@[simp] theorem State.modChan_epoch (s : State) (n : ChanId) (f : Chan → Chan) : (s.modChan n f).epoch = s.epoch := rfl
@[simp] theorem State.modChan_tme (s : State) (n : ChanId) (f : Chan → Chan) : (s.modChan n f).tme = s.tme := rfl
@[simp] theorem State.modChan_mc (s : State) (n : ChanId) (f : Chan → Chan) : (s.modChan n f).mc = s.mc := rfl
@[simp] theorem State.modChan_ilv (s : State) (n : ChanId) (f : Chan → Chan) : (s.modChan n f).ilv = s.ilv := rfl
@[simp] theorem State.modChan_scrub (s : State) (n : ChanId) (f : Chan → Chan) : (s.modChan n f).scrub = s.scrub := rfl
@[simp] theorem State.modChan_pwr (s : State) (n : ChanId) (f : Chan → Chan) : (s.modChan n f).pwr = s.pwr := rfl
@[simp] theorem State.modChan_ssHeld (s : State) (n : ChanId) (f : Chan → Chan) : (s.modChan n f).ssHeld = s.ssHeld := rfl
@[simp] theorem State.modChan_ssRsp (s : State) (n : ChanId) (f : Chan → Chan) : (s.modChan n f).ssRsp = s.ssRsp := rfl
@[simp] theorem State.modChan_tap (s : State) (n : ChanId) (f : Chan → Chan) : (s.modChan n f).tap = s.tap := rfl
@[simp] theorem State.modChan_free (s : State) (n : ChanId) (f : Chan → Chan) : (s.modChan n f).free = s.free := rfl
@[simp] theorem State.modChan_pending (s : State) (n : ChanId) (f : Chan → Chan) : (s.modChan n f).pending = s.pending := rfl

/-! ### modQueue -/
@[simp] theorem State.modQueue_build (s : State) (q : Fin 4) (f : GQueue → GQueue) : (s.modQueue q f).build = s.build := rfl
@[simp] theorem State.modQueue_cores (s : State) (q : Fin 4) (f : GQueue → GQueue) : (s.modQueue q f).cores = s.cores := rfl
@[simp] theorem State.modQueue_l2 (s : State) (q : Fin 4) (f : GQueue → GQueue) : (s.modQueue q f).l2 = s.l2 := rfl
@[simp] theorem State.modQueue_ctl (s : State) (q : Fin 4) (f : GQueue → GQueue) : (s.modQueue q f).ctl = s.ctl := rfl
@[simp] theorem State.modQueue_mem (s : State) (q : Fin 4) (f : GQueue → GQueue) : (s.modQueue q f).mem = s.mem := rfl
@[simp] theorem State.modQueue_dramUe (s : State) (q : Fin 4) (f : GQueue → GQueue) : (s.modQueue q f).dramUe = s.dramUe := rfl
@[simp] theorem State.modQueue_pattern (s : State) (q : Fin 4) (f : GQueue → GQueue) : (s.modQueue q f).pattern = s.pattern := rfl
@[simp] theorem State.modQueue_lostLines (s : State) (q : Fin 4) (f : GQueue → GQueue) : (s.modQueue q f).lostLines = s.lostLines := rfl
@[simp] theorem State.modQueue_spmCe (s : State) (q : Fin 4) (f : GQueue → GQueue) : (s.modQueue q f).spmCe = s.spmCe := rfl
@[simp] theorem State.modQueue_spmUe (s : State) (q : Fin 4) (f : GQueue → GQueue) : (s.modQueue q f).spmUe = s.spmUe := rfl
@[simp] theorem State.modQueue_dirty (s : State) (q : Fin 4) (f : GQueue → GQueue) : (s.modQueue q f).dirty = s.dirty := rfl
@[simp] theorem State.modQueue_poisoned (s : State) (q : Fin 4) (f : GQueue → GQueue) : (s.modQueue q f).poisoned = s.poisoned := rfl
@[simp] theorem State.modQueue_remote (s : State) (q : Fin 4) (f : GQueue → GQueue) : (s.modQueue q f).remote = s.remote := rfl
@[simp] theorem State.modQueue_banks (s : State) (q : Fin 4) (f : GQueue → GQueue) : (s.modQueue q f).banks = s.banks := rfl
@[simp] theorem State.modQueue_rgn (s : State) (q : Fin 4) (f : GQueue → GQueue) : (s.modQueue q f).rgn = s.rgn := rfl
@[simp] theorem State.modQueue_movers (s : State) (q : Fin 4) (f : GQueue → GQueue) : (s.modQueue q f).movers = s.movers := rfl
@[simp] theorem State.modQueue_weeder (s : State) (q : Fin 4) (f : GQueue → GQueue) : (s.modQueue q f).weeder = s.weeder := rfl
@[simp] theorem State.modQueue_slices (s : State) (q : Fin 4) (f : GQueue → GQueue) : (s.modQueue q f).slices = s.slices := rfl
@[simp] theorem State.modQueue_smgr (s : State) (q : Fin 4) (f : GQueue → GQueue) : (s.modQueue q f).smgr = s.smgr := rfl
@[simp] theorem State.modQueue_smOut (s : State) (q : Fin 4) (f : GQueue → GQueue) : (s.modQueue q f).smOut = s.smOut := rfl
@[simp] theorem State.modQueue_cplWait (s : State) (q : Fin 4) (f : GQueue → GQueue) : (s.modQueue q f).cplWait = s.cplWait := rfl
@[simp] theorem State.modQueue_dir (s : State) (q : Fin 4) (f : GQueue → GQueue) : (s.modQueue q f).dir = s.dir := rfl
@[simp] theorem State.modQueue_node (s : State) (q : Fin 4) (f : GQueue → GQueue) : (s.modQueue q f).node = s.node := rfl
@[simp] theorem State.modQueue_intc (s : State) (q : Fin 4) (f : GQueue → GQueue) : (s.modQueue q f).intc = s.intc := rfl
@[simp] theorem State.modQueue_chans (s : State) (q : Fin 4) (f : GQueue → GQueue) : (s.modQueue q f).chans = s.chans := rfl
@[simp] theorem State.modQueue_tmr (s : State) (q : Fin 4) (f : GQueue → GQueue) : (s.modQueue q f).tmr = s.tmr := rfl
@[simp] theorem State.modQueue_sys (s : State) (q : Fin 4) (f : GQueue → GQueue) : (s.modQueue q f).sys = s.sys := rfl
@[simp] theorem State.modQueue_ports (s : State) (q : Fin 4) (f : GQueue → GQueue) : (s.modQueue q f).ports = s.ports := rfl
@[simp] theorem State.modQueue_members (s : State) (q : Fin 4) (f : GQueue → GQueue) : (s.modQueue q f).members = s.members := rfl
@[simp] theorem State.modQueue_epoch (s : State) (q : Fin 4) (f : GQueue → GQueue) : (s.modQueue q f).epoch = s.epoch := rfl
@[simp] theorem State.modQueue_tme (s : State) (q : Fin 4) (f : GQueue → GQueue) : (s.modQueue q f).tme = s.tme := rfl
@[simp] theorem State.modQueue_mc (s : State) (q : Fin 4) (f : GQueue → GQueue) : (s.modQueue q f).mc = s.mc := rfl
@[simp] theorem State.modQueue_ilv (s : State) (q : Fin 4) (f : GQueue → GQueue) : (s.modQueue q f).ilv = s.ilv := rfl
@[simp] theorem State.modQueue_scrub (s : State) (q : Fin 4) (f : GQueue → GQueue) : (s.modQueue q f).scrub = s.scrub := rfl
@[simp] theorem State.modQueue_pwr (s : State) (q : Fin 4) (f : GQueue → GQueue) : (s.modQueue q f).pwr = s.pwr := rfl
@[simp] theorem State.modQueue_ssHeld (s : State) (q : Fin 4) (f : GQueue → GQueue) : (s.modQueue q f).ssHeld = s.ssHeld := rfl
@[simp] theorem State.modQueue_ssRsp (s : State) (q : Fin 4) (f : GQueue → GQueue) : (s.modQueue q f).ssRsp = s.ssRsp := rfl
@[simp] theorem State.modQueue_tap (s : State) (q : Fin 4) (f : GQueue → GQueue) : (s.modQueue q f).tap = s.tap := rfl
@[simp] theorem State.modQueue_free (s : State) (q : Fin 4) (f : GQueue → GQueue) : (s.modQueue q f).free = s.free := rfl
@[simp] theorem State.modQueue_pending (s : State) (q : Fin 4) (f : GQueue → GQueue) : (s.modQueue q f).pending = s.pending := rfl

/-! ### setRegion -/
@[simp] theorem State.setRegion_build (s : State) (r : RegionId) (k : RegionPwr) : (s.setRegion r k).build = s.build := rfl
@[simp] theorem State.setRegion_cores (s : State) (r : RegionId) (k : RegionPwr) : (s.setRegion r k).cores = s.cores := rfl
@[simp] theorem State.setRegion_l2 (s : State) (r : RegionId) (k : RegionPwr) : (s.setRegion r k).l2 = s.l2 := rfl
@[simp] theorem State.setRegion_ctl (s : State) (r : RegionId) (k : RegionPwr) : (s.setRegion r k).ctl = s.ctl := rfl
@[simp] theorem State.setRegion_mem (s : State) (r : RegionId) (k : RegionPwr) : (s.setRegion r k).mem = s.mem := rfl
@[simp] theorem State.setRegion_dramUe (s : State) (r : RegionId) (k : RegionPwr) : (s.setRegion r k).dramUe = s.dramUe := rfl
@[simp] theorem State.setRegion_pattern (s : State) (r : RegionId) (k : RegionPwr) : (s.setRegion r k).pattern = s.pattern := rfl
@[simp] theorem State.setRegion_lostLines (s : State) (r : RegionId) (k : RegionPwr) : (s.setRegion r k).lostLines = s.lostLines := rfl
@[simp] theorem State.setRegion_spmCe (s : State) (r : RegionId) (k : RegionPwr) : (s.setRegion r k).spmCe = s.spmCe := rfl
@[simp] theorem State.setRegion_spmUe (s : State) (r : RegionId) (k : RegionPwr) : (s.setRegion r k).spmUe = s.spmUe := rfl
@[simp] theorem State.setRegion_dirty (s : State) (r : RegionId) (k : RegionPwr) : (s.setRegion r k).dirty = s.dirty := rfl
@[simp] theorem State.setRegion_poisoned (s : State) (r : RegionId) (k : RegionPwr) : (s.setRegion r k).poisoned = s.poisoned := rfl
@[simp] theorem State.setRegion_remote (s : State) (r : RegionId) (k : RegionPwr) : (s.setRegion r k).remote = s.remote := rfl
@[simp] theorem State.setRegion_banks (s : State) (r : RegionId) (k : RegionPwr) : (s.setRegion r k).banks = s.banks := rfl
@[simp] theorem State.setRegion_rgn (s : State) (r : RegionId) (k : RegionPwr) : (s.setRegion r k).rgn = s.rgn := rfl
@[simp] theorem State.setRegion_movers (s : State) (r : RegionId) (k : RegionPwr) : (s.setRegion r k).movers = s.movers := rfl
@[simp] theorem State.setRegion_weeder (s : State) (r : RegionId) (k : RegionPwr) : (s.setRegion r k).weeder = s.weeder := rfl
@[simp] theorem State.setRegion_slices (s : State) (r : RegionId) (k : RegionPwr) : (s.setRegion r k).slices = s.slices := rfl
@[simp] theorem State.setRegion_smgr (s : State) (r : RegionId) (k : RegionPwr) : (s.setRegion r k).smgr = s.smgr := rfl
@[simp] theorem State.setRegion_smOut (s : State) (r : RegionId) (k : RegionPwr) : (s.setRegion r k).smOut = s.smOut := rfl
@[simp] theorem State.setRegion_cplWait (s : State) (r : RegionId) (k : RegionPwr) : (s.setRegion r k).cplWait = s.cplWait := rfl
@[simp] theorem State.setRegion_dir (s : State) (r : RegionId) (k : RegionPwr) : (s.setRegion r k).dir = s.dir := rfl
@[simp] theorem State.setRegion_node (s : State) (r : RegionId) (k : RegionPwr) : (s.setRegion r k).node = s.node := rfl
@[simp] theorem State.setRegion_intc (s : State) (r : RegionId) (k : RegionPwr) : (s.setRegion r k).intc = s.intc := rfl
@[simp] theorem State.setRegion_chans (s : State) (r : RegionId) (k : RegionPwr) : (s.setRegion r k).chans = s.chans := rfl
@[simp] theorem State.setRegion_tmr (s : State) (r : RegionId) (k : RegionPwr) : (s.setRegion r k).tmr = s.tmr := rfl
@[simp] theorem State.setRegion_sys (s : State) (r : RegionId) (k : RegionPwr) : (s.setRegion r k).sys = s.sys := rfl
@[simp] theorem State.setRegion_gdn (s : State) (r : RegionId) (k : RegionPwr) : (s.setRegion r k).gdn = s.gdn := rfl
@[simp] theorem State.setRegion_ports (s : State) (r : RegionId) (k : RegionPwr) : (s.setRegion r k).ports = s.ports := rfl
@[simp] theorem State.setRegion_members (s : State) (r : RegionId) (k : RegionPwr) : (s.setRegion r k).members = s.members := rfl
@[simp] theorem State.setRegion_epoch (s : State) (r : RegionId) (k : RegionPwr) : (s.setRegion r k).epoch = s.epoch := rfl
@[simp] theorem State.setRegion_tme (s : State) (r : RegionId) (k : RegionPwr) : (s.setRegion r k).tme = s.tme := rfl
@[simp] theorem State.setRegion_mc (s : State) (r : RegionId) (k : RegionPwr) : (s.setRegion r k).mc = s.mc := rfl
@[simp] theorem State.setRegion_ilv (s : State) (r : RegionId) (k : RegionPwr) : (s.setRegion r k).ilv = s.ilv := rfl
@[simp] theorem State.setRegion_scrub (s : State) (r : RegionId) (k : RegionPwr) : (s.setRegion r k).scrub = s.scrub := rfl
@[simp] theorem State.setRegion_ssHeld (s : State) (r : RegionId) (k : RegionPwr) : (s.setRegion r k).ssHeld = s.ssHeld := rfl
@[simp] theorem State.setRegion_ssRsp (s : State) (r : RegionId) (k : RegionPwr) : (s.setRegion r k).ssRsp = s.ssRsp := rfl
@[simp] theorem State.setRegion_tap (s : State) (r : RegionId) (k : RegionPwr) : (s.setRegion r k).tap = s.tap := rfl
@[simp] theorem State.setRegion_free (s : State) (r : RegionId) (k : RegionPwr) : (s.setRegion r k).free = s.free := rfl
@[simp] theorem State.setRegion_pending (s : State) (r : RegionId) (k : RegionPwr) : (s.setRegion r k).pending = s.pending := rfl

/-! ### withPort -/
@[simp] theorem State.withPort_build (s : State) (p : PortId) (o : Port) : (s.withPort p o).build = s.build := rfl
@[simp] theorem State.withPort_cores (s : State) (p : PortId) (o : Port) : (s.withPort p o).cores = s.cores := rfl
@[simp] theorem State.withPort_l2 (s : State) (p : PortId) (o : Port) : (s.withPort p o).l2 = s.l2 := rfl
@[simp] theorem State.withPort_ctl (s : State) (p : PortId) (o : Port) : (s.withPort p o).ctl = s.ctl := rfl
@[simp] theorem State.withPort_mem (s : State) (p : PortId) (o : Port) : (s.withPort p o).mem = s.mem := rfl
@[simp] theorem State.withPort_dramUe (s : State) (p : PortId) (o : Port) : (s.withPort p o).dramUe = s.dramUe := rfl
@[simp] theorem State.withPort_pattern (s : State) (p : PortId) (o : Port) : (s.withPort p o).pattern = s.pattern := rfl
@[simp] theorem State.withPort_lostLines (s : State) (p : PortId) (o : Port) : (s.withPort p o).lostLines = s.lostLines := rfl
@[simp] theorem State.withPort_spmCe (s : State) (p : PortId) (o : Port) : (s.withPort p o).spmCe = s.spmCe := rfl
@[simp] theorem State.withPort_spmUe (s : State) (p : PortId) (o : Port) : (s.withPort p o).spmUe = s.spmUe := rfl
@[simp] theorem State.withPort_dirty (s : State) (p : PortId) (o : Port) : (s.withPort p o).dirty = s.dirty := rfl
@[simp] theorem State.withPort_poisoned (s : State) (p : PortId) (o : Port) : (s.withPort p o).poisoned = s.poisoned := rfl
@[simp] theorem State.withPort_remote (s : State) (p : PortId) (o : Port) : (s.withPort p o).remote = s.remote := rfl
@[simp] theorem State.withPort_banks (s : State) (p : PortId) (o : Port) : (s.withPort p o).banks = s.banks := rfl
@[simp] theorem State.withPort_rgn (s : State) (p : PortId) (o : Port) : (s.withPort p o).rgn = s.rgn := rfl
@[simp] theorem State.withPort_movers (s : State) (p : PortId) (o : Port) : (s.withPort p o).movers = s.movers := rfl
@[simp] theorem State.withPort_weeder (s : State) (p : PortId) (o : Port) : (s.withPort p o).weeder = s.weeder := rfl
@[simp] theorem State.withPort_slices (s : State) (p : PortId) (o : Port) : (s.withPort p o).slices = s.slices := rfl
@[simp] theorem State.withPort_smgr (s : State) (p : PortId) (o : Port) : (s.withPort p o).smgr = s.smgr := rfl
@[simp] theorem State.withPort_smOut (s : State) (p : PortId) (o : Port) : (s.withPort p o).smOut = s.smOut := rfl
@[simp] theorem State.withPort_cplWait (s : State) (p : PortId) (o : Port) : (s.withPort p o).cplWait = s.cplWait := rfl
@[simp] theorem State.withPort_dir (s : State) (p : PortId) (o : Port) : (s.withPort p o).dir = s.dir := rfl
@[simp] theorem State.withPort_node (s : State) (p : PortId) (o : Port) : (s.withPort p o).node = s.node := rfl
@[simp] theorem State.withPort_intc (s : State) (p : PortId) (o : Port) : (s.withPort p o).intc = s.intc := rfl
@[simp] theorem State.withPort_chans (s : State) (p : PortId) (o : Port) : (s.withPort p o).chans = s.chans := rfl
@[simp] theorem State.withPort_tmr (s : State) (p : PortId) (o : Port) : (s.withPort p o).tmr = s.tmr := rfl
@[simp] theorem State.withPort_sys (s : State) (p : PortId) (o : Port) : (s.withPort p o).sys = s.sys := rfl
@[simp] theorem State.withPort_gdn (s : State) (p : PortId) (o : Port) : (s.withPort p o).gdn = s.gdn := rfl
@[simp] theorem State.withPort_members (s : State) (p : PortId) (o : Port) : (s.withPort p o).members = s.members := rfl
@[simp] theorem State.withPort_epoch (s : State) (p : PortId) (o : Port) : (s.withPort p o).epoch = s.epoch := rfl
@[simp] theorem State.withPort_tme (s : State) (p : PortId) (o : Port) : (s.withPort p o).tme = s.tme := rfl
@[simp] theorem State.withPort_mc (s : State) (p : PortId) (o : Port) : (s.withPort p o).mc = s.mc := rfl
@[simp] theorem State.withPort_ilv (s : State) (p : PortId) (o : Port) : (s.withPort p o).ilv = s.ilv := rfl
@[simp] theorem State.withPort_scrub (s : State) (p : PortId) (o : Port) : (s.withPort p o).scrub = s.scrub := rfl
@[simp] theorem State.withPort_pwr (s : State) (p : PortId) (o : Port) : (s.withPort p o).pwr = s.pwr := rfl
@[simp] theorem State.withPort_ssHeld (s : State) (p : PortId) (o : Port) : (s.withPort p o).ssHeld = s.ssHeld := rfl
@[simp] theorem State.withPort_ssRsp (s : State) (p : PortId) (o : Port) : (s.withPort p o).ssRsp = s.ssRsp := rfl
@[simp] theorem State.withPort_tap (s : State) (p : PortId) (o : Port) : (s.withPort p o).tap = s.tap := rfl
@[simp] theorem State.withPort_free (s : State) (p : PortId) (o : Port) : (s.withPort p o).free = s.free := rfl
@[simp] theorem State.withPort_pending (s : State) (p : PortId) (o : Port) : (s.withPort p o).pending = s.pending := rfl

/-! ### The fields that the updates set -/
@[simp] theorem State.setCore_cores (s : State) (c : CoreId) (k : Core) : (s.setCore c k).cores = s.cores.set c.val k := rfl
@[simp] theorem State.modBank_banks (s : State) (b : BankId) (f : Bank → Bank) : (s.modBank b f).banks = s.banks.set b.val (f s.banks[b.val]) := rfl
@[simp] theorem State.modSlice_slices (s : State) (n : SliceId) (f : Slice → Slice) :
    (s.modSlice n f).slices = s.slices.set n.val (f s.slices[n.val]) := rfl
@[simp] theorem State.modChan_chans (s : State) (n : ChanId) (f : Chan → Chan) : (s.modChan n f).chans = s.chans.set n.val (f s.chans[n.val]) := rfl
@[simp] theorem State.withPort_ports (s : State) (p : PortId) (o : Port) : (s.withPort p o).ports = s.ports.set p.val o := rfl
@[simp] theorem State.setCore_core_self (s : State) (c : CoreId) (k : Core) : (s.setCore c k).core c = k := by
  simp [State.core, State.setCore]
@[simp] theorem State.setCore_core_other (s : State) (c d : CoreId) (k : Core) (h : c ≠ d) : (s.setCore c k).core d = s.core d := by
  have : c.val ≠ d.val := fun e => h (Fin.ext e)
  simp [State.core, State.setCore, this]
@[simp] theorem State.modCore_core_self (s : State) (c : CoreId) (f : Core → Core) : (s.modCore c f).core c = f (s.core c) :=
  s.setCore_core_self c _
@[simp] theorem State.modCore_core_other (s : State) (c d : CoreId) (f : Core → Core) (h : c ≠ d) : (s.modCore c f).core d = s.core d :=
  s.setCore_core_other c d _ h
@[simp] theorem State.modChan_chan_self (s : State) (n : ChanId) (f : Chan → Chan) : (s.modChan n f).chan n = f (s.chan n) := by
  simp [State.chan, State.modChan]
@[simp] theorem State.setRegion_region_self (s : State) (r : RegionId) (k : RegionPwr) : (s.setRegion r k).region r = k := by
  simp [State.region, State.setRegion]

end Sys2Proof.Machine
end

