-- ==== Sys2Proof/WellFormed.lean ====
section
/-!
DEFINITION. WellFormed.lean: which commands are ones that the spec describes. An operand byte that R69 makes illegal is well formed: the
instruction faults. What is refused here names no event of the block: an operand byte of another row, bytes that are no reserved encoding,
a place outside a store, or a block, frame or burst of a size that its port does not carry.
-/
namespace Sys2Proof

/-- FCVT: bits 3:2 of the operand byte name the row (R199). -/
def fcvtForm (k : Nat) (x : Byte) : Bool := x.toNat / 4 % 4 == k
/-- FSTK and FMOV: the bits above the format name the row (R200). -/
def fstackForm (k : Nat) (x : Byte) : Bool := x.toNat / 4 == k
/-- The body of a repeat: an instruction, or bytes of a reserved encoding (R77, R88). -/
def bodyForm : CoreOp → Bool
  | .reserved b => Machine.isReserved b
  | _ => true
/-- Bytes of one instruction (R65). -/
def bytesForm (b : List Byte) : Bool := decide (1 ≤ b.length) && decide (b.length ≤ 12)
/-- A place in the control store or the dispatch tables (R256, R257). -/
def wordForm (table : Bool) (i : Nat) : Bool := decide (i < if table then 1024 else 16384)
/-- A coupling block: 256 bytes (R497). -/
def blockForm (raw : List Byte) : Bool := raw.length == 256
/-- A frame on the stream port: at most 1,074 bytes (R514). -/
def frameForm (raw : List Byte) : Bool := decide (raw.length ≤ 1074)
/-- One to four beats (R560). -/
def burstForm (n : Nat) : Bool := decide (1 ≤ n) && decide (n ≤ 4)
/-- What a read met: an answer has at most one line of bytes (R504, R561). -/
def returnForm : LoadReturn → Bool
  | .bytes d => decide (d.length ≤ 64)
  | _ => true

/-- Whether a command is well formed. -/
def Instr.wf : Instr → Bool
  | .reservedEncoding _ b => Machine.isReserved b
  | .fcvtFloatToFloat _ x => fcvtForm 0 x
  | .fcvtIntegerToFloat _ x => fcvtForm 1 x
  | .fcvtFloatToInteger _ x => fcvtForm 2 x
  | .fcvtFloatToIntegerTowardZero _ x => fcvtForm 3 x
  | .fdup _ x => fstackForm 0 x
  | .fdrop _ x => fstackForm 1 x
  | .fswap _ x => fstackForm 2 x
  | .fover _ x => fstackForm 3 x
  | .frot _ x => fstackForm 4 x
  | .fpush _ x => fstackForm 0 x
  | .fpop _ x => fstackForm 1 x
  | .rpt _ b _ => bodyForm b
  | .rptn _ _ b => bodyForm b
  | .loadDataReturn _ r => returnForm r
  | .tableWalk _ _ _ b => bytesForm b
  | .wordRepair _ t i => wordForm t i
  | .checkPortScan _ l => l.all (fun e => wordForm e.1 e.2)
  | .ringOscillatorMeasurement l _ => l.length == 4
  | .dataBlock _ raw _ => blockForm raw
  | .nak _ raw _ => blockForm raw
  | .idleBlock _ raw _ => blockForm raw
  | .badTypeBlock _ raw _ => blockForm raw
  | .linkBlock _ raw _ sizes _ _ => blockForm raw && sizes.length == 5
  | .ack raw _ => frameForm raw
  | .write raw _ => frameForm raw
  | .writeRec raw _ => frameForm raw
  | .msg raw _ => frameForm raw
  | .readReq raw _ => frameForm raw
  | .readData raw _ => frameForm raw
  | .tbxReq raw _ => frameForm raw
  | .tbxRsp raw _ => frameForm raw
  | .reservedKindFrame raw _ => frameForm raw
  | .holdingWordWrite _ none r _ => r == .ratio
  | .patrolScrub line _ => decide (line < 2 ^ 32)
  | .ssWrite _ _ beats _ => burstForm beats.length
  | .smResponse _ _ d => decide (d.length ≤ 4)
  | _ => true

end Sys2Proof
end

