-- ==== Sys2Proof/Tests/Slice0.lean ====
section
/-!
SUPPORT. Tests/Slice0.lean: for every statement with hypotheses a theorem that shows a concrete state and operands that meet them together,
at the ends of their ranges where a statement has several clauses; the terms that WellFormed refuses, one for each of its checks; and single
effects whose results the spec works out in its examples. Expected values come from the spec, never from a run of the model.
-/
open Sys2Proof Sys2Proof.Machine
namespace Sys2Proof.Tests

section
-- The kernel evaluates many small facts: one after the other, so that they do not wait for each other in threads of their own.
set_option Elab.async false

/-! ### Witnesses -/

/-- A complex that runs: every clock on, every region in RUN, DRAM trained, core 0 running at 0x1000. -/
def on : State := { State.reset with
  pwr := { por := false, start := .running, clkreq := 0x1FFFF, clkack := 0x1FFFF, rgn := Vector.replicate 4 { state := 0 } },
  mc := Vector.replicate 4 { cap := 64, ranks := 1, present := 1, dens := 2 },
  cores := State.reset.cores.set 0 { run := .run, pc := 0x1000 } }

/-- `on` with core 0 changed. -/
def onk (f : Core → Core) : State := on.modCore 0 f

/-- `on` with the operand stack of core 0, and 64 bytes of memory at 0x2000. -/
def ops (l : List Word) : State := { onk (fun k => k.setOps l) with mem := (List.range 64).map (fun i => (0x2000 + i, BitVec.ofNat 8 (0x80 + 7 * i))) }

/-- An empty queue. -/
theorem witness_StepRunsFrontCommand :
    on.pending = [] :=
  by decide +kernel

/-- NOP; SWAP2 on a frame that holds just its operands; PICK 31; DEPTH; the literal 10. -/
theorem witness_StackAndLiteralResults :
    Ready 0 .nop on ∧ Ready 0 (.stk .swap2) (ops [4, 3, 2, 1]) ∧ ((ops [4, 3, 2, 1]).core 0).holds (stkTable .swap2 1 2 3 4).1.reverse [] ∧
    (((ops [4, 3, 2, 1]).core 0).setOps []).room 4 ∧ Ready 0 (.pick 31) (ops (List.replicate 31 0 ++ [7])) ∧
    ((ops (List.replicate 31 0 ++ [7])).core 0).holds (List.replicate 31 0 ++ [7]) [] ∧
    ((ops (List.replicate 31 0 ++ [7])).core 0).room 1 ∧ Ready 0 .depth on ∧ (on.core 0).room 1 ∧
    ((.lit0ToLit10 0 10, .lit 10, 10, 1) : Instr × CoreOp × Word × Nat) ∈ literalTable 0 0x1000 10 0 0 0 0 ∧ Ready 0 (.lit 10) on :=
  ⟨ready_of (by decide +kernel), ready_of (by decide +kernel), holds_of (by decide +kernel), room_of (by decide +kernel),
   ready_of (by decide +kernel), holds_of (by decide +kernel), room_of (by decide +kernel), ready_of (by decide +kernel),
   room_of (by decide +kernel), by simp [literalTable], ready_of (by decide +kernel)⟩

/-- DIVS of the most negative number by -1; ROR; SHLI 63; ADDI32; ANDI32; INS of all 64 bits. -/
theorem witness_IntegerResults :
    Ready 0 (.alu .divs) (ops [-1, 1 <<< 63]) ∧ (aluTable .divs (1 <<< 63) (-1) 0).2 = some (1 <<< 63) ∧
    ((ops [-1, 1 <<< 63]).core 0).holds (aluTable .divs (1 <<< 63) (-1) 0).1.reverse [] ∧
    (((ops [-1, 1 <<< 63]).core 0).setOps []).room 1 ∧ Ready 0 (.aluB .shli 63) (ops [1]) ∧ aluBTable .shli 1 63 = some (1 <<< 63) ∧
    ((ops [1]).core 0).holds [1] [] ∧ Ready 0 (.aluW .addi32 0x8000_0000) (ops [1]) ∧ Ready 0 (.aluW .andi32 0x8000_0000) (ops [1]) ∧
    Ready 0 (.fld .ins 0 63) (ops [1, 2]) ∧ ((ops [1, 2]).core 0).holds (fieldTable .ins 2 1 0 64).1.reverse [] :=
  ⟨ready_of (by decide +kernel), by decide +kernel, holds_of (by decide +kernel), room_of (by decide +kernel),
   ready_of (by decide +kernel), by decide +kernel, holds_of (by decide +kernel), ready_of (by decide +kernel),
   ready_of (by decide +kernel), ready_of (by decide +kernel), holds_of (by decide +kernel)⟩

/-- A branch taken and one not taken; DO with count 0 and 1; LOOP with count 1 and 2; LEAVE. -/
theorem witness_BranchAndLoopResults :
    Ready 0 (.br .lt 0x80) (ops [5, -1]) ∧ ((ops [5, -1]).core 0).holds (branchTable .lt (-1) 5).1.reverse [] ∧
    (branchTable .lt (-1) 5).2 ∧ ¬(branchTable .ltu (-1) 5).2 ∧ Ready 0 (.brW .ltu 0x8000) (ops [5, -1]) ∧
    Ready 0 (.doLoop 0x80) (ops [0]) ∧ Ready 0 (.doW 0x80) (ops [1]) ∧ ((ops [1]).core 0).holds [1] [] ∧ ((ops [1]).core 0).retRoom ∧
    Ready 0 .loop (onk (fun k => k.setRets [.loop 0x900 1])) ∧
    ((onk (fun k => k.setRets [.loop 0x900 1])).core 0).retTop (.loop 0x900 1) [] ∧
    ((onk (fun k => k.setRets [.loop 0x900 2])).core 0).retTop (.loop 0x900 2) [] ∧
    Ready 0 .leave (onk (fun k => k.setRets [.loop 0x900 1])) :=
  ⟨ready_of (by decide +kernel), holds_of (by decide +kernel), by unfold branchTable; decide, by unfold branchTable; decide,
   ready_of (by decide +kernel), ready_of (by decide +kernel), ready_of (by decide +kernel), holds_of (by decide +kernel),
   retRoom_of (by decide +kernel), ready_of (by decide +kernel), retTop_of (by decide +kernel), retTop_of (by decide +kernel),
   ready_of (by decide +kernel)⟩

/-- `on` inside a call: two entries below the frame, two in it. -/
def inCall : State := (ops [1, 2, 3, 4]).modCore 0 (fun k => (k.setRets [.call 0x77 1]).setBase 2)

/-- Calls of as many arguments as the frame holds; returns of one result and of none; the jumps. -/
theorem witness_CallReturnAndJumpResults :
    Ready 0 (.call 4 0x8000) (ops [1, 2, 3, 4]) ∧ 4 ≤ ((ops [1, 2, 3, 4]).core 0).frame ∧ ((ops [1, 2, 3, 4]).core 0).retRoom ∧
    Ready 0 (.callL 4 0) (ops [1, 2, 3, 4]) ∧ Ready 0 (.calli 3) (ops [1, 2, 3, 4]) ∧ ((ops [1, 2, 3, 4]).core 0).holds [1] [2, 3, 4] ∧
    Ready 0 (.ret012 1) inCall ∧ Ready 0 (.ret 2) inCall ∧ (inCall.core 0).ops = [1] ++ [2] ++ [3, 4] ∧ (inCall.core 0).frame = 2 ∧
    (inCall.core 0).retTop (.call 0x77 1) [] ∧ ((((inCall.core 0).setOps [3, 4]).setRets [])).room 1 ∧ Ready 0 (.jmpL 5) on ∧
    Ready 0 .jmpi (ops [1]) ∧ Ready 0 (.jmpa 7) on :=
  ⟨ready_of (by decide +kernel), by decide +kernel, retRoom_of (by decide +kernel), ready_of (by decide +kernel),
   ready_of (by decide +kernel), holds_of (by decide +kernel), ready_of (by decide +kernel), ready_of (by decide +kernel),
   by decide +kernel, by decide +kernel, retTop_of (by decide +kernel), room_of (by decide +kernel), ready_of (by decide +kernel),
   ready_of (by decide +kernel), ready_of (by decide +kernel)⟩

/-- The highest entry of the frame and the first one past it; STL beside the value. -/
theorem witness_FrameEntryAccess :
    Ready 0 (.ldl 3) (ops [1, 2, 3, 4]) ∧ ((ops [1, 2, 3, 4]).core 0).frame = 4 ∧ ((ops [1, 2, 3, 4]).core 0).room 1 ∧
    Ready 0 (.ldl 4) (ops [1, 2, 3, 4]) ∧ Ready 0 (.stl 2) (ops [1, 2, 3, 4]) ∧ Ready 0 (.stl 3) (ops [1, 2, 3, 4]) :=
  ⟨ready_of (by decide +kernel), by decide +kernel, room_of (by decide +kernel), ready_of (by decide +kernel),
   ready_of (by decide +kernel), ready_of (by decide +kernel)⟩

/-- LD64 at the last eight bytes of a page; XLAT; ST64; each without an entry in the store buffer; a bank of the core. -/
theorem witness_LoadAndStoreResults :
    (⟨.ld64 0, .ld 3 false, [0x2FF8], 0x2FF8, 3, none⟩ : MemForm) ∈ loadForms 0 on.cores[0] 0x2FF8 0 0 0 0 0 ∧
    (⟨.ld64 0, .ld 3 false, [0x2FF8], 0x2FF8, 3, none⟩ : MemForm).legalLoad ∧ Ready 0 (.ld 3 false) (ops [0x2FF8]) ∧
    ((ops [0x2FF8]).core 0).holds [0x2FF8] [] ∧ (((ops [0x2FF8]).core 0).setOps []).room 1 ∧ DataAt 0 (ops [0x2FF8]) 0x2FF8 8 0x2FF8 ∧
    ((ops [0x2FF8]).core 0).reads (ops [0x2FF8]).mem 0x2FF8 8 (memRead (ops [0x2FF8]).mem 0x2FF8 8) ∧ Ready 0 (.xlat 0) (ops [2, 0x2000]) ∧
    DataAt 0 (ops [2, 0x2000]) 0x2002 1 0x2002 ∧
    (⟨.st64 0, .st 3, [0x2FF8], 0x2FF8, 3, none⟩ : MemForm) ∈ storeForms 0 on.cores[0] 0x2FF8 0 0 0 0 ∧ Ready 0 (.st 3) (ops [0x2FF8, 5]) ∧
    ((ops [0x2FF8, 5]).core 0).holds ([0x2FF8] ++ [5]) [] ∧ ((ops []).core 0).sbRoom 2 ∧
    DataAt 0 { on with banks := on.banks.set 0 { owner := 0, pstate := 0, handoverDone := true } } 0x80_0000_0000 8 0x80_0000_0000 :=
  ⟨by simp [loadForms], by simp [MemForm.legalLoad, MemForm.signed], ready_of (by decide +kernel), holds_of (by decide +kernel),
   room_of (by decide +kernel), dataAt_of (by decide +kernel), reads_of_mem (by decide +kernel) rfl, ready_of (by decide +kernel),
   dataAt_of (by decide +kernel), by simp [storeForms], ready_of (by decide +kernel), holds_of (by decide +kernel),
   sbRoom_of (by decide +kernel), dataAtSpm_of (b := 0) (by decide +kernel)⟩

/-- `ops` with one entry in the store buffer of core 0, its bytes at 0x2000 and 0x2002. -/
def sb1 (l : List Word) : State := (ops l).modCore 0 (fun k => { k with
  sb := [⟨0x2000, [some 1, none, some 2] ++ List.replicate 13 none, .cacheable, 0x2000, 0, 0, none, false⟩] })

/-- A store buffer with one entry. -/
theorem witness_StoreBufferDrainKeepsWhatTheCoreSees :
    on.hasCore 0 = true ∧ coreClocked (sb1 []) 0 = true ∧
    ((sb1 []).core 0).sb.map (fun e => (e.mop, e.sent, e.bytes.length, e.addr)) = [(none, false, 16, 0x2000)] ∧
    target (sb1 []) 0x2000 = .dram 0x2000 ∧ (sb1 []).sound ∧ (sb1 []).noLog ∧ (sb1 []).remote = [] ∧ Memory.wf (sb1 []).mem = true :=
  ⟨by decide +kernel, by decide +kernel, by decide +kernel, by decide +kernel, sound_of (by decide +kernel),
   noLog_of (by decide +kernel), by decide +kernel, by decide +kernel⟩

/-- CAS32 at an aligned address and at an unaligned one. -/
theorem witness_AtomicResults :
    Ready 0 (.atom .cas false) (ops [1, 2, 0x2FFC]) ∧ ((ops [1, 2, 0x2FFC]).core 0).holds [1, 2, 0x2FFC] [] ∧
    DataAt 0 (ops [1, 2, 0x2FFC]) 0x2FFC 4 0x2FFC ∧ ((ops [1, 2, 0x2FFC]).core 0).sb = [] ∧ (ops [1, 2, 0x2FFC]).noLog ∧
    (((ops [1, 2, 0x2FFC]).core 0).setOps []).room 1 ∧ Ready 0 (.atom .xadd true) (ops [1, 0x2004]) ∧ (0x2004 : Word).toNat % 8 ≠ 0 :=
  ⟨ready_of (by decide +kernel), holds_of (by decide +kernel), dataAt_of (by decide +kernel), by decide +kernel,
   noLog_of (by decide +kernel), room_of (by decide +kernel), ready_of (by decide +kernel), by decide +kernel⟩

/-- A division by 0; SHLI 64; SWAP, ADD and B.EQ on a frame of one entry. -/
theorem witness_PreciseFaults :
    Ready 0 (.alu .divs) (ops [0, 1]) ∧ ((ops [0, 1]).core 0).holds [0, 1] [] ∧ Ready 0 (.aluB .shli 64) (ops [1]) ∧
    Ready 0 (.stk .swap) (ops [1]) ∧ ((ops [1]).core 0).frame < (stkTable .swap 0 0 0 0).1.length ∧ Ready 0 (.alu .add) (ops [1]) ∧
    ((ops [1]).core 0).frame < (aluTable .add 0 0 0).1.length ∧ Ready 0 (.br .eq 5) (ops [1]) ∧
    ((ops [1]).core 0).frame < (branchTable .eq 0 0).1.length :=
  ⟨ready_of (by decide +kernel), holds_of (by decide +kernel), ready_of (by decide +kernel), ready_of (by decide +kernel),
   by decide +kernel, ready_of (by decide +kernel), by decide +kernel, ready_of (by decide +kernel), by decide +kernel⟩

/-- `on` with core 0 in PL `pl`. -/
def inPl (pl : Word) (s : State) : State := s.modCore 0 (fun k => { k with cstat := k.cstat ||| pl })

/-- CRD of DBGSTAT in PL0 and in PL1; CRD of FPCTL with FEN = 0; CWR of SAVEHEAD in PL1 and PL2, of CSTAT, of CORE_ID, and of a number that names no register. -/
theorem witness_ControlRegisterAccess :
    (0x078, 0, (on.core 0).dbgstat) ∈ crdTable on 0 ∧ Ready 0 (.crd 0x78) on ∧ cregFault (on.core 0) 0x78 = none ∧ (on.core 0).room 1 ∧
    Ready 0 (.crd 0x78) (inPl 1 on) ∧ 0 < ((inPl 1 on).core 0).pl.toNat ∧ Ready 0 (.crd 0x31) on ∧ cregFault (on.core 0) 0x31 = some 3 ∧
    (0x005, 1, { ((ops [-1]).core 0).setOps [] with savehead := 0xFFFF_FFFF_FFFF_FFC0 }) ∈ cwrTable (((ops [-1]).core 0).setOps []) (-1) ∧
    Ready 0 (.cwr 5) (inPl 1 (ops [-1])) ∧ ((inPl 1 (ops [-1])).core 0).holds [-1] [] ∧ Ready 0 (.cwr 5) (inPl 2 (ops [-1])) ∧
    Ready 0 (.cwr 0) (inPl 1 (ops [1])) ∧ ((inPl 1 (ops [1])).core 0).pl.toNat ≤ (1 : Word).toNat % 4 ∧
    Ready 0 (.cwr 0x51) (inPl 1 (ops [1])) ∧ Ready 0 (.crd 6) on ∧ Ready 0 (.cwr 0xFFFF) (ops [1]) :=
  ⟨by simp [crdTable], ready_of (by decide +kernel), by decide +kernel, room_of (by decide +kernel), ready_of (by decide +kernel),
   by decide +kernel, ready_of (by decide +kernel), by decide +kernel, by simp [cwrTable], ready_of (by decide +kernel),
   holds_of (by decide +kernel), ready_of (by decide +kernel), ready_of (by decide +kernel), by decide +kernel,
   ready_of (by decide +kernel), ready_of (by decide +kernel), ready_of (by decide +kernel)⟩

/-- Core 0 unmasked (ML 0), with a TSB at 0x4000 and a vector base. -/
def open0 : State := onk (fun k => { k with cstat := 0xC0, tsbp := 0x4000, vecbase := 0x10_0000, xp := 3 })
/-- Core 0 in PL1 of slice 1, whose host entry block is at 0x5000. -/
def open1 : State := { open0.modCore 0 (fun k => { k with cstat := 0xC1, slice := 1, pid := 1 }) with
  slices := on.slices.set 1 { state := 1, heb := 0x5000 }
  mem := [(0x5008, 2), (0x5012, 0x20), (0x5019, 0x60), (0x5020, 1)] }

/-- SYSCALL in PL0; HYPCALL in PL1 as a host entry, and in PL2; ILL, a reserved byte and BRK. -/
theorem witness_EventInstructionsEnter :
    Ready 0 (.syscall 0xFF) open0 ∧
    Enters 0 open0 { f := { cause := 0x20 }, level := 7, pc := (open0.core 0).pc + 2, pl := 0, code := 0xFF } 0x4000 0 ∧
    Ready 0 (.hypcall 1) open1 ∧ (open1.core 0).pl.toNat ≤ 1 ∧
    Enters 0 open1 { f := { cause := 0x21 }, level := 7, pc := (open1.core 0).pc + 2, pl := 0, code := 1 } 0x6000 0x5000 ∧
    Ready 0 (.hypcall 1) (inPl 2 open0) ∧ 1 < ((inPl 2 open0).core 0).pl.toNat ∧ Ready 0 .ill open0 ∧
    Enters 0 open0 (faultEvent (open0.core 0) { cause := 0x01 } [0x0F]) 0x4000 0 ∧
    Poised 0 [0xFF] (classOf open0 0 (.reserved [0xFF]) [0xFF]) open0 ∧
    (opRoute open0 0 (.reserved [0xFF]) [0xFF] = .native ∨ opRoute open0 0 (.reserved [0xFF]) [0xFF] = .illegal) ∧
    isReserved [0xFF] = true ∧ Enters 0 open0 (faultEvent (open0.core 0) { cause := 0x01 } [0xFF]) 0x4000 0 ∧ Ready 0 .brk open0 ∧
    (open0.core 0).dbgctl.getLsbD 6 = false ∧ Enters 0 open0 (faultEvent (open0.core 0) { cause := 0x1B } [0xCB]) 0x4000 0 :=
  ⟨ready_of (by decide +kernel), enters_of (by decide +kernel), ready_of (by decide +kernel), by decide +kernel,
   entersHost_of (by decide +kernel), ready_of (by decide +kernel), by decide +kernel, ready_of (by decide +kernel),
   enters_of (by decide +kernel), poised_of (by decide +kernel), by decide +kernel, by decide +kernel, enters_of (by decide +kernel),
   ready_of (by decide +kernel), by decide +kernel, enters_of (by decide +kernel)⟩

/-- `open0` with source 1216 pending at level 3. -/
def irq0 : State := { open0 with intc := { open0.intc with
  pend := setBitAt open0.intc.pend 1216 true, mask := open0.intc.mask.set 38 0, level := open0.intc.level.set 38 3 } }

/-- A single step due; a machine check; a late store error; an interrupt of level 3 from its own slice. -/
theorem witness_EventEntryTakesTheDueEvent :
    coreLive open0 0 = true ∧ (open0.core 0).run = .run ∧ inStretch (open0.core 0) = false ∧ (open0.core 0).lastIssue = none ∧
    Enters 0 (open0.modCore 0 (fun k => { k with stepDue := true })) { f := { cause := 0x1A }, level := 7, pc := 0x1000, pl := 0 } 0x4000 0 ∧
    Enters 0 (open0.modCore 0 (fun k => { k with mcheck := some { cause := 4, pa := 7, at? := none } })) { f := { cause := 0x40, faddr2 := 7 }, level := 6, pc := 0x1000, pl := 0, mc := some (4, false) } 0x4000 0 ∧
    Enters 0 (open0.modCore 0 (fun k => { k with late := [0x3000] })) { f := { cause := 0x41, faddr2 := 0x3000 }, level := 6, pc := 0x1000, pl := 0 } 0x4000 0 ∧
    intrDue irq0 0 0 = some (3, true) ∧ Enters 0 irq0 { f := { cause := 0x53 }, level := 3, pc := 0x1000, pl := 0 } 0x4000 0 :=
  ⟨by decide +kernel, by decide +kernel, by decide +kernel, by decide +kernel, enters_of (by decide +kernel),
   enters_of (by decide +kernel), enters_of (by decide +kernel), by decide +kernel, enters_of (by decide +kernel)⟩

/-- A TSB in PL0 that returns to PC 0x7000 in PL1, ML 0, depth 1 of 2, no return entry. -/
def tsb0 : State := { open0.modCore 0 (fun k => { (k.setOps [1, 2]).setBase 2 with tsbceil := 1 }) with
  mem := [(0x4001, 0x70), (0x4008, 0xC1), (0x4038, 1)] }

/-- A return from PL0 to PL1; a saved PL of 0b11; a host TSB in PL1; PL2. -/
theorem witness_ReturnFromEvent :
    Ready 0 .retx tsb0 ∧ ((tsb0.core 0).trapWin = none ∧ (tsb0.core 0).dfWin = none) ∧ (tsb0.slice (tsb0.core 0).slice).s2en = false ∧
    target tsb0 (tsb0.core 0).tsbp.toNat = .dram 0x4000 ∧ (tsb0.core 0).sb = [] ∧ tsb0.sound ∧
    ((tsbFlags tsb0 0x4000).testBit 3 = false ∧ (tsbFlags tsb0 0x4000).testBit 0 = false) ∧
    ((tsb0.core 0).tsbceil.toNat % 4 ≤ (memWord tsb0 0x4000 8).toNat % 4 ∧ (tsb0.core 0).pl.toNat ≤ (memWord tsb0 0x4000 8).toNat % 4) ∧
    ((memWord tsb0 0x4000 8).toNat % 4 ≠ 3 ∧ (memWord tsb0 0x4000 8).getLsbD 5 = false) ∧
    ((memWord tsb0 0x4000 0x38).toNat ≤ (tsb0.core 0).stk.depth ∧ (memWord tsb0 0x4000 0x40).toNat / 2 ^ 32 ≤ (tsb0.core 0).rstk.depth) ∧
    Ready 0 .retx { tsb0 with mem := memSet tsb0.mem 0x4008 3 } ∧
    (memWord { tsb0 with mem := memSet tsb0.mem 0x4008 3 } 0x4000 8).toNat % 4 = 3 ∧ Ready 0 .retx (inPl 2 tsb0) ∧
    2 ≤ ((inPl 2 tsb0).core 0).pl.toNat :=
  ⟨ready_of (by decide +kernel), by decide +kernel, by decide +kernel, by decide +kernel, by decide +kernel,
   sound_of (by decide +kernel), by decide +kernel, by decide +kernel, by decide +kernel, by decide +kernel,
   ready_of (by decide +kernel), by decide +kernel, ready_of (by decide +kernel), by decide +kernel⟩

/-- A TLB entry of slice 0. -/
def tlbe (k : TlbKind) (pid : BitVec 16) (inp bits : Nat) (glob : Bool) : TlbEntry :=
  { kind := k, slice := 0, pid := pid, inp := inp, bits := bits, pa := 0x9000, glob := glob, w1 := true, x1 := true, u1 := true, nc := false, gpa := inp, w2 := true, x2 := true }

/-- A fence with an empty buffer and with one entry; WAIT with nothing pending, with a view bit set and in PL2; WAIT_END; TLBI by address and PID in PL1, of stage 2 in PL0 and PL1. -/
theorem witness_FencesWaitsAndInvalidations :
    Ready 0 .fenceO (ops []) ∧ ((ops []).core 0).sb = [] ∧ Ready 0 .fenceI (sb1 []) ∧
    ((sb1 []).core 0).sb.map (fun e => (e.mop, e.sent, e.bytes.length, e.addr)) = [(none, false, 16, 0x2000)] ∧ (sb1 []).sound ∧
    (sb1 []).noLog ∧ Ready 0 .wait on ∧ viewAny on 0 = false ∧
    ((on.core 0).mcheck = none ∧ (on.core 0).late = [] ∧ (on.core 0).haltReq = false) ∧ viewAny irq0 0 = true ∧ Ready 0 .wait (inPl 2 on) ∧
    coreLive (onk (fun k => { k with run := .wait })) 0 = true ∧ Ready 0 (.tlbi 3) (inPl 1 (ops [7, 0x2000])) ∧
    ((inPl 1 (ops [7, 0x2000])).core 0).holds [7, 0x2000] [] ∧ ((inPl 1 (ops [7, 0x2000])).core 0).pl.toNat ≤ 1 ∧ Ready 0 (.tlbi 4) on ∧
    (on.core 0).pl.toNat ≤ 0 ∧ Ready 0 (.tlbi 4) (inPl 1 on) ∧ 0 < ((inPl 1 on).core 0).pl.toNat :=
  ⟨ready_of (by decide +kernel), by decide +kernel, ready_of (by decide +kernel), by decide +kernel, sound_of (by decide +kernel),
   noLog_of (by decide +kernel), ready_of (by decide +kernel), viewAny_quiet (by decide +kernel) 0, by decide +kernel,
   by decide +kernel, ready_of (by decide +kernel), by decide +kernel, ready_of (by decide +kernel), holds_of (by decide +kernel),
   by decide +kernel, ready_of (by decide +kernel), by decide +kernel, ready_of (by decide +kernel), by decide +kernel⟩

/-- DC.INV in PL1 and PL2 with seven entries in the store buffer; IC.INVALL; the locks and UNLOCK in PL1. -/
theorem witness_CacheOperationResults :
    Ready 0 (.cache 1) (inPl 1 (ops [0x203F])) ∧ ((inPl 1 (ops [0x203F])).core 0).holds [0x203F] [] ∧
    DataAt 0 (inPl 1 (ops [0x203F])) 0x203F 1 0x203F ∧ target (inPl 1 (ops [0x203F])) 0x203F = .dram 0x203F ∧
    ((inPl 1 (ops [0x203F])).core 0).sb.length < 8 ∧ Ready 0 (.cache 1) (inPl 2 (ops [0x203F])) ∧
    1 < ((inPl 2 (ops [0x203F])).core 0).pl.toNat ∧ Ready 0 (.cache 4) (inPl 1 on) ∧ Ready 0 (.cache 5) (inPl 1 (ops [0x203F])) ∧
    Ready 0 (.cache 6) (inPl 1 (ops [0x203F])) ∧ Ready 0 (.cache 7) (inPl 1 (ops [0x203F])) ∧
    (∀ e ∈ ((inPl 1 (ops [0x203F])).core 0).l1i, e.locked = false) ∧ ((inPl 1 (ops [0x203F])).core 0).pl.toNat ≤ 1 :=
  ⟨ready_of (by decide +kernel), holds_of (by decide +kernel), dataAt_of (by decide +kernel), by decide +kernel, by decide +kernel,
   ready_of (by decide +kernel), by decide +kernel, ready_of (by decide +kernel), ready_of (by decide +kernel),
   ready_of (by decide +kernel), ready_of (by decide +kernel), by decide +kernel, by decide +kernel⟩

/-- Lengths of 0; a MOVE, CRC32 and CMPS of sixteen bytes on aligned blocks; a FILL of sixteen bytes and one of seventeen. -/
theorem witness_BlockOperationResults :
    ((ops [0, 2, 1]).core 0).holds [0, 2, 1] [] ∧ Ready 0 .move (ops [0, 2, 1]) ∧ Ready 0 .fill (ops [0, 2, 1]) ∧
    Ready 0 .crc32 (ops [0, 2, 1]) ∧ Ready 0 .cmps (ops [0, 2, 1]) ∧ Ready 0 .move (ops [16, 0x2000, 0x3000]) ∧
    ((ops [16, 0x2000, 0x3000]).core 0).holds [16, 0x2000, 0x3000] [] ∧ DataAt 0 (ops [16, 0x2000, 0x3000]) 0x2000 16 0x2000 ∧
    DataAt 0 (ops [16, 0x2000, 0x3000]) 0x3000 16 0x3000 ∧
    ((ops [16, 0x2000, 0x3000]).core 0).reads (ops [16, 0x2000, 0x3000]).mem 0x2000 16 (memRead (ops [16, 0x2000, 0x3000]).mem 0x2000 16) ∧
    ((ops [16, 0x2000, 0x3000]).core 0).sbRoom 1 ∧ Ready 0 .fill (ops [17, 5, 0x3000]) ∧
    ((ops [17, 5, 0x3000]).core 0).holds [17, 5, 0x3000] [] ∧ (16 : Nat) = min (17 : Word).toNat (16 - (0x3000 : Word).toNat % 16) ∧
    Ready 0 .crc32 (ops [16, 0x2000, 1]) ∧ Ready 0 .cmps (ops [1, 0x2001, 0x2000]) ∧
    (memRead (ops []).mem 0x2000 1 = [] ++ 0x80 :: [] ∧ memRead (ops []).mem 0x2001 1 = [] ++ 0x87 :: []) :=
  ⟨holds_of (by decide +kernel), ready_of (by decide +kernel), ready_of (by decide +kernel), ready_of (by decide +kernel),
   ready_of (by decide +kernel), ready_of (by decide +kernel), holds_of (by decide +kernel), dataAt_of (by decide +kernel),
   dataAt_of (by decide +kernel), reads_of_mem (by decide +kernel) rfl, sbRoom_of (by decide +kernel), ready_of (by decide +kernel),
   holds_of (by decide +kernel), by decide +kernel, ready_of (by decide +kernel), ready_of (by decide +kernel), by decide +kernel⟩

/-- Counts 0 and 1 of RPT INC, 64 of RPTN INC, and a body that does not repeat. -/
theorem witness_RepeatResults :
    repeatable (.alu .inc) = true ∧ Poised 0 (0xF0 :: opBytes (.alu .inc)) .other (ops [0, 9]) ∧
    (((ops [0, 9]).core 0).rep = none ∧ ((ops [0, 9]).core 0).mid = false) ∧ ((ops [0, 9]).core 0).holds [0] [9] ∧
    Poised 0 [0xF0, 0x23] .other (ops [1, 9]) ∧ opRoute (ops [1, 9]) 0 (.alu .inc) [0x23] = .native ∧ eventDue (ops [1, 9]) 0 = false ∧
    ((ops [1, 9]).core 0).holds [BitVec.ofNat 64 1, 9] [] ∧ (((ops [1, 9]).core 0).setOps []).room 1 ∧
    Poised 0 [0xF1, 63, 0x23] .other (ops [9]) ∧ repeatable .jmpi = false ∧ Poised 0 (0xF0 :: opBytes .jmpi) .other open0 ∧
    Enters 0 open0 (faultEvent (open0.core 0) { cause := 0x01 } (0xF0 :: opBytes .jmpi)) 0x4000 0 :=
  ⟨by decide +kernel, poised_of (by decide +kernel), by decide +kernel, holds_of (by decide +kernel), poised_of (by decide +kernel),
   by decide +kernel, eventDue_of (by decide +kernel), holds_of (by decide +kernel), room_of (by decide +kernel),
   poised_of (by decide +kernel), by decide +kernel, poised_of (by decide +kernel), enters_of (by decide +kernel)⟩

/-- A shift of 63 bits, and the widest till. -/
theorem witness_RoundingAndRange :
    63 < 64 ∧ 80 ∈ [16, 32, 64, 80] :=
  ⟨by decide +kernel, by decide +kernel⟩

/-- `on` with floating point and vectors enabled and an F-stack, top first. -/
def fops (l : List FEntry) : State := (ops []).modCore 0 (fun k => { k with cstat := 0xDC, fstk := l })

/-- QMUL of -1 by -1; TMAC; TCLR, TSHL, TSHR and TMOV of till 3; TLD; FMACXY. -/
theorem witness_FractionalResults :
    ((.qmul, .qmul 0 0, [0x8000, 0x8000], qRead 0 0x8000 * qRead 0 0x8000, 15, 0) : FracOp × Instr × List Word × Int × Nat × Nat) ∈ fracPushes 0 (on.core 0) 0 0x8000 0x8000 ∧
    Ready 0 (.frac .qmul 0) (ops [0x8000, 0x8000]) ∧ ((ops [0x8000, 0x8000]).core 0).holds [0x8000, 0x8000] [] ∧
    (((ops [0x8000, 0x8000]).core 0).setOps []).room 1 ∧ Rounded 0 (qRead 0 0x8000 * qRead 0 0x8000) 15 0x8000 ∧
    Fitted false 0x8000 (qWidth 0) (-0x8000) false ∧ Ready 0 (.frac .tmac 11) (ops [1, 1]) ∧ Aligned 0 11 (2 ^ 55) 1 ∧
    Fitted true (2 ^ 79) 80 (2 ^ 79 - 1) true ∧ Ready 0 (.frac .tclr 3) on ∧ Ready 0 (.frac .tshl 0xFB) on ∧
    Ready 0 (.frac .tshr 0xFB) on ∧ Ready 0 (.frac .tmov 0x33) on ∧ Ready 0 (.frac .tld 3) (ops [1]) ∧
    Ready 0 (.frac .fmacxy 0) (onk (fun k => { k with xp := 0x2000, yp := 0x2010 })) ∧
    DataAt 0 (onk (fun k => { k with xp := 0x2000, yp := 0x2010 })) 0x2000 (qWidth 0 / 8) 0x2000 :=
  ⟨by simp [fracPushes, qFrac], ready_of (by decide +kernel), holds_of (by decide +kernel), room_of (by decide +kernel),
   by show _ ∧ _; decide +kernel, by unfold Fitted; decide, ready_of (by decide +kernel),
   by unfold Aligned; rw [if_pos (by decide)]; show _ ∧ _; decide +kernel, by unfold Fitted; decide, ready_of (by decide +kernel),
   ready_of (by decide +kernel), ready_of (by decide +kernel), ready_of (by decide +kernel), ready_of (by decide +kernel),
   ready_of (by decide +kernel), dataAt_of (by decide +kernel)⟩

/-- FMA on an F-stack of exactly three entries; FADD with FEN = 0 and with one entry; FCMP; the four conversions. -/
theorem witness_ScalarFloatResults :
    Ready 0 (.fp .fma 2) (fops [3, 2, 1]) ∧ ((fops [3, 2, 1]).core 0).fen = true ∧
    ((fops [3, 2, 1]).core 0).fstk = [1, 2, 3].reverse ++ [] ∧ Ready 0 (.fp .fadd 0) on ∧ (on.core 0).fen = false ∧
    Ready 0 (.fp .fadd 0) (fops [1]) ∧ ((fops [1]).core 0).fstk.length < 2 ∧ Ready 0 (.fp .fcmp 30) (fops [1, 2]) ∧
    ((fops [1, 2]).core 0).fstk = 1 :: 2 :: [] ∧ ((fops [1, 2]).core 0).room 1 ∧ Ready 0 (.fp .fcvt 0x22) (fops [1]) ∧
    ((0x22 : Byte).toNat / 4 % 4 = 0 ∧ (0x22 : Byte).toNat / 16 ≠ 3) ∧
    Ready 0 (.fp .fcvt 5) ((fops []).modCore 0 (fun k => k.setOps [1 <<< 63])) ∧ (5 : Byte).toNat / 4 = 1 ∧
    Ready 0 (.fp .fcvt 9) (fops [1]) ∧ Ready 0 (.fp .fcvt 13) (fops [1]) :=
  ⟨ready_of (by decide +kernel), by decide +kernel, by decide +kernel, ready_of (by decide +kernel), by decide +kernel,
   ready_of (by decide +kernel), by decide +kernel, ready_of (by decide +kernel), by decide +kernel, room_of (by decide +kernel),
   ready_of (by decide +kernel), by decide +kernel, ready_of (by decide +kernel), by decide +kernel, ready_of (by decide +kernel),
   ready_of (by decide +kernel)⟩

/-- FROT to a full F-stack; FDUP past it; FPUSH, FPOP, FLD and FST; a signalling NaN, a finite value over zero, two infinities, and a negative number. -/
theorem witness_FloatStackResults :
    Ready 0 (.fp .fstk 0x10) (fops ([3, 2, 1] ++ List.replicate 29 7)) ∧
    ((fops ([3, 2, 1] ++ List.replicate 29 7)).core 0).fstk = [1, 2, 3].reverse ++ List.replicate 29 7 ∧
    (List.replicate 29 (7 : FEntry)).length + 3 ≤ 32 ∧ Ready 0 (.fp .fstk 0) (fops (List.replicate 32 7)) ∧
    Ready 0 (.fp .fmov 2) ((fops []).modCore 0 (fun k => k.setOps [5])) ∧ Ready 0 (.fp .fmov 6) (fops [5]) ∧
    Ready 0 (.fp .fld 0) ((fops []).modCore 0 (fun k => k.setOps [0x2000])) ∧ DataAt 0 (fops []) 0x2000 2 0x2000 ∧
    Ready 0 (.fp .fst 0) ((fops [5]).modCore 0 (fun k => k.setOps [0x2000])) ∧
    (binary16.read 0x7C01 = .nan true ∧ binary16.read 0x7C00 = .inf false) ∧ (0xBC00 : Nat) < 2 ^ binary16.w :=
  ⟨ready_of (by decide +kernel), by decide +kernel, by decide +kernel, ready_of (by decide +kernel), ready_of (by decide +kernel),
   ready_of (by decide +kernel), ready_of (by decide +kernel), dataAt_of (by decide +kernel), ready_of (by decide +kernel),
   by decide +kernel, by decide +kernel⟩

/-- VADD of I8 under mask M1 with Z; VSHLS. -/
theorem witness_VectorElementwiseResults :
    VecReady 0 (fops [2, 1]) .vadd 0 (some 9) { k := .i, w := 8 } ((fops []).build.vlen / 8) ∧
    ((fops [2, 1]).core 0).fstk = [1, 2].reverse ++ [] ∧ LaneIs ((fops [2, 1]).core 0) .vadd { k := .i, w := 8 } 1 2 0 0 { r := 3 } ∧
    VecReady 0 ((fops [1]).modCore 0 (fun k => k.setOps [63])) .vshls 3 none { k := .i, w := 64 } ((fops []).build.vlen / 64) ∧
    (((fops [1]).modCore 0 (fun k => k.setOps [63])).core 0).holds [63] [] :=
  ⟨vecReady_of (by decide +kernel) (trivial), by decide +kernel, ⟨by decide, rfl, rfl, by decide +kernel⟩,
   vecReady_of (by decide +kernel) (.inl rfl), holds_of (by decide +kernel)⟩

/-- VCMP.UN of F64 into M7; MAND of M7 and M0; MWR and MTAIL of M7; MPOP and MRD of M7; VADD with VEN = 0 and with FEN = 0. -/
theorem witness_VectorCompareAndMaskResults :
    VecReady 0 (fops [2, 1]) .vcmpUn 0x7C none { k := .f, w := 64 } ((fops []).build.vlen / 64) ∧
    ((fops [2, 1]).core 0).fstk = 2 :: 1 :: [] ∧ Ready 0 (.vec .mand 0x70 none) (fops []) ∧ ((fops []).core 0).ven = true ∧
    Ready 0 (.vec .mwr 0x70 none) ((fops []).modCore 0 (fun k => k.setOps [5])) ∧
    Ready 0 (.vec .mtail 0x7C none) ((fops []).modCore 0 (fun k => k.setOps [5])) ∧
    ((fops []).build.vlen = 256 ∨ (fops []).build.vlen = 512) ∧ Ready 0 (.vec .mpop 7 none) (fops []) ∧
    Ready 0 (.vec .mrd 7 none) (fops []) ∧ ((fops []).core 0).room 1 ∧ Ready 0 (.vec .vadd 12 none) on ∧ (on.core 0).ven = false ∧
    Ready 0 (.vec .vadd 12 none) (onk (fun k => { k with cstat := 0x5C })) ∧
    (((onk (fun k => { k with cstat := 0x5C })).core 0).ven = true ∧ ((onk (fun k => { k with cstat := 0x5C })).core 0).fen = false) :=
  ⟨vecReady_of (by decide +kernel) (rfl), by decide +kernel, ready_of (by decide +kernel), by decide +kernel,
   ready_of (by decide +kernel), ready_of (by decide +kernel), by decide +kernel, ready_of (by decide +kernel),
   ready_of (by decide +kernel), room_of (by decide +kernel), ready_of (by decide +kernel), by decide +kernel,
   ready_of (by decide +kernel), by decide +kernel⟩

/-- VBCAST, VPERM, VCOMPRESS, VEXTR, VINS, and VCVT from F64 to Q15. -/
theorem witness_VectorPermuteAndConvertResults :
    VecReady 0 ((fops []).modCore 0 (fun k => k.setOps [5])) .vbcast 12 none { k := .f, w := 64 } ((fops []).build.vlen / 64) ∧
    (((fops []).modCore 0 (fun k => k.setOps [5])).core 0).holds [5] [] ∧
    VecReady 0 (fops [2, 1]) .vperm 0 (some 15) { k := .i, w := 8 } ((fops []).build.vlen / 8) ∧
    VecReady 0 (fops [1]) .vcompress 0 (some 7) { k := .i, w := 8 } ((fops []).build.vlen / 8) ∧
    VecReady 0 ((fops [1]).modCore 0 (fun k => k.setOps [5])) .vextr 8 none { k := .q, w := 16 } ((fops []).build.vlen / 16) ∧
    VecReady 0 ((fops [1]).modCore 0 (fun k => k.setOps [5, 6])) .vins 8 none { k := .q, w := 16 } ((fops []).build.vlen / 16) ∧
    VecReady 0 (fops [1]) .vcvt 0xC8 none { k := .q, w := 16 } ((fops []).build.vlen / 16) ∧
    etypeOf ((0xC8 : Byte).toNat / 16) = some { k := .f, w := 64 } :=
  ⟨vecReady_of (by decide +kernel) (trivial), holds_of (by decide +kernel), vecReady_of (by decide +kernel) (trivial),
   vecReady_of (by decide +kernel) (trivial), vecReady_of (by decide +kernel) (trivial), vecReady_of (by decide +kernel) (trivial),
   vecReady_of (by decide +kernel) (trivial), by decide +kernel⟩

/-- VREDADD of I64, VREDMIN of U8 with every element inactive, VDOT of Q31, VREDMAX of F32. -/
theorem witness_VectorReductionResults :
    VecReady 0 (fops [1]) .vredadd 3 none { k := .i, w := 64 } ((fops []).build.vlen / 64) ∧
    VecReady 0 (fops [1]) .vredmin 4 (some 1) { k := .u, w := 8 } ((fops []).build.vlen / 8) ∧
    ((fops [1]).core 0).fstk = [1].reverse ++ [] ∧ ((fops [1]).core 0).room 1 ∧
    VecReady 0 (fops [1, 2]) .vdot 9 none { k := .q, w := 32 } ((fops []).build.vlen / 32) ∧
    VecReady 0 (fops [1]) .vredmax 11 none { k := .f, w := 32 } ((fops []).build.vlen / 32) ∧ (fops []).build.vlen / 32 = 2 ^ 4 :=
  ⟨vecReady_of (by decide +kernel) (trivial), vecReady_of (by decide +kernel) (trivial), by decide +kernel,
   room_of (by decide +kernel), vecReady_of (by decide +kernel) (trivial), vecReady_of (by decide +kernel) (trivial), by decide +kernel⟩

/-- `fops` with two entries on the operand stack. -/
def vops (l : List FEntry) (o : List Word) : State := (fops l).modCore 0 (fun k => { k.setOps o with xp := 0x2FC0 })

/-- VLD and VSTX that end at the end of a page; VLDS of stride 0; VGATHER; VSCATTER of eight elements. -/
theorem witness_VectorMemoryResults :
    VecReady 0 (vops [] [0x2FC0]) .vld 0 none { k := .i, w := 8 } ((fops []).build.vlen / 8) ∧
    ((vops [] [0x2FC0]).core 0).holds [0x2FC0] [] ∧ DataAt 0 (vops [] [0x2FC0]) 0x2FC0 ((vops [] [0x2FC0]).build.vlen / 8) 0x2FC0 ∧
    ((vops [] [0x2FC0]).core 0).sb = [] ∧ VecReady 0 (vops [1] []) .vstx 0 none { k := .i, w := 8 } ((fops []).build.vlen / 8) ∧
    VecReady 0 (vops [] [0, 0x2000]) .vlds 3 none { k := .i, w := 64 } ((fops []).build.vlen / 64) ∧
    DataAt 0 (vops [] [0, 0x2000]) 0x2000 8 0x2000 ∧
    (((vops [] [0, 0x2000]).core 0).vgs = none ∧ ((vops [] [0, 0x2000]).core 0).vgsOn = false) ∧
    VecReady 0 (vops [0] [0x2000]) .vgather 3 none { k := .i, w := 64 } ((fops []).build.vlen / 64) ∧
    VecReady 0 (vops [0, 5] [0x2000]) .vscatter 3 none { k := .i, w := 64 } ((fops []).build.vlen / 64) ∧
    ((List.range 8).filter (fun j => ((vops [] []).core 0).active none j)).length ≤ 8 :=
  ⟨vecReady_of (by decide +kernel) (trivial), holds_of (by decide +kernel), dataAt_of (by decide +kernel), by decide +kernel,
   vecReady_of (by decide +kernel) (trivial), vecReady_of (by decide +kernel) (.inr rfl), dataAt_of (by decide +kernel),
   by decide +kernel, vecReady_of (by decide +kernel) (.inr rfl), vecReady_of (by decide +kernel) (.inr rfl), by decide +kernel⟩

/-- Core 0 with a deep operand ring and return ring and their spill areas. -/
def deep (n r : Nat) : State := onk (fun k => { k with
  stk := { ring := (List.range n).map (fun i => BitVec.ofNat 64 (1000 + i)) }, rstk := { ring := (List.range r).map (fun i => .call (BitVec.ofNat 64 (2000 + i)) (BitVec.ofNat 64 i)) },
  spillbase := 0x8000, spilllim := 0x8080, rsspill := 0x9000, rslim := 0x9080 })

/-- ALLOC 31 at room 31; FREE of the whole frame and of more; FLUSHW and FLUSHR with one block and with two; the four transfers of the barrow. -/
theorem witness_WindowTransferResults :
    Ready 0 (.alloc 31) (deep 81 0) ∧ ((deep 81 0).core 0).room 31 ∧ Ready 0 (.free 31) (deep 31 0) ∧ ((deep 31 0).core 0).frame = 31 ∧
    Ready 0 (.free 31) (deep 30 0) ∧ Ready 0 (.win .flushw) (deep 16 0) ∧ ((deep 16 0).core 0).stk.occ = 1 ∧
    Ready 0 (.win .flushw) (deep 32 0) ∧ (((deep 32 0).core 0).stk.occ = 2 ∧ ((deep 32 0).core 0).opStuck = none) ∧
    DataAt 0 (deep 32 0) 0x8000 128 0x8000 ∧ (deep 32 0).noLog ∧ Ready 0 (.win .flushr) (deep 0 8) ∧ Ready 0 (.win .flushr) (deep 0 9) ∧
    ((deep 0 9).core 0).rstk.occ = 2 ∧ barrowActs (deep 81 0) 0 = true ∧ barrowDue ((deep 81 0).core 0) = some (false, false) ∧
    barrowDue ((deep 0 17).core 0) = some (true, false) ∧
    barrowDue ((onk (fun k => { k with stk := { spilled := 1, cut := 16 }, spillbase := 0x8080 })).core 0) = some (false, true) ∧
    barrowDue ((onk (fun k => { k with rstk := { spilled := 1, cut := 8 }, rsspill := 0x9080 })).core 0) = some (true, true) :=
  ⟨ready_of (by decide +kernel), room_of (by decide +kernel), ready_of (by decide +kernel), by decide +kernel,
   ready_of (by decide +kernel), ready_of (by decide +kernel), by decide +kernel, ready_of (by decide +kernel), by decide +kernel,
   dataAt_of (by decide +kernel), noLog_of (by decide +kernel), ready_of (by decide +kernel), ready_of (by decide +kernel),
   by decide +kernel, by decide +kernel, by decide +kernel, by decide +kernel, by decide +kernel, by decide +kernel⟩

/-- `ops` with a minimal lower area at 0x5000 in memory, linked. -/
def area0 : State := { (ops []).modCore 0 (fun k => { k with savehead := 0x5000 }) with mem := [(0x5008, 1), (0x500D, 6)] }

/-- SAVEL and SAVEU in PL1; SAVEL in PL2 and at an unaligned address; RESTL from an empty area, with SAVEHEAD 0 and from memory that holds no area. -/
theorem witness_ContextSaveAndRestoreResults :
    Ready 0 (.win .savel) (inPl 1 (ops [0x5000])) ∧ ((inPl 1 (ops [0x5000])).core 0).holds [0x5000] [] ∧
    DataAt 0 (inPl 1 (ops [0x5000])) 0x5000 1536 0x5000 ∧ (inPl 1 (ops [0x5000])).noLog ∧ Memory.wf (ops [0x5000]).mem = true ∧
    (((ops []).core 0).stk.occ ≤ 6 ∧ ((ops []).core 0).stk.cut = 0) ∧ Ready 0 (.win .saveu) (inPl 1 (ops [0x5000])) ∧
    DataAt 0 (inPl 1 (ops [0x5000])) 0x5000 (256 + 4 * (ops []).build.vlen) 0x5000 ∧ Ready 0 (.win .savel) (inPl 2 (ops [0x5000])) ∧
    ((inPl 2 (ops [0x5000])).core 0).pl = 2 ∧ Ready 0 (.win .savel) (ops [0x5020]) ∧ (0x5020 : Word).toNat % 64 ≠ 0 ∧
    Ready 0 (.win .restl) area0 ∧ DataAt 0 area0 0x5000 1536 0x5000 ∧ memWord area0 0x5000 8 = 0x600_0000_0001 ∧
    (memWord area0 0x5000 0xC0).toNat ≤ (memWord area0 0x5000 0xC8).toNat * 16 + 96 ∧ Ready 0 (.win .restl) on ∧ (on.core 0).savehead = 0 ∧
    Ready 0 (.win .restu) area0 ∧ memWord area0 0x5000 8 ≠ BitVec.ofNat 64 (2 + 2 ^ 32 * (256 + 4 * area0.build.vlen)) :=
  ⟨ready_of (by decide +kernel), holds_of (by decide +kernel), dataAt_of (by decide +kernel), noLog_of (by decide +kernel),
   by decide +kernel, by decide +kernel, ready_of (by decide +kernel), dataAt_of (by decide +kernel), ready_of (by decide +kernel),
   by decide +kernel, ready_of (by decide +kernel), by decide +kernel, ready_of (by decide +kernel), dataAt_of (by decide +kernel),
   by decide +kernel, by decide +kernel, ready_of (by decide +kernel), by decide +kernel, ready_of (by decide +kernel),
   by decide +kernel⟩

/-- Core 0 with translation on, tables at 0x10000 and 0x11000 that map the first GiB, and empty TLBs. -/
def walk0 (d0 d1 : Byte) : State := { onk (fun k => { k with ptroot := 0x10001 }) with mem := [(0x10000, d0), (0x10001, 0x10), (0x10002, 1), (0x11000, d1)] }

/-- Core 0 waiting for a load of eight bytes at host address 2^44 that has left on wz_sm_*. -/
def host1 : State := { onk (fun k => { k.setOps [0xD0_0000_0000] with ext := [{ addr := 0xD0_0000_0000, len := 8 }], waitOp := some { op := .ld 3 false, rep := none, units := 0 } }) with
  smOut := [{ id := 5, addr := 0xD0_0000_0000, write := false, len := 8, data := [], who := .load 0 }] }

/-- A walk to a 1 GiB leaf for a store; a first entry that is not valid; the data of a host load; errors in DRAM and in a bank; a triple fault; a microcode timeout; a repair and a scan. -/
theorem witness_CoreServiceResults :
    canGo (walk0 3 0xFD) 0 = true ∧ bitOf ((walk0 3 0xFD).core 0).ptroot 0 = true ∧
    wrap (Int.bmod ((0x3FFF_FFFF : Word).toNat % 2 ^ 48 : Nat) (2 ^ 48)) = (0x3FFF_FFFF : Word) ∧
    target (walk0 3 0xFD) 0x10000 = .dram 0x10000 ∧
    ((memWord (walk0 3 0xFD) 0x10000 0).toNat % 4 = 3 ∧ (memWord (walk0 3 0xFD) 0x10000 0).toNat / 2 ^ 12 * 2 ^ 12 = 0x11000) ∧
    (memWord (walk0 3 0xFD) 0x11000 0).toNat = 0xFD ∧ (memWord (walk0 2 0xFD) 0x10000 0).getLsbD 0 = false ∧ (walk0 3 0xFD).sound ∧
    Ready 0 (.ld 3 false) ({ host1 with smOut := [] }.setCore 0 { host1.core 0 with ext := [{ addr := 0xD0_0000_0000, len := 8, answer := some (.bytes [1, 2, 3, 4, 5, 6, 7, 8]) }] }) ∧
    (host1.core 0).holds [0xD0_0000_0000] [] ∧ target host1 0xD0_0000_0000 = .host 0xD0_0000_0000 ∧ dramServed on 0x3F = true ∧
    on.cachedAnywhere 0 = false ∧ target on 0x80_0000_0000 = .spm 0 0x80_0000_0000 ∧
    ((onk (fun k => { k with run := .tripling })).core 0).sb = [] ∧ coreClocked on 0 = true ∧
    (gdnRuns on = true ∧ underApplication on 0 = false) ∧ (on.region (clusterRegion 0)).state ≠ 3 :=
  ⟨by decide +kernel, by decide +kernel, by decide +kernel, by decide +kernel, by decide +kernel, by decide +kernel, by decide +kernel,
   sound_of (by decide +kernel), ready_of (by decide +kernel), holds_of (by decide +kernel), by decide +kernel, by decide +kernel,
   by decide +kernel, by decide +kernel, by decide +kernel, by decide +kernel, by decide +kernel, by decide +kernel⟩

/-- A core that is to halt, with and without a repeat in progress; the debug port and a core in PL1 as masters. -/
theorem witness_DebugResults :
    (on.hasCore 0 = true ∧ isActive on = true) ∧ coreLive (onk (fun k => { k with haltReq := true })) 0 = true ∧
    inStretch ((onk (fun k => { k with haltReq := true })).core 0) = false ∧
    inStretch ((onk (fun k => { k with rep := some { left := 9, fixed := false } })).core 0) = false ∧ (on.core 0).room 1 ∧
    (plOf .debug = 0 ∧ 0 < plOf (.core 0 1)) :=
  ⟨by decide +kernel, by decide +kernel, by decide +kernel, by decide +kernel, room_of (by decide +kernel), by decide +kernel⟩

/-- XP of core 0; CECNT of bank 0; a region register set; PLOG_CTL; the level of group 0; an offset past the last and one inside a register; a complex in reset. -/
theorem witness_RegisterWriteResults :
    (coreLive on 0 = true ∧ (on.core 0).run = .run) ∧ (0x020, 2, { on.core 0 with xp := 5 }) ∈ cwrTable (on.core 0) 5 ∧
    cregFault (on.core 0) 0x20 = none ∧ (isActive on = true ∧ plOf .host = 0) ∧ on.hasBank 0 = true ∧ presentWord on 0 ≠ 0 ∧
    regWaits on 0x80_0000 = false ∧ isActive State.reset = false :=
  ⟨by decide +kernel, by simp [cwrTable], by decide +kernel, by decide +kernel, by decide +kernel, by decide +kernel,
   by decide +kernel, by decide +kernel⟩

/-- `on` with bank `b` changed. -/
def bank (b : BankId) (f : Bank → Bank) : State := on.modBank b f

/-- An owner write that hands over, one that is refused, and a release in PL2; a handover and a power change that end; the weeder. -/
theorem witness_ScratchpadBankResults :
    (isActive on = true ∧ on.hasBank 0 = true) ∧
    ((on.banks[0]).handoverDone = true ∧ (on.banks[0]).owner ≠ 0xFE ∧ ownerCodeOk on 0 0 = true) ∧ ownerCodeOk on 0 0xFE = false ∧
    ((bank 0 (fun k => { k with owner := 3 })).banks[0]).owner = BitVec.ofNat 8 (3 : CoreId).val ∧ 0 < plOf (.core 0 1) ∧
    ((bank 0 (fun k => { k with handoverDone := false, oldOwner := 0xFF })).banks[0]).oldOwner = 0xFF ∧
    (((bank 0 (fun k => { k with pstate := 3 })).banks[0]).pstate = 3 ∧ (on.region (bankRegion 0)).state ≠ 3) ∧
    (fabRuns on = true ∧ on.spmCe = [] ∧ on.spmUe = []) ∧ (on.banks[0]).pstate = 0 ∧
    ({ on with weeder := { on.weeder with en := true } } : State).weeder.en = true :=
  ⟨by decide +kernel, by decide +kernel, by decide +kernel, by decide +kernel, by decide +kernel, by decide +kernel, by decide +kernel,
   by decide +kernel, by decide +kernel, by decide +kernel⟩

/-- Channel 0 on the last block of a descriptor, with nothing of the model's own in the way. -/
def mover0 (src dst len : Nat) : State := { ops [] with movers := on.movers.set 0 { (on.movers[0]) with
  state := 1, d := some { src := src, dst := dst, len := len, irq := true, last := true, next := 0 }, rem := BitVec.ofNat 32 len, cur := 0x4000 } }

/-- A channel at rest and one that runs, started by core 0 and by the host. -/
theorem witness_MoverResults :
    (isActive on = true ∧ (0 : Fin 16).val / 4 < on.build.regions) ∧ (on.movers[0]).state ≠ 1 ∧ (plOf (.core 0 1) < 2 ∧ plOf .host < 2) ∧
    fabRuns (mover0 0x2000 0x3000 64) = true ∧
    (((mover0 0x2000 0x3000 64).movers[0]).state = 1 ∧ ((mover0 0x2000 0x3000 64).movers[0]).waiting = false ∧ ((mover0 0x2000 0x3000 64).movers[0]).data = none) ∧
    (mover0 0x2000 0x3000 64).sound ∧ (mover0 0x2000 0x3000 64).noLog ∧ (⟨0x2000, 0x3000, 64, true, true, 0⟩ : MvDesc).overlaps = false ∧
    (target (mover0 0x2000 0x3000 64) 0x2000 = .dram 0x2000 ∧ target (mover0 0x2000 0x3000 64) 0x3000 = .dram 0x3000) ∧
    (0x4001 : BitVec 53).toNat % 32 ≠ 0 :=
  ⟨by decide +kernel, by decide +kernel, by decide +kernel, by decide +kernel, by decide +kernel, sound_of (by decide +kernel),
   noLog_of (by decide +kernel), by decide +kernel, by decide +kernel, by decide +kernel⟩

/-- The highest source, leaf and class; a unit without a lasting mark. -/
theorem witness_SourcesLeavesAndTallies :
    (1279 < 1280 ∧ 15 < 16 ∧ 11 < 12) ∧ (tallyOf on 10 0 0).lasting = false ∧
    (((on.sys.count :: (tallyOf on 10 0 0).recent).take 8).length < (tallyCfg on 10).n ∨ (tallyCfg on 10).n ≤ 1) :=
  ⟨by decide +kernel, by decide +kernel, by decide +kernel⟩

/-- The highest input of the build, edge-sensitive, running and with the fabric clock off; a level input; PL1; source 1215. -/
theorem witness_InterruptSourceResults :
    ((on.build.irqIn - 1) < on.build.irqIn ∧ bitAt on.intc.sense 0 = false ∧ fabRuns on = true) ∧
    (fabRuns { on with pwr := { on.pwr with complex := 1, clkreq := 0, clkack := 0 } } = false ∧ inReset { on with pwr := { on.pwr with complex := 1, clkreq := 0, clkack := 0 } } = false) ∧
    bitAt (setBitAt on.intc.sense 5 true) 5 = true ∧ (isActive on = true ∧ plOf (.core 0 1) < 2 ∧ plOf .host = 0) ∧
    sourcePresent on 1215 = true :=
  ⟨by decide +kernel, by decide +kernel, by decide +kernel, by decide +kernel, by decide +kernel⟩

/-- `irq0` with source 1216 active. -/
def act0 : State := { irq0 with intc := { irq0.intc with active := setBitAt irq0.intc.active 1216 true } }

/-- Claims of a source in view, of one that is active, of one that is not pending, of one outside the slice, and of none; the completion of an active source and of one that is not. -/
theorem witness_ClaimAndCompleteResults :
    (isActive irq0 = true ∧ irq0.hasCore 0 = true ∧ (irq0.core 0).pl.toNat < 2) ∧
    (sourcePresent irq0 1216 = true ∧ bitAt irq0.intc.active 1216 = false ∧ (viewWord irq0 0 38).getLsbD 0 = true) ∧
    bitAt act0.intc.active 1216 = true ∧
    (sourcePresent irq0 1279 = true ∧ bitAt irq0.intc.active 1279 = false ∧ (viewWord irq0 0 39).getLsbD 31 = false) ∧
    ((open1.core 0).pl = 1 ∧ (open1.slice (open1.core 0).slice).groups.getLsbD 0 = false) ∧ 1280 < 2048 ∧
    ({ on with intc := { on.intc with held := on.intc.held.set 5 true } } : State).intc.held[5] = true :=
  ⟨by decide +kernel, by decide +kernel, by decide +kernel, by decide +kernel, by decide +kernel, by decide +kernel, by decide +kernel⟩

/-- `on` with channel 0 enabled, about to wrap. -/
def chan0 : State := { on with chans := on.chans.set 0 { ctl := 1, period := { act := 5, pend := some 9 }, cnt := 5 } }

/-- A channel that wraps on a tick with DIV at its least; one whose prescaler does not pass; one with EN = 0. -/
theorem witness_TimerTickResults :
    (chan0.hasChan 0 = true ∧ tmrRuns chan0 (chanRegion 0) = true) ∧
    ((chan0.chan 0).src ≠ 3 ∧ (chan0.chan 0).src ≠ 4 ∧ (chan0.chan 0).en = true ∧ chanFrozen chan0 0 = false) ∧
    max (chan0.chan 0).div.toNat 0x1_0000 ≤ (chan0.chan 0).acc.toNat + 0x1_0000 ∧ 0 + 0x1_0000 < max 0xFFFF_FFFF 0x1_0000 ∧
    (on.chan 0).en = false :=
  ⟨by decide +kernel, by decide +kernel, by decide +kernel, by decide +kernel, by decide +kernel⟩

/-- Channel 0 written by core 0 in PL0 and in PL1 of its slice, and by core 0 in PL2. -/
theorem witness_TimerRegisterResults :
    (isActive on = true ∧ on.hasChan 0 = true ∧ (on.region (chanRegion 0)).state.toNat < 2) ∧ plOf (.core 0 0) = 0 ∧
    (plOf (.core 0 1) = 1 ∧ (masterSlice on (.core 0 1)).tmrch.getLsbD 0 = true) ∧ 2 ≤ plOf (.core 0 2) :=
  ⟨by decide +kernel, by decide +kernel, by decide +kernel, by decide +kernel⟩

/-- A command packet of opcode `op`, slice `sl`, and parameter words `p`. -/
def cmd (op sl : Nat) (p : List Word) : GCmd :=
  { pkt := leBytes 2 op ++ [0, BitVec.ofNat 8 p.length, 7, 0, BitVec.ofNat 8 sl] ++ List.replicate 9 0 ++ p.flatMap (fun w => leBytes 8 w.toNat) }
/-- `s` with that command first in queue 1, the Gardener running its firmware. -/
def posted (c : GCmd) (s : State) : State := { s with gdn := { s.gdn with fwRuns := true, q := s.gdn.q.set 1 { (s.gdn.q[1]) with slots := [c] } } }
/-- The command as the Gardener carries it out. -/
def ctx (c : GCmd) : GCtx := { q := 1, slot := 0, cmd := c }

/-- Posts to a queue with room and to a full one, acknowledgements, a leaf, and the refusals in their order. -/
theorem witness_GardenerQueueResults :
    (isActive on = true ∧ queueMaster (.core 0 0) 1 = true) ∧ (on.gdn.q[1]).slots.length < 16 ∧
    ((posted (cmd 2 0 [1]) on).gdn.q[1]).slots = cmd 2 0 [1] :: [] ∧ queueMaster (.core 0 2) 1 = false ∧
    Turn (posted (cmd 0x77 0 []) on) (ctx (cmd 0x77 0 [])) 0x77 ∧ opQueues 0x77 = none ∧
    Turn (posted (cmd 1 1 []) on) (ctx (cmd 1 1 [])) 1 ∧ headerOk (cmd 1 1 []) = false ∧
    Turn (posted (cmd 0x20 0 [1 <<< 17]) on) (ctx (cmd 0x20 0 [1 <<< 17])) 0x20 ∧
    (headerOk (cmd 0x20 0 [1 <<< 17]) = true ∧ paramsOk (cmd 0x20 0 [1 <<< 17]) = false) :=
  ⟨by decide +kernel, by decide +kernel, by decide +kernel, by decide +kernel, turn_of (by decide +kernel), by decide +kernel,
   turn_of (by decide +kernel), by decide +kernel, turn_of (by decide +kernel), by decide +kernel⟩

/-- Each command accepted. -/
theorem witness_GardenerReportResults :
    Accepted (posted (cmd 1 0 []) on) (ctx (cmd 1 0 [])) 1 ∧ Accepted (posted (cmd 2 0 [5]) on) (ctx (cmd 2 0 [5])) 2 ∧
    Accepted (posted (cmd 0x32 0 []) on) (ctx (cmd 0x32 0 [])) 0x32 ∧
    Accepted (posted (cmd 0x51 0 [0x1D_0000_000A]) on) (ctx (cmd 0x51 0 [0x1D_0000_000A])) 0x51 ∧
    Accepted (posted (cmd 0x50 0 [0x1_0000_000A]) on) (ctx (cmd 0x50 0 [0x1_0000_000A])) 0x50 ∧
    Accepted (posted (cmd 0x52 0 [7, 1000]) on) (ctx (cmd 0x52 0 [7, 1000])) 0x52 ∧
    Accepted (posted (cmd 0x80 0 [1]) on) (ctx (cmd 0x80 0 [1])) 0x80 :=
  ⟨accepted_of (by decide +kernel), accepted_of (by decide +kernel), accepted_of (by decide +kernel), accepted_of (by decide +kernel),
   accepted_of (by decide +kernel), accepted_of (by decide +kernel), accepted_of (by decide +kernel)⟩

/-- `on` with the records of type 5 and 9 and a retirement list in flash. -/
def recs : State := { on with gdn := { on.gdn with flash := { on.gdn.flash with records := [{ typ := 5, origin := 0, seq := 3, payload := [1, 2, 3] }, { typ := 5, origin := 0, seq := 4, payload := List.replicate 11 9 }, { typ := 5, origin := 2, seq := 5, payload := [4] }], seq := 6, used := 96 } } }
/-- A slice with no units but the ones named, its tables at the start of DRAM. -/
def newSlice (cores groups : Word) : GCmd :=
  { pkt := leBytes 2 0x70 ++ [0, 11, 7, 0, 5] ++ List.replicate 9 0 ++ [cores, groups, 0, 0x20000, 64, 0x1000, 0, 1, 0, 0, 0].flatMap (fun w => leBytes 8 w.toNat) }
/-- A slice command of opcode `op` for slice 5. -/
def slcCmd (op : Nat) (p : List Word) : GCmd := { pkt := leBytes 2 op ++ [0, BitVec.ofNat 8 p.length, 7, 0, 5] ++ List.replicate 9 0 ++ p.flatMap (fun w => leBytes 8 w.toNat) }
/-- `on` with slice 5 in a state, owning core 3, bank 1, group 2 and channel 1. -/
def sliced (st : BitVec 3) : State := { on with slices := (on.slices.set 0 { on.slices[0] with cores := 0xFFFF_FFFF_FFFF_FFF7 }).set 5 { state := st, cores := 8, groups := 4, tmrch := 2, banks := 2, dloglim := 1 } }

/-- A commit with room; a record of type 5 written, and one of a type that no command may write; the second record of type 5 read, and one that is not there; NODE_SET. -/
theorem witness_GardenerRecordResults :
    recs.gdn.flash.used + (3 + 0x15 + 15) / 16 * 16 ≤ 2 ^ 22 ∧
    Accepted (posted (cmd 0x60 0 [5 + (3 <<< 16), 7]) recs) (ctx (cmd 0x60 0 [5 + (3 <<< 16), 7])) 0x60 ∧
    Accepted (posted (cmd 0x60 0 [6]) recs) (ctx (cmd 0x60 0 [6])) 0x60 ∧
    Accepted (posted (cmd 0x61 0 [5 + (1 <<< 16), 0]) recs) (ctx (cmd 0x61 0 [5 + (1 <<< 16), 0])) 0x61 ∧
    ((recs.gdn.flash.records.filter (fun r => r.typ == 5 && r.origin == 0)).reverse)[1]? = some { typ := 5, origin := 0, seq := 3, payload := [1, 2, 3] } ∧
    ((recs.gdn.flash.records.filter (fun r => r.typ == 5 && r.origin == 0)).reverse)[2]? = none ∧
    Accepted (posted (cmd 0x90 0 [0xFFF]) on) (ctx (cmd 0x90 0 [0xFFF])) 0x90 ∧ on.tme.quiesced = true ∧
    (∀ i : PortId, (on.ports[i.val]).state ≠ 4 ∧ (on.ports[i.val]).state ≠ 5) ∧ gdnServes (posted (cmd 0x90 0 [0xFFF]) on) = true :=
  ⟨by decide +kernel, accepted_of (by decide +kernel), accepted_of (by decide +kernel), accepted_of (by decide +kernel),
   by decide +kernel, by decide +kernel, accepted_of (by decide +kernel), by decide +kernel, by decide +kernel, by decide +kernel⟩

/-- SLICE_CREATE allowed, of an absent unit and of units that slice 0 does not own; a resize and a destruction of slice 5, and one refused. -/
theorem witness_SliceResults :
    (isActive on = true ∧ plOf (.core 0 0) = 0 ∧ Master.core 0 0 ≠ .debug) ∧
    Accepted (posted (newSlice 8 1) on) (ctx (newSlice 8 1)) 0x70 ∧
    createReason ((posted (newSlice 8 1) on).accepting (ctx (newSlice 8 1))) (ctx (newSlice 8 1)) = none ∧
    createReason ((posted (newSlice 8 (1 <<< 44)) on).accepting (ctx (newSlice 8 (1 <<< 44)))) (ctx (newSlice 8 (1 <<< 44))) = some 5 ∧
    createReason ((posted (newSlice 8 1) (sliced 1)).accepting (ctx (newSlice 8 1))) (ctx (newSlice 8 1)) = some 1 ∧
    Accepted (posted (slcCmd 0x71 [16, 8, 0, 0, 0, 0, 2, 0, 0, 0, 6]) (sliced 1)) (ctx (slcCmd 0x71 [16, 8, 0, 0, 0, 0, 2, 0, 0, 0, 6])) 0x71 ∧
    resizeReason ((posted (slcCmd 0x71 [16, 8, 0, 0, 0, 0, 2, 0, 0, 0, 6]) (sliced 1)).accepting (ctx (slcCmd 0x71 [16, 8, 0, 0, 0, 0, 2, 0, 0, 0, 6]))) (ctx (slcCmd 0x71 [16, 8, 0, 0, 0, 0, 2, 0, 0, 0, 6])) = none ∧
    sliceInUse (sliced 1) 5 = false ∧ sliceInUse ((sliced 1).modCore 3 (fun k => { k with slice := 5 })) 5 = true ∧
    Accepted (posted (slcCmd 0x72 []) (sliced 3)) (ctx (slcCmd 0x72 [])) 0x72 :=
  ⟨by decide +kernel, accepted_of (by decide +kernel), by decide +kernel, by decide +kernel, by decide +kernel,
   accepted_of (by decide +kernel), by decide +kernel, by decide +kernel, by decide +kernel, accepted_of (by decide +kernel)⟩

/-- `sliced`, LOGGING, its one captured core 3 stopped; DRAM clear at the image's place. -/
def frozen : State := { sliced 4 with mem := memWrite (memWrite (memWrite [] 0x100000 ((leBytes 4 0x4D53_4C43 ++ leBytes 4 0) ++ leBytes 4 512 ++ leBytes 4 0 ++ leBytes 4 0 ++ leBytes 4 1 ++ leBytes 4 1 ++ leBytes 4 1 ++ leBytes 4 1 ++ leBytes 4 1)) 0x103000 (leBytes 8 0x5000 ++ leBytes 8 0x1FF)) 0x1030A0 (leBytes 8 0) }
/-- `s` with a command executing in queue 1, carried out by a job. -/
def doing (c : GCmd) (j : GJob) (s : State) : State :=
  { s with gdn := { s.gdn with fwRuns := true, lastQ := 1, q := s.gdn.q.set 1 { (s.gdn.q[1]) with slots := [{ c with st := .executing }] }, job := s.gdn.job.set 1 (some j) } }
/-- A package at 0x200000 that is no package. -/
def noPkg : State := { on with mem := memWrite [] 0x200000 [1, 2, 3] }
/-- `on` with package 7 staged, a change of one microword to the base image. -/
def staged7 : State := { on with gdn := { on.gdn with staged := [{ pkg := 7, base := 0, delta := { micro := [(5, 1)] }, size := 16, raw := [] }] } }
/-- That command executing. -/
def run (c : GCmd) : GCmd := { c with st := .executing }

/-- MIGRATE_START and MIGRATE_ROUND; a freeze of a slice that no core runs, and its timeout; an adoption. -/
theorem witness_MigrationResults :
    Accepted (posted (slcCmd 0x73 []) (sliced 1)) (ctx (slcCmd 0x73 [])) 0x73 ∧
    (((sliced 1).slice 5).state = 1 ∧ ((sliced 1).slice 5).banks ≠ 0) ∧
    Accepted (posted (slcCmd 0x74 []) (sliced 2)) (ctx (slcCmd 0x74 [])) 0x74 ∧
    Accepted (posted (slcCmd 0x75 [0x100000]) (sliced 2)) (ctx (slcCmd 0x75 [0x100000])) 0x75 ∧
    (captured (sliced 2) 5 = [] ∧ sliceMoves (sliced 2) 5 = false) ∧ (sliced 2).sound ∧
    ((sliced 2).smgr.plogEn = false ∧ inDram (sliced 2) 0x100000 0x3000 = true ∧ target (sliced 2) 0x100000 = .dram 0x100000 ∧ Memory.wf (sliced 2).mem = true) ∧
    finalOf (posted (slcCmd 0x75 [0x100000]) (sliced 2)) 1 = none ∧
    (finalOf (doing (slcCmd 0x75 [0x100000]) (.final 5) (sliced 2)) 1).isSome = true ∧
    Accepted (posted (slcCmd 0x76 [0x100000, 0, 0]) frozen) (ctx (slcCmd 0x76 [0x100000, 0, 0])) 0x76 ∧
    ((frozen.slice 5).state = 4 ∧ inDram frozen 0x100000 0x4000 = true ∧ target frozen 0x100000 = .dram 0x100000 ∧ target frozen 0x103000 = .dram 0x103000) ∧
    frozen.sound ∧
    ([0, 8, 20, 24, 28, 32, 36].map (fun o => ofLe (memRead frozen.mem (0x100000 + o) 4))) = [0x4D53_4C43, frozen.build.vlen, 1, 1, 1, 1, 1] ∧
    ((List.finRange 64).filter (fun c : CoreId => (frozen.slice 5).cores.getLsbD c.val)) = [3] ∧
    (((List.range 40).filter (fun g => (frozen.slice 5).groups.getLsbD g)).length = 1 ∧ ((List.range 64).filter (fun g => (frozen.slice 5).tmrch.getLsbD g)).length = 1 ∧ ((List.range 256).filter (fun b => (frozen.slice 5).banks.getLsbD b)).length = 1) ∧
    ((frozen.core 3).sb = [] ∧ ofLe (memRead frozen.mem 0x1030A0 8) % 64 = 0 ∧ ofLe (memRead frozen.mem 0x103098 4) = (frozen.ctl[0]).pkg.toNat) :=
  ⟨accepted_of (by decide +kernel), by decide +kernel, accepted_of (by decide +kernel), accepted_of (by decide +kernel),
   by decide +kernel, sound_of (by decide +kernel), by decide +kernel, by decide +kernel, by decide +kernel,
   accepted_of (by decide +kernel), by decide +kernel, sound_of (by decide +kernel), by decide +kernel, by decide +kernel,
   by decide +kernel, by decide +kernel⟩

/-- A quiesce of clusters 0 and 15, one that a policy forbids, a resumption, a stop reached and a timeout, and the stop of a graft. -/
theorem witness_QuiesceResults :
    Accepted (posted (cmd 0x20 0 [0x8001]) on) (ctx (cmd 0x20 0 [0x8001])) 0x20 ∧
    (policyForbids on 0 = false ∧ on.hasCluster 0 = true ∧ on.hasCluster 15 = true) ∧
    policyForbids { on with slices := on.slices.set 0 { on.slices[0] with qpol := 1 } } 0 = true ∧
    Accepted (posted (cmd 0x21 0 [1]) on) (ctx (cmd 0x21 0 [1])) 0x21 ∧
    executingOf (doing (cmd 0x20 0 [2]) (.quiesce true [1] (List.replicate 16 0)) on) 1 = some { q := 1, slot := 0, cmd := run (cmd 0x20 0 [2]) } ∧
    (clusterStopped on 1 = true ∧ gdnServes (doing (cmd 0x20 0 [2]) (.quiesce true [1] (List.replicate 16 0)) on) = true) ∧
    (doing (cmd 0x31 0 [7]) (.graft 7 true false [1] [] (some .stopping) false) on).gdn.job[1] = some (.graft 7 true false [1] [] (some .stopping) false) :=
  ⟨accepted_of (by decide +kernel), by decide +kernel, by decide +kernel, accepted_of (by decide +kernel), by decide +kernel,
   by decide +kernel, by decide +kernel⟩

/-- A package that has no magic number, with its bytes in DRAM; no keys; an application to a region that runs and to one that is OFF; a verification; a resumption. -/
theorem witness_GraftResults :
    Accepted (posted (cmd 0x30 0 [0x200000, 3]) noPkg) (ctx (cmd 0x30 0 [0x200000, 3])) 0x30 ∧
    (target noPkg 0x200000 = .dram 0x200000 ∧ (∀ l ∈ linesOf 0x200000 3, dramServed noPkg (l * 64) = true)) ∧ noPkg.sound ∧
    ofLe ((memRead noPkg.mem 0x200000 3).take 4) ≠ 0x5446_5247 ∧ noPkg.gdn.keys = none ∧
    Accepted (posted (cmd 0x31 0 [7 + (1 <<< 32)]) staged7) (ctx (cmd 0x31 0 [7 + (1 <<< 32)])) 0x31 ∧
    ((staged7.gdn.staged.map Staged.pkg) = [7] ∧ (staged7.gdn.staged.map Staged.base) = [(staged7.ctl[0]).pkg] ∧ policyForbids staged7 0 = false) ∧
    fifthImage staged7 0 (newImage staged7 0 7) = false ∧ ((staged7.region 0).state = 0 ∧ (staged7.region 0).waking = false) ∧
    executingOf (doing (cmd 0x31 0 [7]) (.graft 7 true false [0] (List.replicate 16 0) (some .resuming) false) staged7) 1 = some { q := 1, slot := 0, cmd := run (cmd 0x31 0 [7]) } ∧
    (gdnServes (doing (cmd 0x31 0 [7]) (.graft 7 true false [0] (List.replicate 16 0) (some .resuming) false) staged7) = true ∧ staged7.hasCluster 0 = true) :=
  ⟨accepted_of (by decide +kernel), by decide +kernel, sound_of (by decide +kernel), by decide +kernel, by decide +kernel,
   accepted_of (by decide +kernel), by decide +kernel, by decide +kernel, by decide +kernel, by decide +kernel, by decide +kernel⟩

/-- The same after a command was posted in queue 1. -/
def acc1 (c : GCmd) (s : State) : State := (posted c s).accepting (ctx c)
/-- `on` with core 9, bank 3, lane 2 of port 1 and rank 0 of channel 1 retired. -/
def retired4 : State := { on.modCore 9 (fun k => { k with retired := true, quiesced := true }) with
  banks := on.banks.set 3 { owner := 0xFE, req := 2, pstate := 2 },
  ports := on.ports.set 1 { on.ports[1] with retired := 4 }, mc := on.mc.set 1 { on.mc[1] with retired := 1 },
  gdn := { on.gdn with
    retired := [(0, 9), (1, 3), (2, 10), (3, 8)],
    tallies := [{ cls := 1, unit := 9, sub := 0, recent := [1, 2], lasting := true }, { cls := 8, unit := 9, sub := 0, recent := [1] },
                { cls := 3, unit := 3, sub := 0, pending := true, recent := [7] }] } }
/-- Bank 7 pending. -/
def pending7 : State := { on with gdn := { on.gdn with fwRuns := true, tallies := [{ cls := 3, unit := 7, sub := 0, pending := true }, { cls := 1, unit := 7, sub := 0, pending := true }] } }
/-- The Gardener runs, the voltage at 750 mV, and only region 2 runs. -/
def ring2 : State := { on with
  gdn := { on.gdn with fwRuns := true, avsMv := 750, roBase := Vector.replicate 4 (some 1000) },
  pwr := { on.pwr with rgn := (Vector.replicate 4 { state := 3 }).set 2 { state := 0 } } }

/-- A core retired by force and one refused; a bank, a lane, a rank; each restored; a pending bank that is free. -/
theorem witness_RetirementResults :
    Accepted (posted (cmd 0x40 0 [9]) (on.modCore 9 (fun k => { k with run := .tripled }))) (ctx (cmd 0x40 0 [9])) 0x40 ∧
    (on.hasCore 9 = true ∧ (on.core 9).retired = false ∧ coreFree (on.modCore 9 (fun k => { k with run := .tripled })) 9 = true ∧ minCoresAllow on (regionOf 9) = true) ∧
    ((retired4.core 9).retired = true ∧ coreFree (sliced 1) 3 = false) ∧
    Accepted (posted (cmd 0x41 0 [255]) on) (ctx (cmd 0x41 0 [255])) 0x41 ∧
    (on.hasBank 255 = true ∧ (1, 255) ∉ on.gdn.retired ∧ bankFree on 255 = true) ∧
    bankFree { on with banks := on.banks.set 1 { owner := 0 } } 1 = false ∧
    Accepted (posted (cmd 0x42 0 [5 + 8 * 7]) on) (ctx (cmd 0x42 0 [5 + 8 * 7])) 0x42 ∧
    (on.hasPort 5 = true ∧ (2, 5 * 8 + 7) ∉ on.gdn.retired ∧ lanesLeft on 5 = 8 ∧ (on.ports[5]).state = 0) ∧
    Accepted (posted (cmd 0x43 0 [3 + 256]) on) (ctx (cmd 0x43 0 [3 + 256])) 0x43 ∧
    (on.hasMc 3 = true ∧ (on.mc[3]).present.getLsbD 0 = true ∧ (on.mc[3]).retired.getLsbD 0 = false ∧ rankLines on 3 0 = []) ∧
    Accepted (posted (cmd 0x44 0 [9 <<< 16]) retired4) (ctx (cmd 0x44 0 [9 <<< 16])) 0x44 ∧
    (retired4.hasCore 9 = true ∧ (1, 3) ∈ retired4.gdn.retired ∧ (retired4.mc[1]).retired.getLsbD 0 = true) ∧
    (gdnServes pending7 = true ∧ bankFree pending7 7 = true ∧ (1, 7) ∉ pending7.gdn.retired ∧ (pending7.gdn.tallies.any (fun t => t.pending && t.unit == 7 && t.cls == 3)) = true) :=
  ⟨accepted_of (by decide +kernel), by decide +kernel, by decide +kernel, accepted_of (by decide +kernel), by decide +kernel,
   by decide +kernel, accepted_of (by decide +kernel), by decide +kernel, accepted_of (by decide +kernel), by decide +kernel,
   accepted_of (by decide +kernel), by decide +kernel, by decide +kernel⟩

/-- Counts at the limits; a measurement of region 2 alone; an update refused by a junior, one too long, and the bytes of one in DRAM. -/
theorem witness_CalibrationAndUpdateResults :
    Accepted (posted (cmd 0x81 0 [1]) on) (ctx (cmd 0x81 0 [1])) 0x81 ∧
    Accepted (posted (cmd 0x81 0 [0xF2]) on) (ctx (cmd 0x81 0 [0xF2])) 0x81 ∧
    (99900000 ≤ (100100000 : W32).toNat ∧ (100100000 : W32).toNat ≤ 100100000) ∧
    (gdnServes pending7 = true ∧ pending7.gdn.pol.calibS ≠ 0) ∧ (∀ n, (pending7.chan n).makeup = false) ∧ gdnServes ring2 = true ∧
    (∀ q : RegionId, ring2.hasRegion q = true ∧ (ring2.region q).state = 0 ↔ q = 2) ∧
    Accepted (posted (cmd 0xFF 0 [0x200000, 3]) noPkg) (ctx (cmd 0xFF 0 [0x200000, 3])) 0xFF ∧
    (noPkg.gdn.junior = false ∧ target noPkg 0x200000 = .dram 0x200000 ∧ (∀ l ∈ linesOf 0x200000 3, dramServed noPkg (l * 64) = true)) ∧
    noPkg.sound :=
  ⟨accepted_of (by decide +kernel), accepted_of (by decide +kernel), by decide +kernel, by decide +kernel, by decide +kernel,
   by decide +kernel, by decide +kernel, accepted_of (by decide +kernel), by decide +kernel, sound_of (by decide +kernel)⟩

/-- `on` with region 1 in a state, its cores in WAIT. -/
def dozing (st depth : BitVec 2) : State := { on with
  cores := Vector.ofFn (fun c : CoreId => if c.val = 0 then on.core 0 else { on.core c with run := .wait }),
  pwr := { on.pwr with rgn := on.pwr.rgn.set 1 { state := st, depth := depth } } }
/-- Every region in NAP, the complex about to sleep. -/
def napping (depth : BitVec 2) : State := { on with
  cores := Vector.replicate 64 { run := .wait }, pwr := { on.pwr with depth := depth, rgn := Vector.replicate 4 { state := 2, depth := 2 } } }
/-- PARKED, its clocks released, a doorbell latched. -/
def parked : State := { on with pwr := { on.pwr with complex := 1, clkreq := 0, clkack := 0 }, intc := { on.intc with alatch := on.intc.alatch.set 38 1, mask := on.intc.mask.set 38 0 } }
/-- An ABORT at slot 1 of queue 1 behind an executing command. -/
def aborting (c : GCmd) (j : Option GJob) (w : Word) (s : State) : State :=
  { s with gdn := { s.gdn with fwRuns := true, q := s.gdn.q.set 1 { (s.gdn.q[1]) with slots := [c, cmd 0xF0 0 [w]] }, job := s.gdn.job.set 1 j } }
/-- The ABORT. -/
def actx (w : Word) : GCtx := { q := 1, slot := 1, cmd := cmd 0xF0 0 [w] }

/-- A depth set, a region powered up with and without its clock, the depth of the complex, a region OFF, refused and given up, a clock change, and ABORT of each kind of command. -/
theorem witness_PowerCommandResults :
    Accepted (posted (cmd 0x10 0 [0x12]) (dozing 0 1)) (ctx (cmd 0x10 0 [0x12])) 0x10 ∧
    (posted (cmd 0x10 0 [0x12]) (dozing 0 1)).powerFree 1 ∧
    (((dozing 3 1).region 1).state = 3 ∧ (dozing 3 1).pwr.clkreq.getLsbD 1 = true ∧ (dozing 3 1).pwr.clkack.getLsbD 1 = true) ∧
    Accepted (posted (cmd 0x10 0 [0x13]) (dozing 0 1)) (ctx (cmd 0x10 0 [0x13])) 0x10 ∧ (dozing 0 1).regionAsleep 1 ∧ (dozing 0 1).sound ∧
    (¬∃ i : Fin 16, i.val / 4 = 1 ∧ ((dozing 0 1).movers[i.val]).state = 1) ∧
    (∀ n : SliceId, n.val ≠ 0 → ((dozing 0 1).slices[n.val]).cores = 0 ∧ ((dozing 0 1).slices[n.val]).tmrch = 0 ∧ ((dozing 0 1).slices[n.val]).banks = 0) ∧
    executingOf (doing (cmd 0x10 0 [0x13]) (.off 1) on) 1 = some { q := 1, slot := 0, cmd := run (cmd 0x10 0 [0x13]) } ∧
    Accepted (posted (cmd 0x11 0 [1 + (400 <<< 32)]) on) (ctx (cmd 0x11 0 [1 + (400 <<< 32)])) 0x11 ∧
    (∀ j : ClusterId, policyForbids on j = false) ∧
    nextAbort (aborting (run (cmd 0x20 0 [8])) (some (.quiesce true [3] (List.replicate 16 0))) (1 + (7 <<< 16)) on) 1 = some (1, (actx (1 + (7 <<< 16))).cmd) ∧
    (headerOk (actx (1 + (7 <<< 16))).cmd = true ∧ paramsOk (actx (1 + (7 <<< 16))).cmd = true) ∧
    abortTarget (aborting (run (cmd 0x20 0 [8])) none (1 + (7 <<< 16)) on) 1 7 = some (0, run (cmd 0x20 0 [8])) ∧
    (abortTarget (aborting (cmd 2 0 [8]) none (1 + (7 <<< 16)) on) 1 7 = some (0, cmd 2 0 [8]) ∧ abortTarget on 1 7 = none) :=
  ⟨accepted_of (by decide +kernel), by intro j _; revert j; decide +kernel, by decide +kernel, accepted_of (by decide +kernel),
   regionAsleep_of (by decide +kernel), sound_of (by decide +kernel), by decide +kernel, by decide +kernel, by decide +kernel,
   accepted_of (by decide +kernel), by decide +kernel, by decide +kernel, by decide +kernel, by decide +kernel, by decide +kernel⟩

/-- IDLE, NAP, a wake of a region, the complex asleep and called, and an acknowledgement that ends a wake. -/
theorem witness_PowerStateResults :
    (isActive (dozing 0 1) = true ∧ (dozing 0 1).pwr.start = .running ∧ ((dozing 0 1).region 1).waking = false) ∧
    (dozing 0 1).regionAsleep 1 ∧ ¬(dozing 0 1).regionCalled 1 ∧ (dozing 1 2).regionAsleep 1 ∧ ¬(dozing 1 2).regionCalled 1 ∧
    (dozing 1 2).sound ∧ (∀ q : Fin 4, (dozing 1 2).gdn.job[q.val] = none) ∧ (dozing 0 0).regionCalled 1 ∧
    (((dozing 1 2).tmr[1]).stopped = false ∧ (dozing 2 2).hasRegion 1 = true) ∧
    ((∀ r : RegionId, 2 ≤ ((napping 2).region r).state.toNat ∧ ((napping 2).region r).waking = false) ∧ (∀ p : PortId, ((napping 2).ports[p.val]).state = 0) ∧ (napping 2).tme.quiesced = true) ∧
    ((∀ i : Fin 16, ((napping 2).movers[i.val]).state ≠ 1) ∧ (∀ q : Fin 4, ((napping 2).gdn.q[q.val]).slots = []) ∧ isActive (napping 2) = true) ∧
    ¬(napping 2).complexCalled ∧ parked.complexCalled ∧ (parked.pwr.clkack = 0 ∧ parked.pwr.complex ≠ 0) ∧
    (clkPresent on 1 = true ∧ clkPresent { on with build := { on.build with regions := 1 } } 1 = false) ∧ on.resting :=
  ⟨by decide +kernel, regionAsleep_of (by decide +kernel), regionQuiet_of (by decide +kernel), regionAsleep_of (by decide +kernel),
   regionQuiet_of (by decide +kernel), sound_of (by decide +kernel), by decide +kernel, .inl (by decide +kernel), by decide +kernel,
   by decide +kernel, by decide +kernel,
   fun h => h.elim (fun ⟨g, h⟩ => by revert h; revert g; decide +kernel) (fun h => h.elim (fun h => h rfl) (fun h => absurd h.1 (by decide +kernel))),
   .inl ⟨38, by decide +kernel⟩, by decide +kernel, by decide +kernel, resting_of (by decide +kernel)⟩

/-- wz_sysrst_n low, the clocks off. -/
def inSysrst : State := { State.reset with pwr := { por := false, sysrst := true } }
/-- The start-up sequence at a step, clocks on. -/
def starting (st : StartStep) : State := { on with pwr := { on.pwr with start := st, rgn := Vector.replicate 4 {} }, cores := Vector.replicate 64 {} }
/-- A block of the lanes with its CRC. -/
def blk (typ : Nat) (seq ack : BitVec 12) (cls cnt fill : Nat) (payload : List Byte) : List Byte :=
  let d := leBytes 1 typ ++ leBytes 3 (seq.toNat + ack.toNat * 4096) ++ leBytes 2 (cls + cnt * 8) ++ leBytes 1 fill ++ [0] ++
    payload ++ List.replicate (240 - payload.length) 0
  d ++ leBytes 4 (ethCrc d).toNat ++ [0, 0, 0, 0]
/-- `on` with port 1 in a state, its lanes locked, with the replay buffer `r`. -/
def linked (st : BitVec 3) (r : List TxBlock) : State := { on with
  ports := on.ports.set 1 { on.ports[1] with state := st, width := 0, active := 0xFF, locked := 0xFF, peer := 0x123, rxSeq := 5, txSeq := 9, replay := r, credits := #v[3, 2, 1, 0, 9] } }
/-- A block outstanding. -/
def sent (seq : BitVec 12) (tries : Nat) : TxBlock := { seq := seq, msgs := [{ cls := 4, op := 0, src := 0, dst := 0x123, tag := 1 }], tries := tries }
/-- Port 1 ADMITTING, the peer's table there. -/
def admitting (got : Option (List (BitVec 12 × BitVec 4) × Byte)) : State :=
  let s := linked 3 []
  { s with ports := s.ports.set 1 { s.ports[1] with admitSent := true, admitGot := got } }
/-- Port 1 COHERENT with two members behind it. -/
def coherent : State := { linked 4 [] with
  members := (on.members.set 1 { node := 0x123, valid := true, port := 1, hops := 1 }).set 2 { node := 0x124, valid := true, port := 1, hops := 2 } }

/-- Both releases, each step of the start-up, a doorbell, the Gardener serving. -/
theorem witness_ResetAndStartResults :
    (State.reset.pwr.start = .inReset ∧ State.reset.pwr.clkack = 0 ∧ State.reset.pwr.por = true ∧ State.reset.pwr.sysrst = false) ∧
    (inSysrst.pwr.start = .inReset ∧ inSysrst.pwr.clkack = 0 ∧ inSysrst.pwr.por = false ∧ inSysrst.pwr.sysrst = true) ∧
    ((starting .step1).pwr.start = .step1 ∧ clkOn (starting .step1) 5 = true) ∧
    ((starting .step2).pwr.start = .step2 ∧ gdnRuns (starting .step2) = true ∧ (starting .step2).gdn.junior = false ∧ (starting .step2).gdn.badSlot = none) ∧
    (imageValid (starting .step2) (starting .step2).gdn.flash.slotA = false ∧ imageValid (starting .step2) (starting .step2).gdn.flash.slotB = false) ∧
    (starting .step2).gdn.flash.inForce 7 0 = none ∧
    ((starting .step3).pwr.start = .step3 ∧ gdnRuns (starting .step3) = true ∧ (starting .step3).gdn.flash.inForce 2 0 = none) ∧
    ((starting .step4).pwr.start = .step4 ∧ gdnRuns (starting .step4) = true ∧ (starting .step4).gdn.flash.inForce 1 0 = none) ∧
    ((starting .step5).pwr.start = .step5 ∧ gdnRuns (starting .step5) = true) ∧ (starting .step5).resting ∧
    (∀ m : McId, (starting .step5).hasMc m = true → clkOn (starting .step5) (7 + m.val) = true) ∧
    ((starting .step6).pwr.start = .step6 ∧ (starting .step6).hasCore 0 = true ∧ ((starting .step6).core 0).retired = false ∧ ((starting .step6).core 0).run = .held ∧ (starting .step6).pwr.boot = none) ∧
    (∀ r : RegionId, clkOn (starting .step6) r.val = true ∧ ((starting .step6).region r).state = 3) ∧
    (on.hasCore 1 = true ∧ (on.core 1).run = .held ∧ (on.core 1).retired = false ∧ coreClocked on 1 = true ∧ bitAt on.intc.pend (1216 + 1) = false) ∧
    (gdnServes pending7 = true ∧ State.reset.gdn.keys = none) :=
  ⟨by decide +kernel, by decide +kernel, by decide +kernel, by decide +kernel, by decide +kernel, by decide +kernel, by decide +kernel,
   by decide +kernel, by decide +kernel, resting_of (by decide +kernel), by decide +kernel, by decide +kernel, by decide +kernel,
   by decide +kernel, by decide +kernel⟩

/-- Port 1 UP and training, with blocks of each type, one with a bad CRC, a replay buffer at its last attempt, and a message with credits and without. -/
theorem witness_LinkResults :
    ((linked 2 []).hasPort 1 = true ∧ portRuns (linked 2 []) 1 = true ∧ portLinked (linked 2 []) 1 = true ∧ portLinked (linked 1 []) 1 = true) ∧
    (chooseWidth 0xFC 1 0 = some (1, 0xF0) ∧ chooseWidth 0x81 0 0 = none) ∧ blkGood (blk 0 0 7 0 3 0 []) 0 = true ∧
    blkType (blk 0 0 7 0 3 0 []) = 0 ∧ blkGood (blk 1 5 7 0 3 240 []) 0 = true ∧
    (blkSeq (blk 1 5 7 0 3 240 []) = 5 ∧ blkType (blk 1 5 7 0 3 240 []) = 1) ∧ blkGood (blk 2 0 7 0 3 0 []) 0 = true ∧
    (blkType (blk 2 0 7 0 3 0 []) = 2 ∧ blkType (blk 3 0 7 0 3 0 []) = 3 ∧ blkType (blk 255 0 7 0 3 0 []) = 255) ∧
    blkGood (blk 3 0 7 0 3 0 []) 0 = true ∧ blkGood (blk 255 0 7 0 3 0 []) 0 = true ∧ blkGood (blk 2 0 7 0 3 0 []) 1 = false ∧
    (((linked 2 [sent 7 15]).ports[1]).replay ≠ [] ∧ (∀ b ∈ ((linked 2 [sent 7 15]).ports[1]).replay, ∀ l : Fin 8, b.bad[l.val] = 0)) ∧
    (((linked 4 []).ports[1]).txq = [] ∧ portCarries (linked 4 []).ports[1] 2 = true ∧ ((linked 4 []).ports[1]).credits[2] = 1 ∧ (∀ i : Fin 5, ((linked 4 []).ports[1]).owed[i.val] = 0)) :=
  ⟨by decide +kernel, by decide +kernel, blkGood_crc _ (by decide +kernel) (by decide +kernel), by decide +kernel,
   blkGood_crc _ (by decide +kernel) (by decide +kernel), by decide +kernel, blkGood_crc _ (by decide +kernel) (by decide +kernel),
   by decide +kernel, blkGood_crc _ (by decide +kernel) (by decide +kernel), blkGood_crc _ (by decide +kernel) (by decide +kernel),
   by decide +kernel, by decide +kernel, by decide +kernel⟩

/-- Port 1 UP, ADMITTING, COHERENT and DEPARTING, the master allowed and the accesses quiet. -/
theorem witness_DomainResults :
    (isActive (linked 2 []) = true ∧ (linked 2 []).hasPort 1 = true ∧ (linked 2 []).pwr.clkreq.getLsbD 12 = true ∧ (linked 2 []).pwr.clkack.getLsbD 12 = true ∧ ((linked 2 []).ports[1]).en = true) ∧
    (linked 2 []).resting ∧
    (((linked 2 []).ports[1]).maxw = 0 ∧ ((linked 2 []).ports[1]).state = 2 ∧ (linked 2 []).tme.quiesced = true ∧ (∀ i : Fin 16, ((linked 2 []).movers[i.val]).state ≠ 1) ∧ ((linked 2 []).ports[1]).admitGot = none) ∧
    membersVia coherent 1 = [0x123, 0x124] ∧ coherent.resting ∧
    (((admitting none).ports[1]).state = 3 ∧ ((admitting none).ports[1]).admitSent = true) ∧
    admitReason (admitting (some ([(0x200, 0), (0x201, 1)], 2))) [(0x200, 0), (0x201, 1)] 2 = 0 ∧
    (admitting (some ([(0x200, 0), (0x201, 1)], 2))).resting ∧
    ([(0x200, 0), (0x201, 1)] : List (BitVec 12 × BitVec 4)).Pairwise (fun a b => a.1 ≠ b.1) ∧
    (((linked 5 []).ports[1]).state = 5 ∧ departureOver (linked 5 []) 1 = true) ∧ (linked 5 []).resting :=
  ⟨by decide +kernel, resting_of (by decide +kernel), by decide +kernel, by decide +kernel, resting_of (by decide +kernel),
   by decide +kernel, by decide +kernel, resting_of (by decide +kernel), by decide +kernel, by decide +kernel,
   resting_of (by decide +kernel)⟩

/-- `coherent` with messages received on port 1. -/
def hears (l : List Msg) : State := { coherent with ports := coherent.ports.set 1 { coherent.ports[1] with rxq := l } }
/-- A message from node 0x123 to this complex. -/
def msg (cls op : Nat) (addr : Nat) (mask : BitVec 16) (d : List Byte) : Msg := { cls := cls, op := op, src := 0x123, dst := 0, tag := 7, addr := BitVec.ofNat 40 addr, mask := mask, data := d }
/-- A request outstanding at node 0x123. -/
def asked (op : Nat) (w : Waiter) : Pending := { tag := 7, node := 0x123, op := op, addr := 0x10_0000_0000_0000 + 0x123 * 2 ^ 40 + 0x1040, who := w }
/-- A cached copy of a line of node 0x123. -/
def rem (modified : Bool) : RemLine := { line := (2 ^ 52 + 0x123 * 2 ^ 40 + 0x1040) / 64, data := List.replicate 64 5, excl := true, modified := modified }

/-- Messages of each class at their home, at a holder, and as answers; one of another node; one whose OP is not listed. -/
theorem witness_CouplingMessageResults :
    Handles (hears [msg 0 0 0x1040 0 []]) 1 (msg 0 0 0x1040 0 []) ∧
    Handles (hears [msg 0 5 0x1040 0xFF (List.replicate 17 1)]) 1 (msg 0 5 0x1040 0xFF (List.replicate 17 1)) ∧
    Handles (hears [msg 0 6 0x1040 0 []]) 1 (msg 0 6 0x1040 0 []) ∧ Handles (hears [msg 2 1 0x1040 0 []]) 1 (msg 2 1 0x1040 0 []) ∧
    Handles (hears [msg 1 0 0 0 (List.replicate 64 1)]) 1 (msg 1 0 0 0 (List.replicate 64 1)) ∧
    Handles (hears [msg 3 1 0x1040 64 []]) 1 (msg 3 1 0x1040 64 []) ∧
    Handles (hears [msg 4 2 0 0 (tableBytes 1 [(0x300, 2)])]) 1 (msg 4 2 0 0 (tableBytes 1 [(0x300, 2)])) ∧
    Handles (hears [msg 0 9 0 0 []]) 1 (msg 0 9 0 0 []) ∧
    (localTarget (hears []) 0x1040 = .dram 0x1040 ∧ localTarget (hears []) 0x7F_FFFF_FFC0 = .bad) ∧ (hears []).sound ∧
    Handles { hears [msg 0 6 0x1040 0 []] with dir := [{ line := 0x41, holders := [0x123], excl := false }] } 1 (msg 0 6 0x1040 0 []) ∧
    Handles { hears [msg 2 1 0x1040 0 []] with remote := [rem true] } 1 (msg 2 1 0x1040 0 []) ∧
    Handles { hears [msg 1 0 0 0 (List.replicate 64 1)] with cplWait := [asked 64 .none], dir := [{ line := (0x1040 : Nat) / 64, holders := [0x123], excl := true }] } 1 (msg 1 0 0 0 (List.replicate 64 1)) ∧
    Handles { hears [msg 3 2 0 0 [1]] with cplWait := [asked 97 (.mover 3)], movers := on.movers.set 3 { state := 1, waiting := true } } 1 (msg 3 2 0 0 [1]) ∧
    ((asked 64 .none).addr % 2 ^ 40 = 0x1040 ∧ portTo (hears []) 0x123 = some 1 ∧ portTo (hears []) 0x555 = none) ∧
    (tableOf (tableBytes 1 [(0x300, 2)]) = [(0x300, 2)] ∧ blockField (tableBytes 1 [(0x300, 2)]) 1 1 / 64 = 1 ∧ memberOf (hears []) 0x300 = none ∧ ∃ i : Fin 16, ((hears []).members[i.val]).valid = false) ∧
    ((msg 0 9 0 0 []).listed = false ∧ { msg 0 0 0 0 [] with dst := 0x124 }.dst ≠ (hears []).node) :=
  ⟨handles_of (by decide +kernel), handles_of (by decide +kernel), handles_of (by decide +kernel), handles_of (by decide +kernel),
   handles_of (by decide +kernel), handles_of (by decide +kernel), handles_of (by decide +kernel), handles_of (by decide +kernel),
   by decide +kernel, sound_of (by decide +kernel), handles_of (by decide +kernel), handles_of (by decide +kernel),
   handles_of (by decide +kernel), handles_of (by decide +kernel), by decide +kernel, by decide +kernel, by decide +kernel⟩

/-- `on` with the train message engine enabled, node 0x200 reached by it, and a window over the first 64 MiB. -/
def train (ps : List TmePeer) : State := { on with tme := { on.tme with
  en := true, quiesced := false, reach := 1 <<< 0x200, peers := ps, rxsize := 4, txsize := 4, txbase := 0x4000, rxbase := 0x8000,
  win := on.tme.win.set 0 { base := 0, limit := 0x4000, perm := 7 } } }
/-- A frame of the stream port from node 0x200 to this complex, with its CRC. -/
def frm (kind flags : Nat) (seq ack : BitVec 16) (len status addr tag : Nat) (d : List Byte) : List Byte :=
  let h : List Byte := leBytes 1 (kind * 16) ++ leBytes 1 flags ++ leBytes 2 0x200 ++ leBytes 2 0 ++ leBytes 2 seq.toNat ++ leBytes 2 ack.toNat ++ leBytes 2 len ++
    leBytes 2 status ++ [0, 0] ++ leBytes 8 addr ++ leBytes 8 tag ++ d
  [0, 0, 0, 0, 0, 0, 0, 0, 0, 0, 2, 0, 0x88, 0xB5] ++ h ++ leBytes 4 (ethCrc h).toNat
/-- A peer with a frame outstanding, its SEQ 5. -/
def peer1 (tries : Nat) : TmePeer := { node := 0x200, txSeq := 6, out := [{ kind := 2, src := 0, dst := 0x200, seq := 5, len := 48 }], tries := tries, rx := some 9 }
/-- Bits of an operand byte. -/
def desc1 : List Byte := leBytes 8 (0x200 + (16 <<< 32)) ++ leBytes 8 0x6000

/-- A frame in error; an acknowledgement of nothing and of a frame; each sequenced kind in its turn; a duplicate; the exchange; retransmission; the ring. -/
theorem witness_TmeResults :
    (fabRuns (train []) = true ∧ (train []).tme.en = true ∧ frameGood (train []) [] false = false ∧ on.tme.en = false) ∧
    Taken (train []) (frm 0 0 0 7 0 0 0 0 []) (frameOf ((frm 0 0 0 7 0 0 0 0 []).drop 14)) ∧
    (frameGood (train [peer1 3]) (frm 0 0 0 5 0 0 0 0 []) false = true ∧ (tmePeer (train [peer1 3]) 0x200).out.map TmeFrame.seq = [5] ∧ (frameOf ((frm 0 0 0 5 0 0 0 0 []).drop 14)).ack = 5) ∧
    (frameGood (train []) (frm 8 0 0 0 0 0 0 0 []) false = true ∧ (frameOf ((frm 8 0 0 0 0 0 0 0 []).drop 14)).kind = 8) ∧
    InTurn (train []) (frm 1 1 10 0xFFFF 1 0 0x1040 0 [7]) (frameOf ((frm 1 1 10 0xFFFF 1 0 0x1040 0 [7]).drop 14)) ∧
    (winCovers (train []) 0x1040 1 true = true ∧ winCovers on 0x1040 1 true = false) ∧
    InTurn (train []) (frm 4 1 10 0xFFFF 64 0 0x1040 0 []) (frameOf ((frm 4 1 10 0xFFFF 64 0 0x1040 0 []).drop 14)) ∧
    InTurn (train []) (frm 2 1 10 0xFFFF 24 0 0 0 (leBytes 8 (0x1040 + 3 * 2 ^ 40) ++ List.replicate 16 1)) (frameOf ((frm 2 1 10 0xFFFF 24 0 0 0 (leBytes 8 (0x1040 + 3 * 2 ^ 40) ++ List.replicate 16 1)).drop 14)) ∧
    InTurn (train []) (frm 3 1 10 0xFFFF 1 0 0 0 [7]) (frameOf ((frm 3 1 10 0xFFFF 1 0 0 0 [7]).drop 14)) ∧
    (BitVec.ofNat 12 (((train []).tme.rxhead.toNat + 1) % ringSlots (train []).tme.rxsize)) ≠ (train []).tme.rxtail ∧
    InTurn { train [] with movers := on.movers.set 5 { state := 1, waiting := true } } (frm 5 1 10 0xFFFF 1 0 0 5 [7]) (frameOf ((frm 5 1 10 0xFFFF 1 0 0 5 [7]).drop 14)) ∧
    Taken (train [peer1 3]) (frm 1 0 9 0xFFFF 0 0 0 0 []) (frameOf ((frm 1 0 9 0xFFFF 0 0 0 0 []).drop 14)) ∧
    (tmePeer (train [peer1 3]) 0x200).rx = some 9 ∧
    Taken (train []) (frm 6 0 0 0xFFFF 0 0 0 0 []) (frameOf ((frm 6 0 0 0xFFFF 0 0 0 0 []).drop 14)) ∧
    Taken { train [] with tme := { (train []).tme with tbxStat := 1, tbxNode := 0x200 } } (frm 7 0 0 0xFFFF 0 0 0 0 []) (frameOf ((frm 7 0 0 0xFFFF 0 0 0 0 []).drop 14)) ∧
    ((tmePeer (train [peer1 8]) 0x200).tries = 8 ∧ (train [peer1 8]).tme.acc = none ∧ (train [peer1 8]).tme.txhead = (train [peer1 8]).tme.txtail) ∧
    (train [peer1 8]).coresRest ∧
    (dramRange (train []) (txSlot (train []) 0) 32 = true ∧ reachOf (train []) 0x200 = .tme ∧ isActive (train []) = true ∧ 1 ≤ (train []).tme.txsize.toNat) :=
  ⟨by decide +kernel, taken_of (by decide +kernel), by decide +kernel, by decide +kernel, inTurn_of (by decide +kernel),
   by decide +kernel, inTurn_of (by decide +kernel), inTurn_of (by decide +kernel), inTurn_of (by decide +kernel), by decide +kernel,
   inTurn_of (by decide +kernel), taken_of (by decide +kernel), by decide +kernel, taken_of (by decide +kernel),
   taken_of (by decide +kernel), by decide +kernel, coresRest_of (by decide +kernel), by decide +kernel⟩

/-- A line to scrub; requests of wz_ss_* to DRAM, to a register and outside; an answer for the debug port; an access of it. -/
theorem witness_DramPortAndTickResults :
    (fabRuns on = true ∧ on.scrub ≠ 0 ∧ dramServed on (5 * 64) = true ∧ (on.mc[(rankAt on (5 * 64)).1.val]).training = false) ∧
    (isActive on = true ∧ on.pwr.start = .running ∧ target on 0x1000 = .dram 0x1000 ∧ target on 0x7F_FFFF_FFC0 = .bad ∧ target on 0xC0_0000_0000 = .regs 0 ∧ regWaits on 4 = false) ∧
    on.resting ∧ on.sound ∧
    ((starting .step4).pwr.start = .step4 ∧ isActive (starting .step4) = true ∧ target (starting .step4) 0x1000 = .dram 0x1000) ∧
    (starting .step4).resting ∧ on.coresRest ∧ (on.tap.busy = false ∧ (0x1002 : BitVec 53).toNat % 4 ≠ 0 ∧ isActive State.reset = false) ∧
    (on.hasMc 3 = true ∧ on.pwr.por = false) :=
  ⟨by decide +kernel, by decide +kernel, resting_of (by decide +kernel), sound_of (by decide +kernel), by decide +kernel,
   resting_of (by decide +kernel), coresRest_of (by decide +kernel), by decide +kernel, by decide +kernel⟩

/-- Reset memory has the form, and the first step of it goes on. -/
theorem witness_StepKeepsMemoryForm :
    Memory.wf State.reset.mem = true ∧ (∃ t, step State.reset = .next t) :=
  ⟨by decide +kernel, ⟨_, rfl⟩⟩

/-- A command that goes on. -/
theorem witness_CommandsKeepQueueAndBuild :
    (∃ t, exec .tapReset State.reset = .next t) :=
  ⟨_, rfl⟩

/-! ### Terms that WellFormed refuses, one for each check -/

/-- A reserved encoding that is none: 00 is NOP. -/
theorem test_refuses_reserved : (Instr.reservedEncoding 0 [0x00]).wf = false := by decide +kernel
/-- FCVT whose operand byte names another row; FSTK and FMOV whose operand byte names another row. -/
theorem test_refuses_float_rows :
    [Instr.fcvtFloatToFloat 0 4, .fcvtIntegerToFloat 0 0, .fcvtFloatToInteger 0 12, .fcvtFloatToIntegerTowardZero 0 8, .fdup 0 4,
     .fdrop 0 0, .fswap 0 4, .fover 0 8, .frot 0 12, .fpush 0 4, .fpop 0 0].all (fun i => !i.wf) = true := by decide +kernel
/-- Repeats whose body is neither an instruction nor bytes of a reserved encoding. -/
theorem test_refuses_bodies : [Instr.rpt 0 (.reserved [0x20]) 1, .rptn 0 3 (.reserved [])].all (fun i => !i.wf) = true := by decide +kernel
/-- An answer of more than a line; a fetch of no bytes and of 13. -/
theorem test_refuses_answers :
    [Instr.loadDataReturn 0 (.bytes (List.replicate 65 0)), .tableWalk 0 .fetch 0 [], .tableWalk 0 .fetch 0 (List.replicate 13 0)].all
      (fun i => !i.wf) = true := by decide +kernel
/-- Places past the dispatch table and past the control store. -/
theorem test_refuses_places :
    [Instr.wordRepair 0 true 1024, .wordRepair 0 false 16384, .checkPortScan 0 [(false, 5), (true, 1024)]].all (fun i => !i.wf) = true := by
  decide +kernel
/-- A measurement that does not give four regions a count. -/
theorem test_refuses_measurement : (Instr.ringOscillatorMeasurement [1, 2, 3] 0).wf = false := by decide +kernel
/-- Blocks that are not 256 bytes; a LINK block without a size for each class. -/
theorem test_refuses_blocks :
    [Instr.dataBlock 0 [] 0, .nak 0 (List.replicate 255 0) 0, .idleBlock 0 (List.replicate 257 0) 0, .badTypeBlock 0 [1] 0,
     .linkBlock 0 [] 0 [1, 1, 1, 1, 1] 0 0, .linkBlock 0 (List.replicate 256 0) 0 [1, 1, 1, 1] 0 0].all (fun i => !i.wf) = true := by
  decide +kernel
/-- Frames above 1,074 bytes. -/
theorem test_refuses_frames :
    [Instr.ack, .write, .writeRec, .msg, .readReq, .readData, .tbxReq, .tbxRsp, .reservedKindFrame].all
      (fun f => !(f (List.replicate 1075 0) false).wf) = true := by decide +kernel
/-- A holding word that the system counter does not have (R419). -/
theorem test_refuses_holding_word : (Instr.holdingWordWrite .host none .cnt 0).wf = false := by decide +kernel
/-- A line past the address space; bursts of no beat and of five; a response of five beats. -/
theorem test_refuses_ports :
    [Instr.patrolScrub (2 ^ 32) none, .ssWrite 0 0 [] false, .ssWrite 0 0 (List.replicate 5 (0, 0)) false,
     .smResponse 0 true (List.replicate 5 0)].all (fun i => !i.wf) = true := by decide +kernel

/-! ### Single effects, with results that the spec works out -/

/-- The operand stack of core 0 after a command, from the top down. -/
def opsAfter (i : Instr) (s : State) : List Word := match exec i s with
  | .next t => (t.core 0).ops
  | _ => []

/-- A till of core 0 after a command. -/
def tillAfter (i : Instr) (x : Nat) (s : State) : Till := match exec i s with
  | .next t => (t.core 0).tills.toList.getD x 0
  | _ => 0

/-- `ops` under a rounding mode of FXCTL, without saturation. -/
def opsRm (rm : BitVec 2) (l : List Word) : State := (ops l).modCore 0 (fun k => { k with fxctl := rm.setWidth 64 })

/-- Till 0 of core 0 at the 1,164.5 LSB of the PI step in 05_fractional.md, under a rounding mode. -/
def tillTie (rm : BitVec 2) : State :=
  (opsRm rm []).modCore 0 (fun k => { k with tills := k.tills.set 0 0x00048C80000000000000 })

/-- 03_encoding.md, STEPDOOR: `LDL 1; LDL 0; SUB; DUP; LIT8 24; B.LT +5; DROP; ST16; RET.1`. -/
theorem test_bytes_of_stepdoor :
    ([.ldl 1, .ldl 0, .alu .sub, .stk .dup, .lit8 24, .br .lt 5, .stk .drop, .st 1, .ret012 1] : List CoreOp).flatMap opBytes =
    [0x47, 1, 0x47, 0, 0x21, 0x01, 0x1C, 0x18, 0x62, 5, 0x02, 0x51, 0x8B] := by decide +kernel
/-- 04_instructions.md: EXTU 10 3 is 3B 0A 02 and INS 10 3 is 3D 0A 02. -/
theorem test_bytes_of_fields : opBytes (.fld .extu 10 2) ++ opBytes (.fld .ins 10 2) = [0x3B, 0x0A, 0x02, 0x3D, 0x0A, 0x02] := by
  decide +kernel
/-- 04_instructions.md: EXTU 10 3 pushes the lock state of bits 12:10. -/
theorem test_extu_lock_state : opsAfter (.extu 0 10 2) (ops [0xE9FF]) = [2] := by decide +kernel
/-- 04_instructions.md: INS 10 3 writes a new lock state into the word below it. -/
theorem test_ins_lock_state : opsAfter (.ins 0 10 2) (ops [5, 0xE3FF]) = [0xF7FF] := by decide +kernel
/-- 03_encoding.md: FMACXY.Q15 T0 is 9E 00; its repeat prefix RPTN 32 is F1 1F. 07_vector.md: VLDX.Q15 M1, Z is F5 54 08 09. -/
theorem test_bytes_of_prefixed : opBytes (.frac .fmacxy 0) = [0x9E, 0x00] ∧ opBytes (.vec .vldx 8 (some 9)) = [0xF5, 0x54, 0x08, 0x09] := by
  decide +kernel
/-- 05_fractional.md, PI step: TMAC.Q15 of 24,576 and 1,234 adds 925.5 LSB to 239 LSB. -/
theorem test_tmac_pi_step :
    tillAfter (.tmac 0 0) 0 ((ops [0x6000, 1234]).modCore 0 (fun k => { k with tills := k.tills.set 0 (239 <<< 56) })) =
    0x00048C80000000000000 := by decide +kernel
/-- 05_fractional.md: TRD.Q15 of 1,164.5 LSB under the four rounding modes. -/
theorem test_trd_tie :
    [0, 1, 2, 3].map (fun rm => opsAfter (.trd 0 0) (tillTie rm)) = [[1164], [1165], [1164], [1164]] := by decide +kernel
/-- 05_fractional.md: QMUL.Q15 of 24,576 and −1,234 under the four rounding modes. -/
theorem test_qmul_negative_tie :
    [0, 1, 2, 3].map (fun rm => opsAfter (.qmul 0 0) (opsRm rm [-1234, 0x6000])) = [[-926], [-925], [-926], [-925]] := by decide +kernel
/-- 04_instructions.md: the CRC of the nine digits. -/
theorem test_crc_of_digits : ethCrc [0x31, 0x32, 0x33, 0x34, 0x35, 0x36, 0x37, 0x38, 0x39] = 0xCBF4_3926 := by decide +kernel
/-- 00_scope.md: WZ_ID_CONFIG of a Weazan-32 build with WZ_VLEN = 256. -/
theorem test_id_config : idConfig { regions := 2, wide := false } = 0x0026_4802 := by decide
/-- 01_hierarchy.md: bank 150 of node 0x2A7 by its local and by its remote address. -/
theorem test_remote_address :
    target on 0x80_012C_0000 = .spm 150 0x80_012C_0000 ∧
    target { on with node := 0x2A7 } 0x12_A780_012C_0000 = .spm 150 0x80_012C_0000 := by decide +kernel
/-- 17_coupling.md: the exchange from node 0x2A8. -/
theorem test_tbx_exchange : tbxDelta 812397000000 812399500400 812399500450 812397000850 = 2500000 := by decide
/-- 18_dram.md: 0x00_4000_0000 with four channels and ILV = 1 is channel address 0x1000_0000 of channel 0. -/
theorem test_dram_interleave :
    dramMap { on with ilv := true } 0x4000_0000 = (0, 0x1000_0000) := by decide +kernel

end

end Sys2Proof.Tests
end

section
namespace Sys2Proof.Machine

/-! ### Words by their bits -/

/-- The sum of the powers of 2 at the bits that `f` sets below `n`. -/
def bitSum (f : Nat → Bool) (n : Nat) : Nat := ((List.range n).map (fun i => if f i then 2 ^ i else 0)).sum

theorem bitSum_succ (f : Nat → Bool) (n : Nat) : bitSum f (n + 1) = bitSum f n + if f n then 2 ^ n else 0 := by
  simp [bitSum, List.range_succ]

theorem bitSum_lt (f : Nat → Bool) (n : Nat) : bitSum f n < 2 ^ n := by
  induction n with
  | zero => simp [bitSum]
  | succ n ih => rw [bitSum_succ, Nat.pow_succ]; split <;> omega

theorem testBit_bitSum (f : Nat → Bool) (n i : Nat) : (bitSum f n).testBit i = (decide (i < n) && f i) := by
  induction n with
  | zero => simp [bitSum]
  | succ n ih =>
    have key : bitSum f (n + 1) = 2 ^ n * (f n).toNat + bitSum f n := by
      rw [bitSum_succ]; cases f n <;> simp [Nat.add_comm]
    rw [key, Nat.testBit_two_pow_mul_add _ (bitSum_lt f n), ih]
    rcases Nat.lt_trichotomy i n with h | h | h
    · simp [h, Nat.lt_succ_of_lt h]
    · subst h; cases f i <;> simp
    · have h1 : ¬ i < n := by omega
      have h2 : ¬ i < n + 1 := by omega
      have h3 : (f n).toNat < 2 ^ (i - n) :=
        Nat.lt_of_lt_of_le (Bool.toNat_lt _) (by simpa using Nat.pow_le_pow_right (n := 2) (by decide) (show 1 ≤ i - n by omega))
      simp [h1, h2, Nat.testBit_lt_two_pow h3]

@[simp] theorem getLsbD_wordOfBits (f : Nat → Bool) (i : Nat) : (wordOfBits f).getLsbD i = (decide (i < 64) && f i) := by
  show (BitVec.ofNat 64 (bitSum f 64)).getLsbD i = _
  rw [BitVec.getLsbD_ofNat, testBit_bitSum]
  cases decide (i < 64) <;> rfl

/-- A word whose bits are given by `f` is the word of those bits. -/
theorem eq_wordOfBits {x : Word} {f : Nat → Bool} (h : ∀ i < 64, x.getLsbD i = f i) : x = wordOfBits f :=
  BitVec.eq_of_getLsbD_eq (fun i hi => by rw [h i hi, getLsbD_wordOfBits, decide_eq_true hi, Bool.true_and])

/-! ### Words by their values -/

theorem wrap_natCast (n : Nat) : wrap (n : Int) = BitVec.ofNat 64 n := BitVec.ofInt_natCast 64 n
theorem wrap_toInt (a : Word) : wrap a.toInt = a := BitVec.ofInt_toInt
theorem wrap_add (x y : Int) : wrap (x + y) = wrap x + wrap y := BitVec.ofInt_add x y
theorem wrap_neg (x : Int) : wrap (-x) = -wrap x := BitVec.ofInt_neg
theorem wrap_sub (x y : Int) : wrap (x - y) = wrap x - wrap y := by
  rw [Int.sub_eq_add_neg, wrap_add, wrap_neg, BitVec.sub_eq_add_neg]
theorem wrap_mul (x y : Int) : wrap (x * y) = wrap x * wrap y := BitVec.ofInt_mul x y

/-- Wrapping forgets a reduction to a signed width of at least 64 bits. -/
theorem wrap_eq_of_toInt {x : Word} {v : Int} (h : x.toInt = v.bmod (2 ^ 64)) : x = wrap v :=
  BitVec.eq_of_toInt_eq (by rw [h]; exact (BitVec.toInt_ofInt v).symm)

theorem sx_eq_wrap {w : Nat} (x : BitVec w) : sx x = wrap x.toInt := rfl

theorem sx_low (a : Word) (n : Nat) : sx (fieldOf a 0 n) = wrap (Int.bmod a.toNat (2 ^ n)) := by
  rw [sx_eq_wrap, BitVec.toInt_eq_toNat_bmod]
  congr 1
  simpa [fieldOf] using Int.emod_bmod (a.toNat : Int) (2 ^ n)

theorem zx_low (a : Word) (n : Nat) : zx (fieldOf a 0 n) = wrap ((a.toNat % 2 ^ n : Nat)) := by
  rw [wrap_natCast]
  exact BitVec.eq_of_toNat_eq (by simp [zx, fieldOf])

theorem abs_eq_wrap (a : Word) : (if a.slt 0 then -a else a) = wrap a.toInt.natAbs := by
  have h0 : a.slt 0 = decide (a.toInt < 0) := rfl
  rw [h0]
  by_cases h : a.toInt < 0
  · rw [if_pos (by simpa using h), Int.ofNat_natAbs_of_nonpos (by omega), wrap_neg, wrap_toInt]
  · rw [if_neg (by simpa using h), Int.natAbs_of_nonneg (by omega), wrap_toInt]

theorem mulhu_eq_wrap (a b : Word) : mulhu a b = wrap ((a.toNat : Int) * b.toNat / 2 ^ 64) := by
  rw [mulhu, ← wrap_natCast]
  congr 1

theorem sdiv_eq_wrap (a b : Word) : a.sdiv b = wrap (a.toInt.tdiv b.toInt) := wrap_eq_of_toInt (BitVec.toInt_sdiv a b)
theorem srem_eq_wrap (a b : Word) : a.srem b = wrap (a.toInt.tmod b.toInt) := by
  rw [← BitVec.toInt_srem, wrap_toInt]
theorem udiv_eq_wrap (a b : Word) : a / b = wrap ((a.toNat / b.toNat : Nat)) := by
  rw [wrap_natCast, ← BitVec.toNat_udiv, BitVec.ofNat_toNat, BitVec.setWidth_eq]
theorem umod_eq_wrap (a b : Word) : a % b = wrap ((a.toNat % b.toNat : Nat)) := by
  rw [wrap_natCast, ← BitVec.toNat_umod, BitVec.ofNat_toNat, BitVec.setWidth_eq]

/-- A choice by `<` is the choice by `≤` where equal words give equal results. -/
theorem ite_slt_eq_ite_le {a b x y : Word} (h : a = b → x = y) : (if a.slt b then x else y) = if a.toInt ≤ b.toInt then x else y := by
  have hlt : a.slt b = decide (a.toInt < b.toInt) := rfl
  rw [hlt]
  rcases lt_trichotomy a.toInt b.toInt with c | c | c
  · simp [c, c.le]
  · simp [c, h (BitVec.eq_of_toInt_eq c)]
  · simp [c.not_gt, c.not_ge]

theorem shl_eq_wrap (a : Word) (n : Nat) : a <<< n = wrap ((a.toNat * 2 ^ n : Nat)) := by
  rw [wrap_natCast]
  exact BitVec.eq_of_toNat_eq (by simp [Nat.shiftLeft_eq])
theorem shr_eq_wrap (a : Word) (n : Nat) : a >>> n = wrap ((a.toNat / 2 ^ n : Nat)) := by
  rw [wrap_natCast, ← Nat.shiftRight_eq_div_pow, ← BitVec.toNat_ushiftRight, BitVec.ofNat_toNat, BitVec.setWidth_eq]
theorem sar_eq_wrap (a : Word) (n : Nat) : a.sshiftRight n = wrap (a.toInt / 2 ^ n) := by
  rw [← wrap_toInt (a.sshiftRight n), BitVec.toInt_sshiftRight, Int.shiftRight_eq_div_pow]
  rfl

/-! ### Bit permutations and counts -/

theorem rol_eq (a : Word) (n : Nat) (h : n < 64) : a.rotateLeft n = wordOfBits (fun i => a.getLsbD ((i + 64 - n) % 64)) := by
  apply eq_wordOfBits
  intro i hi
  rw [BitVec.getLsbD_rotateLeft_of_le h]
  by_cases c : i < n
  · simp only [c, decide_true, cond_true]
    congr 1; omega
  · simp only [c, decide_false, cond_false, hi, decide_true, Bool.true_and]
    congr 1; omega

theorem ror_eq (a : Word) (n : Nat) (h : n < 64) : a.rotateRight n = wordOfBits (fun i => a.getLsbD ((i + n) % 64)) := by
  apply eq_wordOfBits
  intro i hi
  rw [BitVec.getLsbD_rotateRight_of_lt h]
  by_cases c : i < 64 - n
  · simp only [c, decide_true, cond_true]
    congr 1; omega
  · simp only [c, decide_false, cond_false, hi, decide_true, Bool.true_and]
    congr 1; omega

theorem findIdx_eq_length_takeWhile {α : Type} (p : α → Bool) (l : List α) :
    l.findIdx p = (l.takeWhile (fun x => !p x)).length := by
  induction l with
  | nil => rfl
  | cons x t ih => cases h : p x <;> simp [List.findIdx_cons, h, ih]

theorem clz_eq_findIdx (a : Word) : clz a = (List.range 64).findIdx (fun i => a.getLsbD (63 - i)) := by
  unfold clz
  split
  · next h => subst h; decide
  · next h =>
    have hn : a.toNat ≠ 0 := fun e => h (BitVec.eq_of_toNat_eq e)
    have hl : a.toNat.log2 < 64 := (Nat.log2_lt hn).2 a.isLt
    refine ((List.findIdx_eq (by simp; omega)).2 ⟨?_, fun j hj => ?_⟩).symm
    · rw [List.getElem_range, show 63 - (63 - a.toNat.log2) = a.toNat.log2 by omega]
      exact Nat.testBit_log2 hn
    · rw [List.getElem_range]
      exact Nat.testBit_lt_two_pow (Nat.lt_of_lt_of_le Nat.lt_log2_self (Nat.pow_le_pow_right (by decide) (by omega)))

theorem clz_eq (a : Word) : clz a = ((List.range 64).takeWhile (fun i => !a.getLsbD (63 - i))).length := by
  rw [clz_eq_findIdx, findIdx_eq_length_takeWhile]

theorem ctz_eq (a : Word) : ctz a = ((List.range 64).takeWhile (fun i => !a.getLsbD i)).length :=
  findIdx_eq_length_takeWhile _ _

theorem popc_eq (a : Word) : popc a = (List.range 64).countP (fun i => a.getLsbD i) := List.countP_eq_length_filter.symm

/-- The number that a loop builds bit by bit, the first bit ending highest. -/
theorem testBit_foldl_bits (f : Nat → Bool) (n i : Nat) :
    ((List.range n).foldl (fun m j => 2 * m + (f j).toNat) 0).testBit i = (decide (i < n) && f (n - 1 - i)) := by
  induction n generalizing i with
  | zero => simp
  | succ n ih =>
    rw [List.range_succ, List.foldl_append, List.foldl_cons, List.foldl_nil]
    cases i with
    | zero => cases h : f n <;> simp [h]
    | succ i =>
      have half : ∀ m : Nat, (2 * m + (f n).toNat) / 2 = m := fun m => by have := Bool.toNat_lt (f n); omega
      rw [Nat.testBit_add_one, half, ih, Nat.sub_sub, Nat.add_comm 1 i, Nat.add_sub_cancel]
      simp

theorem bitrev_eq (a : Word) : bitrev a = wordOfBits (fun i => a.getLsbD (63 - i)) := by
  apply eq_wordOfBits
  intro i hi
  rw [bitrev, BitVec.getLsbD_ofNat, testBit_foldl_bits]
  simp [hi]

theorem testBit_ofLe (l : List Byte) (i : Nat) : (ofLe l).testBit i = (l.getD (i / 8) 0).getLsbD (i % 8) := by
  induction l generalizing i with
  | nil => simp [ofLe]
  | cons b t ih =>
    rw [ofLe, Nat.add_comm, show 256 = 2 ^ 8 from rfl, Nat.testBit_two_pow_mul_add _ b.isLt]
    split
    · next h => simp [Nat.div_eq_of_lt h, Nat.mod_eq_of_lt h, BitVec.testBit_toNat]
    · next h =>
      rw [ih, show i / 8 = (i - 8) / 8 + 1 by omega, show i % 8 = (i - 8) % 8 by omega]
      rfl

theorem leBytes_eq_map (n v : Nat) : leBytes n v = (List.range n).map (fun k => BitVec.ofNat 8 (v / 256 ^ k)) := by
  induction n generalizing v with
  | zero => rfl
  | succ n ih =>
    rw [leBytes, ih, List.range_succ_eq_map, List.map_cons, List.map_map]
    simp [Nat.pow_succ', Nat.div_div_eq_div_mul, Function.comp_def]

theorem bswap_eq (a : Word) : bswap a = wordOfBits (fun i => a.getLsbD (8 * (7 - i / 8) + i % 8)) := by
  apply eq_wordOfBits
  intro i hi
  rw [bswap, wordOfLe, BitVec.getLsbD_ofNat, testBit_ofLe, leBytes_eq_map]
  have h8 : i / 8 < 8 := by omega
  have hk : ((List.range 8).map (fun k => BitVec.ofNat 8 (a.toNat / 256 ^ k))).reverse.getD (i / 8) 0 =
      BitVec.ofNat 8 (a.toNat / 2 ^ (8 * (7 - i / 8))) := by
    rw [List.getD_eq_getElem?_getD, List.getElem?_reverse (by simpa using h8), Nat.pow_mul]
    simp [show 7 - i / 8 < 8 by omega]
  rw [hk, BitVec.getLsbD_ofNat, Nat.testBit_div_two_pow]
  simp [hi, show i % 8 < 8 by omega, BitVec.getLsbD, Nat.add_comm]

/-! ### Fields -/

theorem getLsbD_fieldMask (l i : Nat) (hl : l ≤ 64) : (fieldMask l).getLsbD i = decide (i < l) := by
  have hv : (fieldMask l).toNat = 2 ^ l - 1 := by
    unfold fieldMask
    split
    · next h => subst h; rfl
    · next h =>
      have hlt : 2 ^ l < 2 ^ 64 := Nat.pow_lt_pow_right (by decide) (by omega)
      have h1 : ((1#64) <<< l).toNat = 2 ^ l := by simpa [Nat.shiftLeft_eq] using hlt
      have h2 : 1 ≤ 2 ^ l := Nat.one_le_two_pow
      rw [BitVec.toNat_sub_of_le (by rw [BitVec.le_def, h1]; exact h2), h1]
      rfl
  rw [← BitVec.testBit_toNat, hv, Nat.testBit_two_pow_sub_one]

theorem getLsbD_extu (a : Word) (p l i : Nat) (hl : l ≤ 64) : (extu a p l).getLsbD i = (decide (i < l) && a.getLsbD (p + i)) := by
  rw [extu, BitVec.getLsbD_and, BitVec.getLsbD_ushiftRight, getLsbD_fieldMask l i hl, Bool.and_comm]

theorem extu_eq (a : Word) (p l : Nat) (hl : l ≤ 64) : extu a p l = wordOfBits (fun i => decide (i < l) && a.getLsbD (p + i)) :=
  eq_wordOfBits (fun i _ => getLsbD_extu a p l i hl)

theorem exts_eq (a : Word) (p l : Nat) (h0 : 0 < l) (hl : l ≤ 64) :
    exts a p l = wordOfBits (fun i => a.getLsbD (p + if i < l then i else l - 1)) := by
  apply eq_wordOfBits
  intro i hi
  have hs : (extu a p l).getLsbD (l - 1) = a.getLsbD (p + (l - 1)) := by
    rw [getLsbD_extu a p l _ hl, decide_eq_true (by omega), Bool.true_and]
  rw [exts, hs]
  by_cases c : i < l <;> cases hb : a.getLsbD (p + (l - 1))
  case pos.false => simp only [Bool.false_eq_true, if_false, getLsbD_extu a p l i hl, c, decide_true, Bool.true_and, if_true]
  case pos.true =>
    simp only [if_true, BitVec.getLsbD_or, BitVec.getLsbD_not, getLsbD_extu a p l i hl, getLsbD_fieldMask l i hl, c, decide_true,
      Bool.true_and, Bool.not_true, Bool.and_false, Bool.or_false]
  case neg.false => simp only [Bool.false_eq_true, if_false, getLsbD_extu a p l i hl, c, decide_false, Bool.false_and, hb]
  case neg.true =>
    simp only [if_true, BitVec.getLsbD_or, BitVec.getLsbD_not, getLsbD_extu a p l i hl, getLsbD_fieldMask l i hl, c, decide_false,
      Bool.false_and, hi, decide_true, Bool.not_false, Bool.and_self, Bool.false_or, if_false, hb]

theorem insField_eq (a b : Word) (p l : Nat) (hl : l ≤ 64) :
    insField a b p l = wordOfBits (fun i => if p ≤ i && decide (i < p + l) then b.getLsbD (i - p) else a.getLsbD i) := by
  apply eq_wordOfBits
  intro i hi
  simp only [insField, BitVec.getLsbD_or, BitVec.getLsbD_and, BitVec.getLsbD_not, BitVec.getLsbD_shiftLeft, getLsbD_fieldMask l _ hl, hi,
    decide_true, Bool.true_and]
  by_cases h1 : i < p
  · simp [h1]
  · have h2 : p ≤ i := by omega
    by_cases h3 : i < p + l
    · simp [h1, h2, h3, show i - p < l by omega]
    · simp [h1, h3, show ¬ i - p < l by omega]

/-! ### The model's integer results are those of the tables -/

theorem aluTable_of_unary {o : AluOp} (h : aluArity o = 1) (a b d : Word) : aluTable o a b d = ([a], some (unary o a)) := by
  have val : ∀ {x y : Word}, x = y → (([a], some x) : List Word × Option Word) = ([a], some y) := fun e => by rw [e]
  cases o with
  | neg => exact val (by rw [wrap_neg, wrap_toInt]; rfl)
  | inc => exact val (by rw [wrap_add, wrap_toInt]; rfl)
  | dec => exact val (by rw [wrap_sub, wrap_toInt]; rfl)
  | abs => exact val (abs_eq_wrap a).symm
  | not => exact val (eq_wordOfBits (fun i hi => by
      rw [show unary .not a = ~~~a from rfl, BitVec.getLsbD_not, decide_eq_true hi, Bool.true_and])).symm
  | clz => exact val (by rw [← clz_eq]; rfl)
  | ctz => exact val (by rw [← ctz_eq]; rfl)
  | popc => exact val (by rw [← popc_eq]; rfl)
  | sx8 => exact val (sx_low a 8).symm
  | sx16 => exact val (sx_low a 16).symm
  | sx32 => exact val (sx_low a 32).symm
  | zx8 => exact val (zx_low a 8).symm
  | zx16 => exact val (zx_low a 16).symm
  | zx32 => exact val (zx_low a 32).symm
  | bswap => exact val (bswap_eq a).symm
  | bitrev => exact val (bitrev_eq a).symm
  | _ => cases h

theorem aluTable_of_binary {o : AluOp} (h : aluArity o = 2) (a b d : Word) :
    aluTable o a b d = ([a, b], if isDivide o && b == 0 then none else some (binary o a b)) := by
  have val : ∀ {x y : Word}, x = y → (([a, b], some x) : List Word × Option Word) = ([a, b], some y) := fun e => by rw [e]
  have quot : ∀ {x y : Word}, x = y →
      (([a, b], if b = 0 then none else some x) : List Word × Option Word) = ([a, b], if true && b == 0 then none else some y) :=
    fun e => by simp [e]
  have hn : count6 b < 64 := Nat.mod_lt _ (by decide)
  cases o with
  | add => exact val (by rw [wrap_add, wrap_toInt, wrap_toInt]; rfl)
  | sub => exact val (by rw [wrap_sub, wrap_toInt, wrap_toInt]; rfl)
  | mul => exact val (by rw [wrap_mul, wrap_toInt, wrap_toInt]; rfl)
  | mulhs => rfl
  | mulhu => exact val (mulhu_eq_wrap a b).symm
  | divs => exact quot (sdiv_eq_wrap a b).symm
  | divu => exact quot (udiv_eq_wrap a b).symm
  | rems => exact quot (srem_eq_wrap a b).symm
  | remu => exact quot (umod_eq_wrap a b).symm
  | min => exact val (ite_slt_eq_ite_le id).symm
  | max => exact val (ite_slt_eq_ite_le Eq.symm).symm
  | and => exact val (eq_wordOfBits (fun i _ => BitVec.getLsbD_and)).symm
  | or => exact val (eq_wordOfBits (fun i _ => BitVec.getLsbD_or)).symm
  | xor => exact val (eq_wordOfBits (fun i _ => BitVec.getLsbD_xor)).symm
  | shl => exact val (shl_eq_wrap a _).symm
  | shr => exact val (shr_eq_wrap a _).symm
  | sar => exact val (sar_eq_wrap a _).symm
  | rol => exact val (rol_eq a _ hn).symm
  | ror => exact val (ror_eq a _ hn).symm
  | _ => cases h

theorem getLsbD_one_shl (n j : Nat) (hj : j < 64) : ((1#64) <<< n).getLsbD j = (j == n) := by
  rw [BitVec.getLsbD_shiftLeft, BitVec.getLsbD_one, Bool.eq_iff_iff]
  simp
  omega

theorem aluBTable_eq {o : AluBOp} {a r : Word} {i : Byte} (h : aluBTable o a i = some r) :
    (o = .addi8 ∨ i.toNat < 64) ∧ withByte o a i = r := by
  have small : ∀ {x : Word}, (if i.toNat < 64 then some x else none) = some r → i.toNat < 64 ∧ i.toNat % 64 = i.toNat ∧ x = r := by
    intro x hx
    split at hx
    · next hi => exact ⟨hi, Nat.mod_eq_of_lt hi, Option.some.inj hx⟩
    · cases hx
  cases o with
  | addi8 => exact ⟨.inl rfl, by rw [← Option.some.inj h, wrap_add, wrap_toInt]; rfl⟩
  | shli =>
    obtain ⟨hi, hm, rfl⟩ := small h
    exact ⟨.inr hi, by rw [← shl_eq_wrap, withByte, hm]⟩
  | shri =>
    obtain ⟨hi, hm, rfl⟩ := small h
    exact ⟨.inr hi, by rw [← shr_eq_wrap, withByte, hm]⟩
  | sari =>
    obtain ⟨hi, hm, rfl⟩ := small h
    exact ⟨.inr hi, by rw [← sar_eq_wrap, withByte, hm]⟩
  | bset =>
    obtain ⟨hi, hm, rfl⟩ := small h
    exact ⟨.inr hi, eq_wordOfBits (fun j hj => by rw [withByte, hm, BitVec.getLsbD_or, getLsbD_one_shl _ _ hj])⟩
  | bclr =>
    obtain ⟨hi, hm, rfl⟩ := small h
    exact ⟨.inr hi, eq_wordOfBits (fun j hj => by
      rw [withByte, hm, BitVec.getLsbD_and, BitVec.getLsbD_not, getLsbD_one_shl _ _ hj, decide_eq_true hj, Bool.true_and]; rfl)⟩
  | btst =>
    obtain ⟨hi, hm, rfl⟩ := small h
    exact ⟨.inr hi, by rw [withByte, hm]; rfl⟩
  | rori =>
    obtain ⟨hi, hm, rfl⟩ := small h
    exact ⟨.inr hi, by rw [withByte, hm]; exact ror_eq a _ hi⟩

theorem andi32_eq (a : Word) (i : W32) :
    a &&& sx i = wordOfBits (fun j => a.getLsbD j && i.getLsbD (if j < 32 then j else 31)) := by
  apply eq_wordOfBits
  intro j hj
  rw [BitVec.getLsbD_and, sx, BitVec.getLsbD_signExtend, decide_eq_true hj, Bool.true_and]
  congr 1
  split
  · rfl
  · exact BitVec.msb_eq_getLsbD_last i

end Sys2Proof.Machine
end

section
namespace Sys2Proof.Machine

/-! ### Replacing the entries of the current stack leaves the rest of the core -/

@[simp] theorem Core.setOps_ops (k : Core) (l : List Word) : (k.setOps l).ops = l := by
  unfold Core.setOps Core.ops Core.setWin Core.win
  cases k.dfWin <;> cases k.trapWin <;> rfl

@[simp] theorem Core.setOps_setOps (k : Core) (l m : List Word) : (k.setOps l).setOps m = k.setOps m := by
  unfold Core.setOps Core.setWin Core.win
  cases k.dfWin <;> cases k.trapWin <;> rfl

/-- Whatever a function of cores does not see of the windows and the ring, it does not see of the entries. -/
theorem Core.setOps_proj {α : Type} (g : Core → α) (hd : ∀ k w, g { k with dfWin := w } = g k) (ht : ∀ k w, g { k with trapWin := w } = g k)
    (hs : ∀ k t, g { k with stk := t } = g k) (k : Core) (l : List Word) : g (k.setOps l) = g k := by
  unfold Core.setOps Core.setWin
  split
  · split
    · exact hd _ _
    · exact ht _ _
  · exact hs _ _

section
variable (k : Core) (l : List Word)
@[simp] theorem Core.setOps_cstat : (k.setOps l).cstat = k.cstat :=
  Core.setOps_proj Core.cstat (fun _ _ => rfl) (fun _ _ => rfl) (fun _ _ => rfl) k l
@[simp] theorem Core.setOps_pend : (k.setOps l).pend = k.pend :=
  Core.setOps_proj Core.pend (fun _ _ => rfl) (fun _ _ => rfl) (fun _ _ => rfl) k l
@[simp] theorem Core.setOps_stepOne : (k.setOps l).stepOne = k.stepOne :=
  Core.setOps_proj Core.stepOne (fun _ _ => rfl) (fun _ _ => rfl) (fun _ _ => rfl) k l
@[simp] theorem Core.setOps_sb : (k.setOps l).sb = k.sb :=
  Core.setOps_proj Core.sb (fun _ _ => rfl) (fun _ _ => rfl) (fun _ _ => rfl) k l
@[simp] theorem Core.setOps_ptroot : (k.setOps l).ptroot = k.ptroot :=
  Core.setOps_proj Core.ptroot (fun _ _ => rfl) (fun _ _ => rfl) (fun _ _ => rfl) k l
@[simp] theorem Core.setOps_slice : (k.setOps l).slice = k.slice :=
  Core.setOps_proj Core.slice (fun _ _ => rfl) (fun _ _ => rfl) (fun _ _ => rfl) k l
@[simp] theorem Core.setOps_dbgctl : (k.setOps l).dbgctl = k.dbgctl :=
  Core.setOps_proj Core.dbgctl (fun _ _ => rfl) (fun _ _ => rfl) (fun _ _ => rfl) k l
end

/-! ### Instructions that replace their operands by one result -/

theorem pop1_ok {c : CoreId} {a : Word} {f t : State} (h : popN c 1 f = .ok [a] t) : pop1 c f = .ok a t := by
  unfold pop1; rw [bind_ok h]; rfl
theorem pop2_ok {c : CoreId} {a b : Word} {f t : State} (h : popN c 2 f = .ok [b, a] t) : pop2 c f = .ok (a, b) t := by
  unfold pop2; rw [bind_ok h]; rfl
theorem pop3_ok {c : CoreId} {a b d : Word} {f t : State} (h : popN c 3 f = .ok [d, b, a] t) : pop3 c f = .ok (a, b, d) t := by
  unfold pop3; rw [bind_ok h]; rfl

/-- The end of an instruction with one result. -/
def pushSeq (c : CoreId) (r : Word) : Op Next := do
  push c r
  return .seq

/-- An instruction that pops `l` and then pushes `r` completes with `r` in the place of `l`. -/
theorem completes_of_popPush {c : CoreId} {op : CoreOp} {s : State} {l rest : List Word} {r : Word} {n : Nat} (h : Ready c op s)
    (hn : (opBytes op).length = n) (hl : (s.core c).holds l rest) (hr : ((s.core c).setOps rest).room 1)
    (hb : ∀ f t : State, popN c l.length f = .ok l t → runOp (ctxOf s c (opBytes op)) op f = pushSeq c r t) :
    Completes c s (execCore c op s) ((s.core c).setOps (r :: rest)) ((s.core c).pc + BitVec.ofNat 64 n) := by
  subst hn
  refine exec_completes h (n := .seq) rfl (fun f hf => ?_) (by simp) (by simp [h.settled]) (by simp [h.noStep])
  obtain ⟨t, hpop, ht⟩ := looks_popN (looks_self c hf) hl
  obtain ⟨u, hpush, hu⟩ := looks_push ht r hr
  rw [Core.setOps_ops, Core.setOps_setOps] at hu
  exact ⟨u, by rw [hb f t hpop, pushSeq, bind_ok hpush]; rfl, hu⟩

theorem runAlu_popped {c : CoreId} {o : AluOp} {a b d r : Word} {f t : State} (hr : (aluTable o a b d).2 = some r)
    (hp : popN c (aluTable o a b d).1.reverse.length f = .ok (aluTable o a b d).1.reverse t) : runAlu c o f = pushSeq c r t := by
  have arity : aluArity o = 1 ∨ aluArity o = 2 ∨ o = .sel := by cases o <;> decide
  obtain h | h | rfl := arity
  · rw [aluTable_of_unary h] at hr hp
    cases hr
    unfold runAlu
    rw [if_pos h, bind_ok (pop1_ok hp)]
    rfl
  · rw [aluTable_of_binary h] at hr hp
    have hd : (isDivide o && b == 0) = false := by
      by_contra hd
      rw [Bool.not_eq_false] at hd
      simp only [hd, if_true] at hr
      cases hr
    simp only [hd, Bool.false_eq_true, if_false, Option.some.injEq] at hr
    subst hr
    unfold runAlu
    rw [if_neg (by omega), if_neg (by omega), bind_ok (pop2_ok hp)]
    simp only [hd, Bool.false_eq_true, if_false]
    rfl
  · cases hr
    unfold runAlu
    rw [if_neg (by decide), if_pos (by decide), bind_ok (pop3_ok hp)]
    by_cases hd : d = 0 <;> simp [hd, pushSeq]

theorem legal_ok {b : Bool} (h : b = true) (s : State) : legal b s = .ok () s := by
  rw [legal, if_pos h]; rfl

theorem runAluB_popped {c : CoreId} {o : AluBOp} {i : Byte} {a r : Word} {f t : State} (hr : aluBTable o a i = some r)
    (hp : popN c 1 f = .ok [a] t) : runAluB c o i f = pushSeq c r t := by
  obtain ⟨hlegal, rfl⟩ := aluBTable_eq hr
  unfold runAluB
  rw [bind_ok (legal_ok (by simpa using hlegal) f), bind_ok (pop1_ok hp)]
  rfl

theorem runAddi32_popped {c : CoreId} {i : W32} {a : Word} {f t : State} (hp : popN c 1 f = .ok [a] t) :
    runAluW c .addi32 i f = pushSeq c (a + sx i) t := by
  unfold runAluW
  rw [bind_ok (pop1_ok hp)]
  rfl

theorem runAndi32_popped {c : CoreId} {i : W32} {a : Word} {f t : State} (hp : popN c 1 f = .ok [a] t) :
    runAluW c .andi32 i f = pushSeq c (a &&& sx i) t := by
  unfold runAluW
  rw [bind_ok (pop1_ok hp)]
  rfl

theorem runField_popped {c : CoreId} {o : FieldOp} {p l : Byte} {a b : Word} {f t : State} (h1 : p.toNat < 64) (h2 : l.toNat < 64)
    (h3 : p.toNat + l.toNat + 1 ≤ 64)
    (hp : popN c (fieldTable o a b p.toNat (l.toNat + 1)).1.reverse.length f = .ok (fieldTable o a b p.toNat (l.toNat + 1)).1.reverse t) :
    runField c o p l f = pushSeq c (fieldTable o a b p.toNat (l.toNat + 1)).2 t := by
  have hn : l.toNat + 1 ≤ 64 := by omega
  unfold runField
  rw [bind_ok (legal_ok (by simp [h1, h2, h3]) f)]
  cases o with
  | extu =>
    dsimp only
    rw [bind_ok (pop1_ok hp), extu_eq a _ _ hn]
    rfl
  | exts =>
    dsimp only
    rw [bind_ok (pop1_ok hp), exts_eq a _ _ (Nat.succ_pos _) hn]
    rfl
  | ins =>
    dsimp only
    rw [bind_ok (pop2_ok hp)]
    dsimp only
    rw [insField_eq a b _ _ hn]
    rfl

/-! ### The commands of integer instructions -/

theorem exec_aluInstr (c : CoreId) (o : AluOp) (s : State) : exec (aluInstr c o) s = execCore c (.alu o) s := by
  cases o <;> rfl
theorem exec_aluBInstr (c : CoreId) (i : Byte) (o : AluBOp) (s : State) : exec (aluBInstr c i o) s = execCore c (.aluB o i) s := by
  cases o <;> rfl
theorem exec_fieldInstr (c : CoreId) (p l : Byte) (o : FieldOp) (s : State) :
    exec (fieldInstr c p l o) s = execCore c (.fld o p l) s := by
  cases o <;> rfl

theorem exec_addi32 (c : CoreId) (i : W32) (s : State) : exec (.addi32 c i) s = execCore c (.aluW .addi32 i) s := rfl
theorem exec_andi32 (c : CoreId) (i : W32) (s : State) : exec (.andi32 c i) s = execCore c (.aluW .andi32 i) s := rfl

/-- Settles O3: each integer instruction pops its operands and pushes one word, which is the table's. -/
theorem integerResults : Obligations.IntegerResults := by
  unfold Obligations.IntegerResults
  refine ⟨?alu, ?aluB, ?addi32, ?andi32, ?fields⟩
  case alu =>
    intro c s o a b d r rest h hr hl hroom
    rw [exec_aluInstr]
    exact completes_of_popPush h rfl hl hroom (fun f t hp => runAlu_popped hr hp)
  case aluB =>
    intro c s o i a r rest h hr hl hroom
    rw [exec_aluBInstr]
    exact completes_of_popPush h rfl hl hroom (fun f t hp => runAluB_popped hr hp)
  case addi32 =>
    intro c s i a rest h hl hroom
    have hv : wrap (a.toInt + i.toInt) = a + sx i := by rw [wrap_add, wrap_toInt]; rfl
    rw [hv, exec_addi32]
    exact completes_of_popPush h rfl hl hroom (fun f t hp => runAddi32_popped hp)
  case andi32 =>
    intro c s i a rest h hl hroom
    rw [← andi32_eq, exec_andi32]
    exact completes_of_popPush h rfl hl hroom (fun f t hp => runAndi32_popped hp)
  case fields =>
    intro c s o p l a b rest h h1 h2 h3 hl hroom
    rw [exec_fieldInstr]
    exact completes_of_popPush h rfl hl hroom (fun f t hp => runField_popped h1 h2 h3 hp)

end Sys2Proof.Machine
end

section
namespace Sys2Proof.Machine

/-! ### From the command of an instruction to its end or its stop -/

theorem looks_congr {s f : State} {c : CoreId} {k j : Core} (h : Looks s c k f) (e : k.arch = j.arch) : Looks s c j f := by
  unfold Looks at h ⊢
  rw [h, arch_set, arch_set, e]

theorem routed_native {c : CoreId} {op : CoreOp} {s f : State} (h : Ready c op s) (hf : f.arch = s.arch) :
    routed op (opBytes op) (ctxOf s c (opBytes op)) f = runOp (ctxOf s c (opBytes op)) op f := by
  have hctl : f.ctl = s.ctl := (congrArg State.ctl hf :)
  have hroute : opRoute f (ctxOf s c (opBytes op)).c op (opBytes op) = .native := by
    rw [← h.native]; unfold opRoute ctlOf; rw [hctl]; rfl
  unfold routed
  rw [bind_ok (m := get) (a := f) (t := f) rfl, hroute]

/-- A command whose instruction is over after one stretch leaves that stretch's state. -/
theorem execCore_over {c : CoreId} {op : CoreOp} {s u : State} (h : Ready c op s)
    (hu : runWith c (classOf s c op (opBytes op)) (opBytes op) (routed op (opBytes op)) s = (u, .over)) :
    execCore c op s = .next (noteWait c { op := op, rep := none, units := 0 } u) := by
  have hr : runUnits c (classOf s c op (opBytes op)) (opBytes op) (routed op (opBytes op)) (65536 + 0) 0 s = u := by
    show runUnits c _ _ _ (65535 + 1) 0 s = u
    unfold runUnits
    rw [hu]
  unfold execCore execUnits
  rw [h.present]
  simp only [Bool.not_true, Bool.false_eq_true, if_false, h.can, if_true]
  rw [hr]

/-- The fetch leads to a state that looks the same, and there the body decides: where it stops, the stop is applied with only its TLB fills
kept; where it ends, the instruction retires. -/
theorem runWith_body {c : CoreId} {op : CoreOp} {s : State} (h : Ready c op s) (cls : FoldClass) :
    ∃ f : State, f.arch = s.arch ∧
      (∀ e t, runOp (ctxOf s c (opBytes op)) op f = .error e t →
        runWith c cls (opBytes op) (routed op (opBytes op)) s = (applyStop (ctxOf s c (opBytes op)) false e (keepTlb c f t), .over)) ∧
      (∀ t, runOp (ctxOf s c (opBytes op)) op f = .ok .seq t →
        runWith c cls (opBytes op) (routed op (opBytes op)) s =
          (retire (ctxOf s c (opBytes op)) cls (foldsWithLast (s.core c) cls (opBytes op).length)
            ((s.core c).sstep && decide ((s.core c).ml < 7)) .seq t, .over)) := by
  obtain ⟨f, hf, ha⟩ := fetch_breaks h
  refine ⟨f, ha, fun e t hb => ?_, fun t hb => ?_⟩
  all_goals
    rw [← routed_native h ha] at hb
    unfold runWith
    dsimp only
    change (match (do fetchCheck (ctxOf s c (opBytes op)); ibpCheck (ctxOf s c (opBytes op)) : Op Unit)
      (s.modCore c (fun k => { k with sbOpen := false })) with | .error st s1 => _ | .ok _ s1 => _) = _
    rw [hf]
    dsimp only
    change (match routed op (opBytes op) (ctxOf s c (opBytes op)) f with | .error st s2 => _ | .ok n s2 => _) = _
    rw [hb]
    rfl

theorem arch_keepTlb (c : CoreId) (f t : State) : (keepTlb c f t).arch = f.arch := arch_setCore f c _ rfl

/-- An instruction whose body meets an event changes nothing else. -/
theorem execCore_faults {c : CoreId} {op : CoreOp} {s : State} {e : FaultInfo} (h : Ready c op s)
    (hb : ∀ f : State, f.arch = s.arch → ∃ t, runOp (ctxOf s c (opBytes op)) op f = .error (.event e) t) :
    Faults c op s (execCore c op s) e := by
  obtain ⟨f, hf, hstop, -⟩ := runWith_body h (classOf s c op (opBytes op))
  obtain ⟨t, ht⟩ := hb f hf
  exact ⟨keepTlb c f t, (arch_keepTlb c f t).trans hf, execCore_over h (hstop _ t ht)⟩

/-- A core that goes on at the address after its instruction, before anything that is due there. -/
def Core.passed (x : Ctx) (last : LastIssue) (stepped : Bool) (k : Core) : Core :=
  { k with
    pc := x.next, ext := [], begun := false, bpSkip := false, rep := none, stepDue := stepped, mid := false, micro := none,
    lastIssue := some last }

/-- Retirement to the next address, with no CWR in flight, no metering and no debug step, does nothing more. -/
theorem retire_seq {x : Ctx} {t : State} (hp : (t.core x.c).pend = []) (hm : (t.core x.c).met = false)
    (ho : (t.core x.c).stepOne = false) (cls : FoldClass) (second stepped : Bool) :
    retire x cls second stepped .seq t =
      (t.modCore x.c (Core.passed x { cls := cls, pc := x.pc, second := second } stepped)).modCore x.c (fun k => { k with pend := [] }) := by
  have keep : ∀ p q : State, (p.core x.c).met = false → (p.core x.c).stepOne = false →
      (let u := if (p.core x.c).met then q else p
       if (u.core x.c).stepOne && !(u.core x.c).halted then u.modCore x.c (fun k => haltCore k 3) else u) = p := by
    intro p q hm ho; simp [hm, ho]
  have hland := landDue_none (s := t.modCore x.c (Core.passed x { cls := cls, pc := x.pc, second := second } stepped)) (c := x.c)
    (by rw [core_modCore]; exact hp)
  have hcore := congrArg (State.core · x.c) hland
  simp only [core_modCore] at hcore
  rw [← hland]
  exact keep _ _ ((congrArg Core.met hcore).trans hm) ((congrArg Core.stepOne hcore).trans ho)

/-- With `noteWait`, such a retirement leaves the core ended at the next address. -/
theorem looks_retire_seq {s t : State} {x : Ctx} {k : Core} (ht : Looks s x.c k t) (hp : k.pend = []) (hm : k.met = false)
    (ho : k.stepOne = false) (cls : FoldClass) (second : Bool) (w : WaitOp) :
    Looks s x.c (k.ended x.next) (noteWait x.c w (retire x cls second (k.sstep && decide (k.ml < 7)) .seq t)) := by
  have hcore := looks_core ht
  have hmet : (t.core x.c).met = false := (congrArg Core.met hcore :).trans hm
  rw [retire_seq ((congrArg Core.pend hcore :).trans hp) hmet ((congrArg Core.stepOne hcore :).trans ho)]
  have h1 := looks_upd ht (Core.passed x { cls := cls, pc := x.pc, second := second } (k.sstep && decide (k.ml < 7))) (fun _ => rfl)
  have h2 := looks_upd h1 (fun j => { j with pend := [] }) (fun _ => rfl)
  have h3 := looks_upd h2 (fun j => { j with waitOp := if j.ext.isEmpty then none else some w }) (fun _ => rfl)
  exact looks_congr h3 (by unfold Core.passed Core.ended Core.arch; simp [hp])

/-- An instruction whose body ends completes in the state that it leaves, memory included. -/
theorem execCore_completes {c : CoreId} {op : CoreOp} {s s' : State} {k : Core} (h : Ready c op s)
    (hb : ∀ f : State, f.arch = s.arch → ∃ t, runOp (ctxOf s c (opBytes op)) op f = .ok .seq t ∧ Looks s' c k t)
    (hc : k.cstat = (s.core c).cstat) (hp : k.pend = []) (ho : k.stepOne = false) :
    Completes c s' (execCore c op s) k ((s.core c).pc + BitVec.ofNat 64 (opBytes op).length) := by
  obtain ⟨f, hf, -, hend⟩ := runWith_body h (classOf s c op (opBytes op))
  obtain ⟨t, ht, hl⟩ := hb f hf
  have hm : k.met = false := by rw [← h.unmetered]; unfold Core.met; rw [hc]
  have hs : ((s.core c).sstep && decide ((s.core c).ml < 7)) = (k.sstep && decide (k.ml < 7)) := by
    unfold Core.sstep Core.ml; rw [hc]
  refine ⟨_, execCore_over h (hend t ht), ?_⟩
  rw [hs]
  exact looks_retire_seq (x := ctxOf s c (opBytes op)) hl hp hm ho _ _ _

end Sys2Proof.Machine
end

section
namespace Sys2Proof.Machine

/-! ### Local targets -/

/-- What software does not see does not move a target. -/
theorem target_arch {s t : State} (h : t.arch = s.arch) : target t = target s := by
  have e : ∀ i : State, target i = target i.arch := fun _ => rfl
  rw [e t, e s, h]

theorem looks_target {s t : State} {c : CoreId} {k : Core} (h : Looks s c k t) : target t = target s :=
  (target_arch h).trans rfl

theorem localTarget_dram {s : State} {x a : Nat} (h : localTarget s x = .dram a) : x = a := by
  unfold localTarget at h
  dsimp only at h
  split_ifs at h
  all_goals simp_all

theorem localTarget_spm {s : State} {x a : Nat} {b : BankId} (h : localTarget s x = .spm b a) : x = a := by
  unfold localTarget at h
  dsimp only at h
  split_ifs at h
  all_goals simp_all

/-- A physical address below 2^40 is a local one. -/
theorem target_low (s : State) {a : Nat} (h : a < 2 ^ 40) : target s a = localTarget s a := by
  have h0 : a / 2 ^ 52 % 2 = 0 := by omega
  have h1 : a / 2 ^ 40 = 0 := by omega
  unfold target
  rw [if_pos h0, h1, Nat.mod_eq_of_lt h]
  rfl

/-- The target of an address is that of its offset, where it is a local one. -/
theorem target_eq_local {s : State} {x : Nat} {T : Target} (h : target s x = T) (hT : (∃ a, T = .dram a) ∨ ∃ b a, T = .spm b a) :
    localTarget s (x % 2 ^ 40) = T := by
  unfold target at h
  dsimp only at h
  split at h
  · split at h
    · exact h
    · subst h; simp at hT
  · split at h
    · exact h
    all_goals subst h; simp at hT

/-- The local form of a DRAM address names the same place. -/
theorem target_dram_self {s : State} {x a : Nat} (h : target s x = .dram a) : target s a = .dram a := by
  have hl := target_eq_local h (.inl ⟨a, rfl⟩)
  have ha := localTarget_dram hl
  rw [target_low s (by omega), ← ha, hl, ha]

/-- The local form of a scratchpad address names the same place. -/
theorem target_spm_self {s : State} {x a : Nat} {b : BankId} (h : target s x = .spm b a) : target s a = .spm b a := by
  have hl := target_eq_local h (.inr ⟨b, a, rfl⟩)
  have ha := localTarget_spm hl
  rw [target_low s (by omega), ← ha, hl, ha]

/-! ### A data access at a local place -/

theorem sound_arch {s t : State} (h : t.arch = s.arch) : t.sound = s.sound := by
  have e : ∀ i : State, i.sound = i.arch.sound := fun _ => rfl
  rw [e t, e s, h]

theorem noLog_arch {s t : State} (h : t.arch = s.arch) : t.noLog = s.noLog := by
  have e : ∀ i : State, i.noLog = i.arch.noLog := fun _ => rfl
  rw [e t, e s, h]

theorem arch_withMem {s t : State} (h : t.arch = s.arch) (m : List Host.Cell) :
    ({ t with mem := m } : State).arch = ({ s with mem := m } : State).arch :=
  congrArg (fun i : State => { i with mem := m }) h

theorem looks_withMem {s t : State} {c : CoreId} {k : Core} (h : Looks s c k t) (m : List Host.Cell) :
    Looks { s with mem := m } c k { t with mem := m } := arch_withMem h m

/-- What `DataAt` says stays true while core `c` keeps its translation, its slice and its data breakpoints. -/
theorem dataAt_looks {c : CoreId} {s t : State} {k : Core} {va : Word} {n a : Nat} (h : DataAt c s va n a) (ht : Looks s c k t)
    (hp : k.ptroot = (s.core c).ptroot) (hs : k.slice = (s.core c).slice) (hd : k.dbgctl = (s.core c).dbgctl) : DataAt c t va n a := by
  have hcore := looks_core ht
  have e1 : (t.core c).ptroot = (s.core c).ptroot := (congrArg Core.ptroot hcore :).trans hp
  have e2 : (t.core c).slice = (s.core c).slice := (congrArg Core.slice hcore :).trans hs
  have e3 : (t.core c).dbgctl = (s.core c).dbgctl := (congrArg Core.dbgctl hcore :).trans hd
  have e4 : t.slices = s.slices := (congrArg State.slices ht :)
  have e5 : t.banks = s.banks := (congrArg State.banks ht :)
  exact { stage1 := by rw [e1]; exact h.stage1
          stage2 := by unfold State.slice; rw [e2, e4]; exact h.stage2
          small := h.small, some := h.some, page := h.page
          noBreak := by rw [e3]; exact h.noBreak
          place := by rw [looks_target ht, e5]; exact h.place
          clean := by rw [sound_arch ht]; exact h.clean }

theorem mapM_singleton_ok {α β : Type} {f : α → Op β} {x : α} {y : β} {s t : State} (h : f x s = .ok y t) :
    [x].mapM f s = .ok [y] t := by
  rw [List.mapM_cons, bind_ok h]
  rfl

theorem forM_singleton_ok {α : Type} {f : α → Op PUnit} {x : α} {s t : State} (h : f x s = .ok () t) : [x].forM f s = .ok () t := by
  show (f x >>= fun _ => [].forM f) s = _
  rw [bind_ok h]
  rfl

/-- The part of an access in one page while both stages are off. -/
def flatPart (va : Word) (n : Nat) : Part := { va := va, len := n, tr := { pa := va.toNat, gpa := va.toNat, nc := false, x := true } }

/-- The checked part of an access at a local place. -/
def localPart (va : Word) (n a : Nat) : Part := { va := va, len := n, tr := { pa := a, gpa := va.toNat, nc := false, x := true } }

section
variable {c : CoreId} {s : State} {va : Word} {n a : Nat}

theorem translate_local (h : DataAt c s va n a) (acc : Acc) :
    translate c acc va s = .ok { pa := va.toNat, gpa := va.toNat, nc := false, x := true } s := by
  have hf : fieldOf va 53 11 = 0 := by
    apply BitVec.eq_of_toNat_eq
    rw [fieldOf, BitVec.extractLsb'_toNat, Nat.shiftRight_eq_div_pow, Nat.div_eq_of_lt h.small]
    rfl
  unfold translate
  rw [bind_ok (m := get) (a := s) (t := s) rfl]
  simp [h.stage1, h.stage2, hf]
  rfl

theorem checkTarget_local (h : DataAt c s va n a) (u : Use) (total : Nat) :
    checkTarget c u (flatPart va n) total s = .ok () s := by
  obtain ⟨-, -, -, hlost, -⟩ := h.clean
  unfold checkTarget
  rw [bind_ok (m := get) (a := s) (t := s) rfl]
  obtain hd | ⟨b, hb, hown, hreq, hpw, hdone⟩ := h.place
  · dsimp only [flatPart]
    rw [hd, hlost]
    simp
    rfl
  · dsimp only [flatPart]
    rw [hb]
    dsimp only
    unfold checkBank
    rw [bind_ok (m := get) (a := s) (t := s) rfl]
    simp [hown, hreq, hpw, hdone]
    rfl

theorem localAddr_local (h : DataAt c s va n a) : localAddr s va.toNat = a := by
  unfold localAddr
  obtain hd | ⟨b, hb, -⟩ := h.place
  · rw [hd]
  · rw [hb]

/-- A checked access at a local place is one part and changes nothing. -/
theorem checkAccess_local (h : DataAt c s va n a) (u : Use) : checkAccess c u va n s = .ok [localPart va n a] s := by
  have hsplit : splitPages va n = [(va, n)] := by
    unfold splitPages
    dsimp only
    rw [if_pos (by have := h.page; omega)]
  unfold checkAccess
  rw [hsplit, bind_ok (mapM_singleton_ok (x := (va, n)) (y := flatPart va n) (t := s) ?part),
    bind_ok (forM_singleton_ok (f := fun p => checkTarget c u p n) (checkTarget_local h u n)),
    bind_ok (m := get) (a := s) (t := s) rfl, List.map_singleton]
  case part =>
    dsimp only
    rw [bind_ok (translate_local h u.acc)]
    rfl
  dsimp only [flatPart]
  rw [localAddr_local h]
  rfl

theorem dbpMatch_off {k : Core} (h : fieldOf k.dbgctl 4 2 = 0) (i : Fin 2) (ld st : Bool) (va : Word) (n : Nat) :
    dbpMatch k i ld st va n = none := by
  have hb : bitOf k.dbgctl (4 + i.val) = false := by
    have := congrArg (fun x : BitVec 2 => x.getLsbD i.val) h
    simpa [fieldOf, bitOf, BitVec.getLsbD_extractLsb', i.isLt] using this
  unfold dbpMatch
  simp [hb]

theorem dbpCheck_off (h : fieldOf (s.core c).dbgctl 4 2 = 0) (accs : List (Word × Nat)) (ld st : Bool) (eidx : Byte)
    (sts : List (Word × Nat)) : dbpCheck c accs ld st eidx sts s = .ok () s := by
  unfold dbpCheck
  rw [bind_ok (m := core c) (a := s.core c) (t := s) rfl]
  simp [dbpMatch_off h]
  rfl

theorem drainAll_empty (h : (s.core c).sb = []) : drainAll c s = .ok () s := by
  unfold drainAll
  rw [bind_ok (m := core c) (a := s.core c) (t := s) rfl, h]
  rfl

theorem forward_empty (h : (s.core c).sb = []) (x m : Nat) : forward c x m s = .ok none s := by
  unfold forward
  rw [bind_ok (m := core c) (a := s.core c) (t := s) rfl, h]
  rfl

theorem remoteHolds_sound (h : s.sound) (l : Nat) (w : Bool) : remoteHolds s l w = false := by
  obtain ⟨hdir, -⟩ := h
  rw [remoteHolds, hdir]
  rfl

theorem badLine_sound (h : s.sound) (l : Nat) : badLine s c l = none := by
  obtain ⟨-, hue, hpat, -, hpois, -⟩ := h
  simp [badLine, hue, hpat, hpois]

theorem target_localPart (h : DataAt c s va n a) :
    target s (localPart va n a).tr.pa = .dram a ∨ ∃ b, target s (localPart va n a).tr.pa = .spm b a := by
  obtain hd | ⟨b, hb, -⟩ := h.place
  · exact .inl (target_dram_self hd)
  · exact .inr ⟨b, target_spm_self hb⟩

theorem memType_localPart (h : DataAt c s va n a) : (memType s (localPart va n a).tr == .device) = false := by
  unfold memType
  obtain hd | ⟨b, hb⟩ := target_localPart h
  · rw [hd]; rfl
  · rw [hb]; rfl

/-- A read at a local place with the store buffer empty gives what memory holds there, and changes nothing but caches. -/
theorem loadPart_local (h : DataAt c s va n a) (hr : s.remote = []) (hsb : (s.core c).sb = []) :
    ∃ t, loadPart c false (localPart va n a) s = .ok (memRead s.mem a n) t ∧ t.arch = s.arch := by
  obtain ⟨-, -, -, -, -, hspm, hce⟩ := h.clean
  unfold loadPart
  rw [bind_ok (m := get) (a := s) (t := s) rfl]
  simp only [memType_localPart h, Bool.false_and, Bool.false_eq_true, if_false, Bool.or_false]
  rw [bind_ok (forward_empty hsb _ _)]
  dsimp only
  rw [bind_ok (m := get) (a := s) (t := s) rfl]
  obtain hd | ⟨b, hb⟩ := target_localPart h
  · rw [hd]
    have hno : (linesOf a n).find? (fun l => remoteHolds s l false) = none := by simp [remoteHolds_sound h.clean]
    have hok : (linesOf a n).findSome? (fun l => (badLine s c l).map (fun m => (m, l))) = none := by simp [badLine_sound h.clean]
    have harch := arch_cacheRead s c a n hr hce
    have hmem : (cacheRead s c a n).2.mem = s.mem := (congrArg State.mem harch :)
    refine ⟨(cacheRead s c a n).2, ?_, harch⟩
    dsimp only [localPart]
    rw [hno]
    dsimp only
    rw [hok]
    show EStateM.Result.ok (memRead (cacheRead s c a n).2.mem a n) _ = _
    rw [hmem]
  · rw [hb]
    have hno : spmFirstUe s a n = none := by simp [spmFirstUe, hspm]
    refine ⟨spmNoteCe s b a n, ?_, by rw [spmNoteCe_none s b a n hce]⟩
    dsimp only [localPart]
    rw [hno]
    rfl

end

/-! ### Writes at a local place -/

/-- A loop whose steps change nothing that software sees, under a condition on what it sees. -/
theorem arch_foldl_while {α : Type} {f : State → α → State} {P : State → Prop} (hP : ∀ {s t : State}, t.arch = s.arch → P s → P t)
    (h : ∀ s a, P s → (f s a).arch = s.arch) (l : List α) : ∀ s : State, P s → (l.foldl f s).arch = s.arch := by
  induction l with
  | nil => intro s _; rfl
  | cons a t ih =>
    intro s hs
    have e := h s a hs
    rw [List.foldl_cons, ih _ (hP e hs), e]

theorem arch_dropCopies (s : State) (keep : Option CoreId) (l : Nat) : (dropCopies s keep l).arch = s.arch := by
  unfold dropCopies
  dsimp only
  refine (arch_foldl_while (P := fun _ => True) (f := fun (s : State) (k : ClusterId) => { s with l2 := s.l2.set k.val (l2Drop s.l2[k.val] l) })
    (fun _ _ => trivial) (fun _ _ _ => rfl) _ _ trivial).trans ?_
  exact arch_foldl_while (P := fun _ => True) (f := fun (s : State) (c : CoreId) => s.modCore c (fun k => { k with l1d := l1Drop k.l1d l }))
    (fun _ _ => trivial) (fun s c _ => arch_setCore s c _ rfl) _ _ trivial

theorem arch_cacheWrite {s : State} (c : CoreId) (a : Nat) (d : List (Option Byte)) (hr : s.remote = []) (hs : s.sound) :
    (cacheWrite s c a d).arch = ({ s with mem := memWriteMask s.mem a d } : State).arch := by
  have look : ∀ {s t : State}, t.arch = s.arch → s.remote = [] ∧ s.sound → t.remote = [] ∧ t.sound :=
    fun e h => ⟨(arch_remote e).trans h.1, (sound_arch e).mpr h.2⟩
  have step : ∀ u : State, u.arch = s.arch →
      ({ u with mem := memWriteMask u.mem a d } : State).arch = ({ s with mem := memWriteMask s.mem a d } : State).arch :=
    fun u e => by rw [show u.mem = s.mem from (congrArg State.mem e :)]; exact arch_withMem e _
  unfold cacheWrite
  refine step _ (arch_foldl_while look (fun s l h => ?_) _ s ⟨hr, hs⟩)
  have hf := (arch_fillL1d (dropCopies s (some c) l) c l (look (arch_dropCopies s _ l) h).1).trans (arch_dropCopies s _ l)
  generalize fillL1d (dropCopies s (some c) l) c l = v at hf ⊢
  obtain ⟨-, -, hue, hpat, -⟩ := look hf h
  have hnp : l ∉ v.pattern := by rw [hpat]; exact List.not_mem_nil
  have hnu : l ∉ v.dramUe := by rw [hue]; exact List.not_mem_nil
  simp only [hnp, hnu, if_false]
  split
  · exact hf
  · exact hf

theorem slice_not_logging {s : State} (h : s.noLog) (n : SliceId) : (s.slices[n.val].state == 2#3) = false := by
  have := h.1 (BitVec.ofNat 6 n.val)
  unfold State.slice at this
  simpa [Nat.mod_eq_of_lt n.isLt] using this

theorem logGuest_noLog {s : State} (h : s.noLog) (n : SliceId) (g : Nat) : logGuest s n g = s := by
  unfold logGuest
  simp only [slice_not_logging h n, Bool.false_and, Bool.false_eq_true, if_false]

theorem logSpm_noLog {s : State} (h : s.noLog) (b : BankId) (k : Nat) : logSpm s b k = s := by
  have hn : (List.finRange 64).find? (fun n : SliceId => s.slices[n.val].state == 2#3 && s.slices[n.val].banks.getLsbD b.val) = none := by
    simp only [slice_not_logging h, Bool.false_and, List.find?_eq_none, Bool.false_eq_true, not_false_eq_true, implies_true]
  unfold logSpm
  rw [hn]

theorem spmWrite_sound {s : State} (hs : s.sound) (hl : s.noLog) (b : BankId) (a : Nat) (d : List (Option Byte)) :
    spmWrite s b a d = { s with mem := memWriteMask s.mem a d } := by
  obtain ⟨-, -, -, -, -, hue, hce⟩ := hs
  have hce' : ∀ ws : List Nat, ws.foldl (fun s w => spmNoteCe s b w 8) s = s :=
    fun ws => List.foldl_fixed' (fun w => spmNoteCe_none s b w 8 hce) ws
  have hmem : ({ s with spmCe := [], spmUe := [], mem := memWriteMask s.mem a d } : State) = { s with mem := memWriteMask s.mem a d } := by
    cases s; cases hue; cases hce; rfl
  unfold spmWrite
  simp only [hce', hue, hce, List.filter_nil, hmem]
  split
  · exact logSpm_noLog (s := { s with mem := memWriteMask s.mem a d }) hl b _
  · rfl

theorem memWriteMask_map_some (m : List Host.Cell) (a : Nat) (d : List Byte) : memWriteMask m a (d.map some) = memWrite m a d := by
  induction d generalizing m a with
  | nil => rfl
  | cons v t ih => exact ih _ _

end Sys2Proof.Machine
end

section
namespace Sys2Proof.Machine

/-! ### The value of an atomic -/

theorem loadValue_unsigned (d : List Byte) : loadValue d false = wordOfLe d := wrap_natCast _

theorem leBytes_eq_storeBytes (v : Word) (n : Nat) : leBytes n v.toNat = storeBytes v n := leBytes_eq_map n v.toNat

/-- The width of an atomic's form in bytes. -/
def atomBytes (wide : Bool) : Nat := if wide then 8 else 4

/-- A word cut to the width of its form is the word of its low bytes. -/
theorem width_eq_ofNat (wide : Bool) (x : Word) :
    (if wide then x else zx (fieldOf x 0 32)) = BitVec.ofNat 64 (x.toNat % 2 ^ (8 * atomBytes wide)) := by
  cases wide with
  | true => exact BitVec.eq_of_toNat_eq (by simp [atomBytes, Nat.mod_eq_of_lt x.isLt])
  | false => rw [← wrap_natCast]; exact zx_low x 32

theorem atomResult_eq (o : AtomOp) (wide : Bool) (old a b : Word) :
    atomResult o wide old a b = (atomTable o (atomBytes wide) old a b).map (BitVec.ofNat 64) := by
  have hlt : ∀ x : Word, x.toNat % 2 ^ (8 * atomBytes wide) < 2 ^ 64 := fun x => lt_of_le_of_lt (Nat.mod_le _ _) x.isLt
  have hdvd : 2 ^ (8 * atomBytes wide) ∣ 2 ^ 64 := Nat.pow_dvd_pow 2 (by cases wide <;> decide)
  cases o with
  | cas =>
    have hc : (old == BitVec.ofNat 64 (a.toNat % 2 ^ (8 * atomBytes wide))) = decide (old.toNat = a.toNat % 2 ^ (8 * atomBytes wide)) := by
      rw [Bool.eq_iff_iff, beq_iff_eq, decide_eq_true_eq, ← BitVec.toNat_inj, BitVec.toNat_ofNat, Nat.mod_eq_of_lt (hlt a)]
    simp only [atomResult, width_eq_ofNat, hc, decide_eq_true_eq, atomTable]
    split <;> rfl
  | xchg => simp only [atomResult, width_eq_ofNat, atomTable, Option.map_some]
  | xadd => simp only [atomResult, width_eq_ofNat, atomTable, Option.map_some, BitVec.toNat_add, Nat.mod_mod_of_dvd _ hdvd]

/-- Memory after an atomic that found `old` at `la`. -/
def atomMem (m : List Host.Cell) (la : Nat) (o : AtomOp) (n : Nat) (old a b : Word) : List Host.Cell :=
  match atomTable o n old a b with
  | some v => memWrite m la (storeBytes (BitVec.ofNat 64 v) n)
  | none => m

/-- Only CAS looks at its second operand. -/
theorem atomMem_cas (m : List Host.Cell) (la : Nat) (o : AtomOp) (n : Nat) (old a b : Word) :
    atomMem m la o n old a (if o = .cas then b else 0) = atomMem m la o n old a b := by
  cases o with
  | cas => rw [if_pos rfl]
  | xchg => rfl
  | xadd => rfl

theorem atomMem_of_some {o : AtomOp} {n v : Nat} {old a b : Word} (h : atomTable o n old a b = some v) (m : List Host.Cell) (la : Nat) :
    atomMem m la o n old a b = memWrite m la (storeBytes (BitVec.ofNat 64 v) n) := by
  rw [atomMem, h]

theorem atomMem_of_none {o : AtomOp} {n : Nat} {old a b : Word} (h : atomTable o n old a b = none) (m : List Host.Cell) (la : Nat) :
    atomMem m la o n old a b = m := by
  rw [atomMem, h]

/-! ### The read-modify-write at a local place -/

theorem arch_cacheWrite_bytes {c : CoreId} {s u : State} (hu : u.arch = s.arch) (hr : s.remote = []) (hs : s.sound) (a : Nat) (d : List Byte) :
    (cacheWrite u c a (d.map some)).arch = ({ s with mem := memWrite s.mem a d } : State).arch := by
  rw [arch_cacheWrite c a _ ((arch_remote hu).trans hr) ((sound_arch hu).mpr hs), memWriteMask_map_some,
    show u.mem = s.mem from (congrArg State.mem hu :)]
  exact arch_withMem hu _

theorem arch_spmWrite_bytes {s u : State} (hu : u.arch = s.arch) (hs : s.sound) (hl : s.noLog) (b : BankId) (a : Nat) (d : List Byte) :
    (spmWrite u b a (d.map some)).arch = ({ s with mem := memWrite s.mem a d } : State).arch := by
  rw [spmWrite_sound ((sound_arch hu).mpr hs) ((noLog_arch hu).mpr hl), memWriteMask_map_some,
    show u.mem = s.mem from (congrArg State.mem hu :)]
  exact arch_withMem hu _

/-- R123: with the store buffer empty, the old value is returned and memory takes the new one, if there is one. -/
theorem atomAccess_local {c : CoreId} {s : State} {va old : Word} {la : Nat} (o : AtomOp) (wide : Bool) (a b : Word)
    (h : DataAt c s va (atomBytes wide) la) (hr : s.remote = []) (hsb : (s.core c).sb = []) (hl : s.noLog)
    (hold : loadValue (memRead s.mem la (atomBytes wide)) false = old) :
    ∃ t, atomAccess c o wide (localPart va (atomBytes wide) la) a b s = .ok old t ∧
      t.arch = ({ s with mem := atomMem s.mem la o (atomBytes wide) old a b } : State).arch := by
  obtain ⟨u, hload, hu⟩ := loadPart_local h hr hsb
  rw [loadValue_unsigned] at hold
  unfold atomAccess atomMem
  rw [bind_ok (drainAll_empty hsb), bind_ok (m := get) (a := s) (t := s) rfl]
  obtain hd | ⟨bk, hb⟩ := target_localPart h
  · rw [hd]
    have hno : (linesOf la (atomBytes wide)).find? (fun l => remoteHolds s l true) = none := by simp [remoteHolds_sound h.clean]
    change ∃ t, (match (linesOf la (atomBytes wide)).find? (fun l => remoteHolds s l true) with | some l => _ | none => _ : Op Word) s = _ ∧ _
    rw [hno]
    dsimp only
    rw [bind_ok hload, hold, atomResult_eq]
    cases atomTable o (atomBytes wide) old a b with
    | none => exact ⟨u, rfl, hu⟩
    | some v =>
      have hw := arch_cacheWrite_bytes (c := c) hu hr h.clean la (leBytes (atomBytes wide) (BitVec.ofNat 64 v).toNat)
      have hlog := logGuest_noLog ((noLog_arch hw).mpr hl)
      dsimp only [Option.map_some]
      rw [← leBytes_eq_storeBytes]
      exact ⟨_, rfl, (congrArg State.arch (hlog _ _)).trans hw⟩
  · rw [hb]
    dsimp only
    rw [bind_ok hload, hold, atomResult_eq]
    cases atomTable o (atomBytes wide) old a b with
    | none => exact ⟨u, rfl, hu⟩
    | some v =>
      dsimp only [Option.map_some]
      rw [← leBytes_eq_storeBytes]
      exact ⟨_, rfl, arch_spmWrite_bytes hu h.clean hl bk la _⟩

/-! ### The instruction -/

/-- The entries that an atomic pops, top first, as R121 gives them. -/
def atomPops (o : AtomOp) (va a b : Word) : List Word := if o = .cas then [b, a, va] else [a, va]

/-- An atomic once its operands are popped: the alignment of R122, the checks, and the access. -/
def atomPopped (c : CoreId) (o : AtomOp) (wide : Bool) (va a b : Word) : Op Next :=
  if va.toNat % atomBytes wide != 0 then throw (.event { cause := cAL, faddr := va })
  else do
    let ps ← checkAccess c .atomic va (atomBytes wide)
    dbpCheck c [(va, atomBytes wide)] true true
    match ps with
    | p :: _ => do
      push c (← atomAccess c o wide p a b)
      return .seq
    | [] => throw .stall

theorem runAtom_popped {c : CoreId} {o : AtomOp} {wide : Bool} {va a b : Word} {f t : State}
    (hp : popN c (atomPops o va a b).length f = .ok (atomPops o va a b) t) :
    runAtom c o wide f = atomPopped c o wide va a (if o = .cas then b else 0) t := by
  unfold runAtom
  cases o with
  | cas => exact bind_ok (pop3_ok hp)
  | xchg => exact bind_ok (pop2_ok hp)
  | xadd => exact bind_ok (pop2_ok hp)

theorem atomPopped_unaligned {c : CoreId} {o : AtomOp} {wide : Bool} {va a b : Word} {t : State} (h : va.toNat % atomBytes wide ≠ 0) :
    atomPopped c o wide va a b t = .error (.event { cause := 0x0A, faddr := va }) t := by
  unfold atomPopped
  rw [if_pos (by simpa using h)]
  rfl

theorem atomPopped_aligned {c : CoreId} {o : AtomOp} {wide : Bool} {va a b old : Word} {la : Nat} {t : State}
    (ha : va.toNat % atomBytes wide = 0) (h : DataAt c t va (atomBytes wide) la) (hr : t.remote = []) (hsb : (t.core c).sb = [])
    (hl : t.noLog) (hold : loadValue (memRead t.mem la (atomBytes wide)) false = old) :
    ∃ u, u.arch = ({ t with mem := atomMem t.mem la o (atomBytes wide) old a b } : State).arch ∧
      atomPopped c o wide va a b t = pushSeq c old u := by
  obtain ⟨u, haccess, hu⟩ := atomAccess_local o wide a b h hr hsb hl hold
  refine ⟨u, hu, ?_⟩
  unfold atomPopped
  rw [if_neg (by simpa using ha), bind_ok (checkAccess_local h .atomic), bind_ok (dbpCheck_off h.noBreak _ _ _ _ _)]
  dsimp only
  rw [bind_ok haccess]
  rfl

theorem exec_atomInstr (c : CoreId) (o : AtomOp) (wide : Bool) (s : State) : exec (atomInstr c o wide) s = execCore c (.atom o wide) s := by
  cases o <;> cases wide <;> rfl

section
variable {c : CoreId} {s : State} {o : AtomOp} {wide : Bool} {va a b : Word} {rest : List Word}

theorem atom_unaligned (h : Ready c (.atom o wide) s) (hp : (s.core c).holds (atomPops o va a b) rest) (ha : va.toNat % atomBytes wide ≠ 0) :
    Faults c (.atom o wide) s (execCore c (.atom o wide) s) { cause := 0x0A, faddr := va } := by
  refine execCore_faults h (fun f hf => ?_)
  obtain ⟨t, hpop, -⟩ := looks_popN (looks_self c hf) hp
  exact ⟨t, (runAtom_popped hpop).trans (atomPopped_unaligned ha)⟩

theorem atom_aligned {la : Nat} {old : Word} (h : Ready c (.atom o wide) s) (hp : (s.core c).holds (atomPops o va a b) rest)
    (ha : va.toNat % atomBytes wide = 0) (hd : DataAt c s va (atomBytes wide) la) (hsb : (s.core c).sb = []) (hl : s.noLog)
    (hroom : ((s.core c).setOps rest).room 1) (hold : loadValue (memRead s.mem la (atomBytes wide)) false = old) :
    Completes c { s with mem := atomMem s.mem la o (atomBytes wide) old a b } (execCore c (.atom o wide) s)
      ((s.core c).setOps (old :: rest)) ((s.core c).pc + 1) := by
  refine execCore_completes h (fun f hf => ?_) (by simp) (by simp [h.settled]) (by simp [h.noStep])
  obtain ⟨t, hpop, ht⟩ := looks_popN (looks_self c hf) hp
  have hmem : t.mem = s.mem := (congrArg State.mem ht :)
  have hsb' : (t.core c).sb = [] := ((congrArg Core.sb (looks_core ht) :).trans (Core.setOps_sb _ _)).trans hsb
  obtain ⟨u, hu, haccess⟩ := atomPopped_aligned (old := old) (o := o) (a := a) (b := if o = .cas then b else 0) ha
    (dataAt_looks hd ht (by simp) (by simp) (by simp)) ((arch_remote ht).trans h.noRemote) hsb' ((noLog_arch ht).mpr hl)
    (by rw [hmem]; exact hold)
  rw [hmem, atomMem_cas] at hu
  obtain ⟨v, hpush, hv⟩ := looks_push (hu.trans (looks_withMem ht _)) old hroom
  rw [Core.setOps_ops, Core.setOps_setOps] at hv
  refine ⟨v, ?_, hv⟩
  show runAtom c o wide f = _
  rw [runAtom_popped hpop, haccess, pushSeq, bind_ok hpush]
  rfl

end

/-- Settles O9: the operands go, then an unaligned address stops the atomic and an aligned one lets it read, write and push. -/
theorem atomicResults : Obligations.AtomicResults := by
  unfold Obligations.AtomicResults
  intro c s o wide va a b la rest n old h hp
  rw [exec_atomInstr]
  refine ⟨fun ha hd hsb hl hroom => ?_, fun ha => atom_unaligned h hp ha⟩
  have done := atom_aligned h hp ha hd hsb hl hroom (old := old) rfl
  cases hv : atomTable o n old a b with
  | none => rw [atomMem_of_none (n := atomBytes wide) hv] at done; exact done
  | some v => rw [atomMem_of_some (n := atomBytes wide) hv] at done; exact done

end Sys2Proof.Machine
end

section
namespace Sys2Proof.Machine

/-! ### Two roundings of one value under one mode are the same -/

/-- The four rounding modes of R137. -/
theorem roundingMode_cases (rm : BitVec 2) : rm = 0 ∨ rm = 1 ∨ rm = 2 ∨ rm = 3 := by
  decide +revert

section
variable {rm : BitVec 2} {v z z' : Int} {k : Nat}

/-- The bound of `v` from below by `z` and the one from above by `z'` leave no room for z > z'; under ties to even they leave the two sides of
a tie, and these are not both even. -/
theorem Rounded.le (hz : Rounded rm v k z) (hz' : Rounded rm v k z') : z ≤ z' := by
  have hd : (0 : Int) < 2 ^ k := by positivity
  have cancel {a b : Int} (h : a * 2 ^ k < b * 2 ^ k) : a < b := lt_of_mul_lt_mul_right h hd.le
  obtain rfl | rfl | rfl | rfl := roundingMode_cases rm
  · exact Int.lt_add_one_iff.mp (cancel (hz.1.trans_lt hz'.2))
  · have := cancel (hz.1.trans_lt hz'.2)
    omega
  · obtain ⟨hdist, heven⟩ := hz
    obtain ⟨hdist', heven'⟩ := hz'
    by_contra! hlt
    have hgap : (z' + 1) * 2 ^ k ≤ z * 2 ^ k := mul_le_mul_of_nonneg_right hlt hd.le
    rw [abs_le] at hdist hdist'
    have htie := heven ((abs_eq hd.le).mpr (.inr (by linarith)))
    have htie' := heven' ((abs_eq hd.le).mpr (.inl (by linarith)))
    have : z - 1 < z' + 1 := cancel (by linarith)
    omega
  · change ite _ _ _ at hz hz'
    split at hz <;> rename_i hv
    · rw [if_pos hv] at hz'
      exact Int.lt_add_one_iff.mp (cancel (hz.1.trans_lt hz'.2))
    · rw [if_neg hv] at hz'
      have := cancel (hz.1.trans_le hz'.2)
      omega

theorem Rounded.unique (hz : Rounded rm v k z) (hz' : Rounded rm v k z') : z = z' :=
  le_antisymm (hz.le hz') (hz'.le hz)

end

/-! ### rnd rounds in each mode -/

theorem rnd_zero (rm : BitVec 2) (v : Int) : rnd rm v 0 = v := rfl

theorem rounded_zero (rm : BitVec 2) (v : Int) : Rounded rm v 0 v := by
  obtain rfl | rfl | rfl | rfl := roundingMode_cases rm <;> simp [Rounded]

section
variable {q r : Int} {k : Nat}

theorem floor_split (h : 0 ≤ r ∧ r < 2 ^ k) : (q * 2 ^ k + r) / 2 ^ k = q := by
  rw [Int.add_comm, Int.add_mul_ediv_right _ _ (by positivity), Int.ediv_eq_zero_of_lt h.1 h.2, Int.zero_add]

/-- The sign that R137 reads off the floor is that of the value. -/
theorem split_nonneg_iff (h : 0 ≤ r ∧ r < 2 ^ k) : 0 ≤ q * 2 ^ k + r ↔ 0 ≤ q := by
  rw [← Int.ediv_nonneg_iff_of_pos (show (0 : Int) < 2 ^ k by positivity), floor_split h]

theorem rounded_down (h : 0 ≤ r ∧ r < 2 ^ (k + 1)) :
    Rounded 0 (q * 2 ^ (k + 1) + r) (k + 1) (rnd 0 (q * 2 ^ (k + 1) + r) (k + 1)) := by
  have hrnd : rnd 0 (q * 2 ^ (k + 1) + r) (k + 1) = q := floor_split h
  rw [hrnd]
  constructor <;> linarith

theorem rounded_tiesUp (h : 0 ≤ r ∧ r < 2 ^ (k + 1)) :
    Rounded 1 (q * 2 ^ (k + 1) + r) (k + 1) (rnd 1 (q * 2 ^ (k + 1) + r) (k + 1)) := by
  have hrnd : rnd 1 (q * 2 ^ (k + 1) + r) (k + 1) = if 2 ^ k ≤ r then q + 1 else q := by simp [rnd, floor_split h]
  have hhalf : (2 : Int) ^ (k + 1) = 2 * 2 ^ k := pow_succ' 2 k
  rw [hrnd]
  split <;> constructor <;> linarith

theorem rounded_tiesEven (h : 0 ≤ r ∧ r < 2 ^ (k + 1)) :
    Rounded 2 (q * 2 ^ (k + 1) + r) (k + 1) (rnd 2 (q * 2 ^ (k + 1) + r) (k + 1)) := by
  have hrnd : rnd 2 (q * 2 ^ (k + 1) + r) (k + 1) = if 2 ^ k < r ∨ r = 2 ^ k ∧ q % 2 = 1 then q + 1 else q := by
    simp [rnd, floor_split h]
  have hhalf : (2 : Int) ^ (k + 1) = 2 * 2 ^ k := pow_succ' 2 k
  rw [hrnd]
  split
  · have hdist : |2 * (q * 2 ^ (k + 1) + r) - 2 * (q + 1) * 2 ^ (k + 1)| = 2 * 2 ^ (k + 1) - 2 * r := by
      rw [abs_of_nonpos (by linarith)]
      ring
    show _ ≤ _ ∧ (_ = _ → _)
    rw [hdist]
    omega
  · have hdist : |2 * (q * 2 ^ (k + 1) + r) - 2 * q * 2 ^ (k + 1)| = 2 * r := by
      rw [abs_of_nonneg (by linarith)]
      ring
    show _ ≤ _ ∧ (_ = _ → _)
    rw [hdist]
    omega

theorem rounded_towardZero (h : 0 ≤ r ∧ r < 2 ^ (k + 1)) :
    Rounded 3 (q * 2 ^ (k + 1) + r) (k + 1) (rnd 3 (q * 2 ^ (k + 1) + r) (k + 1)) := by
  have hrnd : rnd 3 (q * 2 ^ (k + 1) + r) (k + 1) = if q < 0 ∧ r ≠ 0 then q + 1 else q := by simp [rnd, floor_split h]
  rw [hrnd]
  show ite _ _ _
  by_cases hq : 0 ≤ q
  · rw [if_pos ((split_nonneg_iff h).mpr hq), if_neg (by omega)]
    constructor <;> linarith
  · rw [if_neg (mt (split_nonneg_iff h).mp hq)]
    split
    · have hr : 0 < r := by omega
      constructor <;> linarith
    · obtain rfl : r = 0 := by omega
      constructor <;> linarith

end

theorem rounded_rnd (rm : BitVec 2) (v : Int) (k : Nat) : Rounded rm v k (rnd rm v k) := by
  cases k with
  | zero =>
    rw [rnd_zero]
    exact rounded_zero rm v
  | succ k =>
    have hd : (0 : Int) < 2 ^ (k + 1) := by positivity
    have h : 0 ≤ v % 2 ^ (k + 1) ∧ v % 2 ^ (k + 1) < 2 ^ (k + 1) := ⟨Int.emod_nonneg v hd.ne', Int.emod_lt_of_pos v hd⟩
    rw [← Int.ediv_mul_add_emod v (2 ^ (k + 1))]
    obtain rfl | rfl | rfl | rfl := roundingMode_cases rm
    · exact rounded_down h
    · exact rounded_tiesUp h
    · exact rounded_tiesEven h
    · exact rounded_towardZero h

/-- A mode names one integer, and rnd gives it (R137). -/
theorem rnd_eq_iff {rm : BitVec 2} {v z : Int} {k : Nat} : rnd rm v k = z ↔ Rounded rm v k z :=
  ⟨fun h => h ▸ rounded_rnd rm v k, (rounded_rnd rm v k).unique⟩

/-! ### fit brings a value into range -/

section
variable {sat : Bool} {v r : Int} {w : Nat} {ov : Bool}

/-- The wrapped value is the one in range that differs from `v` by a multiple of 2^w (R138). -/
theorem bmod_two_pow_eq_iff (hw : 0 < w) :
    v.bmod (2 ^ w) = r ↔ -2 ^ (w - 1) ≤ r ∧ r < 2 ^ (w - 1) ∧ (v - r) % 2 ^ w = 0 := by
  obtain ⟨n, rfl⟩ := Nat.exists_eq_add_one.mpr hw
  have hdouble : (2 : Int) ^ (n + 1) = 2 * 2 ^ n := pow_succ' 2 n
  rw [Int.bmod_eq_iff (by positivity), dvd_sub_comm, Int.dvd_iff_emod_eq_zero]
  push_cast
  omega

theorem fit_inRange (h : -2 ^ (w - 1) ≤ v ∧ v < 2 ^ (w - 1)) : fit sat v w = (v, false) := by
  simp only [fit, Bool.and_eq_true, decide_eq_true_eq]
  exact if_pos (by omega)

theorem fit_clamped (h : ¬(-2 ^ (w - 1) ≤ v ∧ v < 2 ^ (w - 1))) :
    fit true v w = (if 0 ≤ v then 2 ^ (w - 1) - 1 else -2 ^ (w - 1), true) := by
  have hpos : (0 : Int) < 2 ^ (w - 1) := by positivity
  have hside : v > 2 ^ (w - 1) - 1 ↔ 0 ≤ v := by omega
  simp only [fit, Bool.and_eq_true, decide_eq_true_eq, hside]
  rw [if_neg (by omega), if_pos trivial]

theorem fit_wrapped (h : ¬(-2 ^ (w - 1) ≤ v ∧ v < 2 ^ (w - 1))) : fit false v w = (v.bmod (2 ^ w), false) := by
  simp only [fit, Bool.and_eq_true, decide_eq_true_eq]
  rw [if_neg (by omega), if_neg Bool.false_ne_true]

theorem fit_eq_iff (hw : 0 < w) : fit sat v w = (r, ov) ↔ Fitted sat v w r ov := by
  by_cases hin : -2 ^ (w - 1) ≤ v ∧ v < 2 ^ (w - 1)
  · rw [fit_inRange hin, Fitted, if_pos hin, Prod.mk.injEq]
    exact and_congr eq_comm eq_comm
  · rw [Fitted, if_neg hin]
    cases sat with
    | true =>
      rw [fit_clamped hin, if_pos rfl, Prod.mk.injEq]
      exact and_congr eq_comm eq_comm
    | false =>
      rw [fit_wrapped hin, if_neg Bool.false_ne_true, Prod.mk.injEq, bmod_two_pow_eq_iff hw, and_assoc, and_assoc, eq_comm (a := false)]

end

/-- Settles O19: rnd rounds and a rounding is unique; fit is read off its three cases, the wrap by its residue. -/
theorem roundingAndRange : Obligations.RoundingAndRange := by
  unfold Obligations.RoundingAndRange
  exact ⟨fun _ _ _ _ _ => rnd_eq_iff, fun _ _ _ _ _ hw => fit_eq_iff (Nat.pos_of_ne_zero fun h0 => by simp [h0] at hw)⟩

end Sys2Proof.Machine
end

section
namespace Sys2Proof.Machine

/-! ### Writes of the interrupt controller's registers -/

/-- A write of an INTC register of an active complex is carried out by the controller (R412). -/
theorem regCommand_intc {o : Nat} {s : State} (ho : o < 0x10_0000) (halign : o % 4 = 0) (hactive : isActive s = true) (m : Master) (v : W32) :
    regCommand m (0x10_0000 + o) v s = intcWrite m o v s := by
  have hblock : (0x10_0000 + o) / 0x10_0000 = 1 := by omega
  have hoff : (0x10_0000 + o) % 0x10_0000 = o := by omega
  have hword : (0x10_0000 + o) % 4 = 0 := by omega
  simp [regCommand, regWaits, regWrite, hactive, hblock, hoff, hword]

theorem fieldOf_zero {w : Nat} (v : BitVec w) (n : Nat) : fieldOf v 0 n = v.setWidth n := by
  simp [fieldOf, BitVec.toNat_eq]

/-- The source that a write of INTC_CLAIM or INTC_COMPLETE names. -/
theorem source_toNat (v : W32) : (fieldOf v 0 11).toNat = v.toNat % 2048 := by
  rw [fieldOf_zero, BitVec.toNat_setWidth]

/-- Core `c` may claim and complete source `n` (R399): in PL1 its slice must own the source's group. -/
def MayServe (s : State) (c : CoreId) (n : Nat) : Prop :=
  (s.core c).pl = 1 → (s.slice (s.core c).slice).groups.getLsbD (n / 32) = true

/-- The controller's record of a claim with result `r` (R404). -/
def claimRecord (c : CoreId) (v : W32) (r : BitVec 3) (i : Intc) : Intc :=
  { i with claimSrc := i.claimSrc.set c.val (v.setWidth 11), claimRes := i.claimRes.set c.val r }

/-- The controller after the completion of the active source `n` (R405, R408): the group's hold-off starts where one is set and no source
of the group is left active. -/
def completedIntc (n : Nat) (hn : n < 1280) (i : Intc) : Intc :=
  let act := setBitAt i.active n false
  { i with
    active := act,
    held := if i.holdoff[n / 32]'(by omega) ≠ 0 ∧ act[n / 32]'(by omega) = 0 then i.held.set (n / 32) true (by omega) else i.held }

section
variable {c : CoreId} {v : W32} {s : State} {n : Nat}

/-- The test for a group of another slice that claims and completions make. -/
theorem foreign_iff : ((s.core c).pl.toNat == 1 && !(s.slice (s.core c).slice).groups.getLsbD (n / 32)) = true ↔ ¬MayServe s c n := by
  have hpl : (s.core c).pl.toNat = 1 ↔ (s.core c).pl = 1 := BitVec.toNat_inj (y := 1#2)
  simp [MayServe, hpl]

section
variable (hactive : isActive s = true) (hcore : s.hasCore c = true)
include hactive hcore

/-- A core's own write of an INTC register. -/
theorem onCore_intc {o : Nat} (ho : o < 0x10_0000) (halign : o % 4 = 0) :
    onCore c s (fun t => regCommand (coreMaster t c) (0x10_0000 + o) v t) = .next (intcWrite (coreMaster s c) o v s) := by
  rw [onCore, if_pos hcore, regCommand_intc ho halign hactive]

theorem exec_intcClaim (hpl : (s.core c).pl.toNat < 2) : exec (.intcClaim c v) s = .next (claim c (s.core c).pl.toNat v s) := by
  refine (onCore_intc (o := 0xC00) hactive hcore (by decide) rfl).trans ?_
  simp [intcWrite, coreMaster, plOf, hpl]

theorem exec_intcComplete (hpl : (s.core c).pl.toNat < 2) : exec (.intcComplete c v) s = .next (complete c (s.core c).pl.toNat v s) := by
  refine (onCore_intc (o := 0xC04) hactive hcore (by decide) rfl).trans ?_
  simp [intcWrite, coreMaster, plOf, hpl]

end

/-! ### Claims (R403, R404) -/

theorem claimResult_absent (h : 1280 ≤ n ∨ sourcePresent s n = false) : claimResult s c (s.core c).pl.toNat n = 5 :=
  if_pos (by simpa using h)

section
variable (hn : n < 1280) (hpresent : sourcePresent s n = true)
include hn hpresent

theorem claimResult_foreign (hforeign : ¬MayServe s c n) : claimResult s c (s.core c).pl.toNat n = 4 := by
  rw [claimResult, if_neg (by simp [hn, hpresent]), if_pos (foreign_iff.mpr hforeign)]

theorem claimResult_allowed (hmay : MayServe s c n) : claimResult s c (s.core c).pl.toNat n =
    if bitAt s.intc.active n then 3 else if (viewWord s c (n / 32)).getLsbD (n % 32) then 1 else 2 := by
  rw [claimResult, if_neg (by simp [hn, hpresent]), if_neg (foreign_iff.not_left.mpr hmay)]
  unfold bitOf
  cases (viewWord s c (n / 32)).getLsbD (n % 32) <;> rfl

end

theorem claim_of_unsuccessful {pl : Nat} {r : BitVec 3} (hr : claimResult s c pl (v.toNat % 2048) = r) (hfailed : r ≠ 1) :
    claim c pl v s = { s with intc := claimRecord c v r s.intc } := by
  simp only [claim, source_toNat, hr]
  rw [if_pos (bne_iff_ne.mpr hfailed), fieldOf_zero]
  rfl

theorem claim_of_successful {pl : Nat} (hr : claimResult s c pl (v.toNat % 2048) = 1) :
    claim c pl v s = { s with intc := { claimRecord c v 1 s.intc with
      active := setBitAt s.intc.active (v.toNat % 2048) true,
      latch := if bitAt s.intc.sense (v.toNat % 2048) = true then setBitAt s.intc.latch (v.toNat % 2048) false else s.intc.latch,
      pend := if bitAt s.intc.sense (v.toNat % 2048) = true then s.intc.pend else setBitAt s.intc.pend (v.toNat % 2048) false } } := by
  simp only [claim, source_toNat, hr]
  rw [if_neg (by decide), fieldOf_zero]
  split <;> rfl

/-! ### Completions (R405, R406, R408) -/

theorem complete_foreign (hn : v.toNat % 2048 < 1280) (hforeign : ¬MayServe s c (v.toNat % 2048)) :
    complete c (s.core c).pl.toNat v s = s := by
  simp only [complete, source_toNat]
  rw [if_pos (by simpa [hn] using foreign_iff.mpr hforeign)]

theorem complete_stray (h : 1280 ≤ v.toNat % 2048 ∨ MayServe s c (v.toNat % 2048) ∧ bitAt s.intc.active (v.toNat % 2048) = false) :
    complete c (s.core c).pl.toNat v s = strayComplete c (v.toNat % 2048) s := by
  have hnotForeign : ¬(v.toNat % 2048 < 1280 ∧ ¬MayServe s c (v.toNat % 2048)) := fun ⟨hlt, hforeign⟩ =>
    h.elim (Nat.not_le.mpr hlt) (fun hinactive => hforeign hinactive.1)
  simp only [complete, source_toNat]
  rw [if_neg (by rwa [Bool.and_assoc, Bool.and_eq_true, decide_eq_true_eq, foreign_iff]), if_pos]
  rcases h with hbig | ⟨-, hinactive⟩
  · simp [hbig]
  · simp [hinactive]

theorem complete_active (hn : v.toNat % 2048 < 1280) (hmay : MayServe s c (v.toNat % 2048))
    (hact : bitAt s.intc.active (v.toNat % 2048) = true) :
    complete c (s.core c).pl.toNat v s = wakeGroup (v.toNat % 2048 / 32) { s with intc := completedIntc (v.toNat % 2048) hn s.intc } := by
  have hgroup : v.toNat % 2048 / 32 < 40 := by omega
  simp only [complete, source_toNat]
  rw [if_neg (by rw [Bool.and_assoc, Bool.and_eq_true, foreign_iff]; exact fun h => h.2 hmay), if_neg (by simp [hn, hact])]
  simp [completedIntc, wordAt, hgroup]

theorem strayComplete_eq (n : Nat) : strayComplete c n s = setLeaf 7 0 c.val (tallyEvent 7 0 0 false
    { s with intc := { s.intc with strayCount := if s.intc.strayCount = 0xFFFF then 0xFFFF else s.intc.strayCount + 1,
                                   strayLast := BitVec.ofNat 32 (n + 2 ^ 16 * c.val + 2 ^ 31) } }) := by
  have hcount : (if s.intc.strayCount = 0xFFFF then s.intc.strayCount else s.intc.strayCount + 1) =
      if s.intc.strayCount = 0xFFFF then 0xFFFF else s.intc.strayCount + 1 := by
    split <;> simp [*]
  have hlast : n + c.val * 65536 + 2147483648 = n + 2 ^ 16 * c.val + 2 ^ 31 := by omega
  rw [strayComplete, hcount, hlast]

theorem exec_holdoffEnd {g : Fin 40} (hruns : fabRuns s = true) (hheld : s.intc.held[g.val] = true) :
    exec (.holdoffEnd g) s = .next (wakeGroup g.val { s with intc := { s.intc with held := s.intc.held.set g.val false } }) := by
  show Host.Outcome.next (holdoffCommand g s) = _
  rw [holdoffCommand, if_pos (by simp [hheld, hruns]), holdoffEnd]

end

/-- Settles O37: the result of a claim and the branch of a completion are read off the source's presence, owner, active bit and view bit. -/
theorem claimAndCompleteResults : Obligations.ClaimAndCompleteResults := by
  unfold Obligations.ClaimAndCompleteResults
  refine ⟨fun c v s hactive hcore hpl => ?_, fun _ _ => exec_holdoffEnd⟩
  rw [exec_intcClaim hactive hcore hpl, exec_intcComplete hactive hcore hpl]
  intro n i mine answered
  have reports {r : BitVec 3} (hr : claimResult s c (s.core c).pl.toNat n = r) (hfailed : r ≠ 1) :
      Host.Outcome.next (claim c (s.core c).pl.toNat v s) = (.next { s with intc := answered r } : Host.Outcome State Fault Refusal) :=
    congrArg _ (claim_of_unsuccessful hr hfailed)
  refine ⟨fun hn hpresent hmay hidle hview => ?_, fun hn hpresent hmay hact => ?_, fun hn hpresent hmay hidle hview => ?_,
    fun hn hpresent hforeign => ?_, fun habsent => ?_, fun hn hmay hact => ?_, fun hn hforeign => ?_, fun hstray => ?_⟩
  · exact congrArg _ (claim_of_successful (by rw [claimResult_allowed hn hpresent hmay, hidle, hview]; rfl))
  · exact reports (by rw [claimResult_allowed hn hpresent hmay, hact]; rfl) (by decide)
  · exact reports (by rw [claimResult_allowed hn hpresent hmay, hidle, hview]; rfl) (by decide)
  · exact reports (claimResult_foreign hn hpresent hforeign) (by decide)
  · exact reports (claimResult_absent habsent) (by decide)
  · exact congrArg _ (complete_active hn hmay hact)
  · exact congrArg _ (complete_foreign hn hforeign)
  · exact congrArg _ ((complete_stray hstray).trans (strayComplete_eq n))

end Sys2Proof.Machine
end
